-- ==== Sys2Proof/Word.lean ====
section
/-! DEFINITION. The plain words of the model: bytes, ticks, converter codes, and the indices of units and slots. -/

namespace Sys2Proof

/-- One byte of a frame or of the image array. -/
abbrev Byte := BitVec 8

/-- A value of the millisecond counter; differences are modulo 2^32 (R20). -/
abbrev Tick := BitVec 32

/-- A raw converter code, 0..4,095 (R1). -/
abbrev Code := BitVec 12

/-- A CRC-32 value (00_scope.md, image check). -/
abbrev Crc32 := BitVec 32

/-- The index of a unit entry, 0..23 (R54). -/
abbrev UnitIx := Fin 24

/-- The number of an image slot, 0..7 (R39). -/
abbrev SlotIx := Fin 8

end Sys2Proof
end

