-- ==== Sys2Proof/Syntax.lean ====
section
/-! DEFINITION. The commands of the part: one constructor of `Instr` for each row of spec/opcode_table.json,
and the data that commands carry. -/

namespace Sys2Proof

/-- The three segment lines. -/
inductive Seg where
  | a | b | c
deriving DecidableEq, Repr

/-- The five unit classes, in the order of their codes (R204). -/
inductive UnitClass where
  | door | ramp | dest | saloon | announce
deriving DecidableEq, Repr

/-- An image version, compared major, minor, build (R102). -/
structure Version where
  major : Byte
  minor : Byte
  build : BitVec 16
deriving DecidableEq, Repr

/-- The mode a boot report names (R98). -/
inductive Mode where
  | boot | run
deriving DecidableEq, Repr

/-- The fields of a BOOT_REPORT (R98). A mode or class byte that names none is `none`; `held` and `capability`
carry what was received, so that the well-formed test of R99 is made by the machine. The held count stands in a BOOT
report only and the context-intact word in a RUN report only; each is `none` where it is absent. -/
structure BootReport where
  mode : Option Mode
  cls : Option UnitClass
  version : Option Version
  held : Option Nat
  intact : Option Bool
  capability : Nat
  echo : List Byte
deriving DecidableEq, Repr

/-- The fields of a WINDOW_ANSWER (R141, R205). -/
structure WindowAnswer where
  start : Byte
  err : Bool
  busy : Bool
  noburst : Bool
  count : Byte
deriving DecidableEq, Repr

/-- A VERIFY_REPORT (R149). -/
inductive VerifyReport where
  | busy
  | ready (crc : Crc32)
  | malformed
deriving DecidableEq, Repr

/-- The verdict of a CONTEXT_ACK; `other` is one that carries neither word (R165). -/
inductive ContextAck where
  | applied | refused | other
deriving DecidableEq, Repr

/-- Leaf states in the order of R156, which numbers them 0..8 (R204). -/
inductive Leaf where
  | closedLocked | closed | opening | opened | closing | stopped | obstructed | outOfService | indefinite
deriving DecidableEq, Repr

/-- The context fields of a CONTEXT_REPORT as received, before the range checks of R159. A leaf byte that names no
leaf state is `none`; a position of `none` is INDEFINITE; an obstruction part is (position, reversal count). -/
inductive ContextFields where
  | door (leaf : Option Leaf) (position : Option Nat) (stroke cycles : Nat) (obstruction : Option (Nat × Nat))
  | display (page route nextStop brightness : Nat) (messages : List (BitVec 16))
  | announce (volume : Nat) (queue : List (BitVec 16))
deriving DecidableEq, Repr

/-- A CONTEXT_REPORT (R89). -/
inductive ContextReport where
  | bootMode
  | running (fields : ContextFields)
deriving DecidableEq, Repr

/-- What a unit's frame carries: its kind (R206) and content. -/
inductive AnswerBody where
  | ack
  | bootReport (r : BootReport)
  | windowAnswer (w : WindowAnswer)
  | verifyReport (v : VerifyReport)
  | contextAck (a : ContextAck)
  | contextReport (c : ContextReport)
deriving DecidableEq, Repr

/-- A segment frame received whole with a good sync byte and CRC-16 (R79, R205): the unit's own address, its sequence
number, and its kind with content. -/
structure AnswerFrame where
  address : Byte
  seq : Byte
  body : AnswerBody
deriving DecidableEq, Repr

/-- The commands, in the order of spec/opcode_table.json. A request carries its tag and its payload bytes (R191,
R204). -/
inductive Instr where
  /-- POWER_APPLIED (R36). -/
  | powerApplied
  /-- RESET_LINE_ASSERTED (R37). -/
  | resetLineAsserted
  /-- RESET_LINE_RELEASED (R37). -/
  | resetLineReleased
  /-- MONITOR_SAMPLE (R1): the raw codes of the five channels at one sample instant. -/
  | monitorSample (line hold senseA senseB senseC : Code)
  /-- LINE_COMPARATOR_SAMPLE (R8): the raw LINE code in LOST. -/
  | lineComparatorSample (line : Code)
  /-- TICK (R20). -/
  | tick
  /-- SETTLE_EXPIRY (R26). -/
  | settleExpiry
  /-- SEGMENT_FRAME_SENT (R81). -/
  | segmentFrameSent (x : Seg)
  /-- SEGMENT_ANSWER (R79). -/
  | segmentAnswer (x : Seg) (frame : AnswerFrame)
  /-- ANSWER_TIMEOUT (R80). -/
  | answerTimeout (x : Seg)
  /-- SEGMENT_BYTE_PAUSE (R79). -/
  | segmentBytePause (x : Seg)
  /-- POLL_TIMER_DUE (R88). -/
  | pollTimerDue (u : UnitIx)
  /-- VERIFY_POLL_DUE (R149). -/
  | verifyPollDue (u : UnitIx)
  /-- VERIFY_DEADLINE (R149). -/
  | verifyDeadline (u : UnitIx)
  /-- ARRAY_ACCESS_DONE (R50). -/
  | arrayAccessDone
  /-- CONTROL_BYTE_PAUSE (R190). -/
  | controlBytePause
  /-- CONTROL_FRAME_BAD (R190). -/
  | controlFrameBad
  /-- UNKNOWN_KIND (R191): a whole frame whose kind names no request. -/
  | unknownKind (kind tag : Byte)
  /-- TRANSMIT_DONE (R194). -/
  | transmitDone
  /-- SET_MONITOR (R15). -/
  | setMonitor (tag : Byte) (payload : List Byte)
  /-- SET_TIMING (R195). -/
  | setTiming (tag : Byte) (payload : List Byte)
  /-- SET_MASKS (R186). -/
  | setMasks (tag : Byte) (payload : List Byte)
  /-- SET_PERMIT_ENABLE (R171). -/
  | setPermitEnable (tag : Byte) (payload : List Byte)
  /-- SET_SEGMENT (R196). -/
  | setSegment (tag : Byte) (payload : List Byte)
  /-- DEFINE_UNIT (R56). -/
  | defineUnit (tag : Byte) (payload : List Byte)
  /-- REMOVE_UNIT (R58). -/
  | removeUnit (tag : Byte) (payload : List Byte)
  /-- SAVE_CONFIG (R199). -/
  | saveConfig (tag : Byte) (payload : List Byte)
  /-- IMAGE_OPEN (R43). -/
  | imageOpen (tag : Byte) (payload : List Byte)
  /-- IMAGE_DATA (R45). -/
  | imageData (tag : Byte) (payload : List Byte)
  /-- IMAGE_CLOSE (R47). -/
  | imageClose (tag : Byte) (payload : List Byte)
  /-- IMAGE_ERASE (R48). -/
  | imageErase (tag : Byte) (payload : List Byte)
  /-- FORCE_RESTORE (R68). -/
  | forceRestore (tag : Byte) (payload : List Byte)
  /-- ISOLATE (R66). -/
  | isolate (tag : Byte) (payload : List Byte)
  /-- ADMIT (R67). -/
  | admitUnit (tag : Byte) (payload : List Byte)
  /-- RESOLVE (R178). -/
  | resolve (tag : Byte) (payload : List Byte)
  /-- RELEASE_UNIT (R168). -/
  | releaseUnit (tag : Byte) (payload : List Byte)
  /-- CONTEXT_WRITE (R169). -/
  | contextWrite (tag : Byte) (payload : List Byte)
  /-- CLEAR_FLAGS (R182). -/
  | clearFlags (tag : Byte) (payload : List Byte)
  /-- RESET (R197). -/
  | reset (tag : Byte) (payload : List Byte)
  /-- QUERY_STATUS (R35). -/
  | queryStatus (tag : Byte) (payload : List Byte)
  /-- QUERY_MONITOR (R17). -/
  | queryMonitor (tag : Byte) (payload : List Byte)
  /-- QUERY_UNIT (R77). -/
  | queryUnit (tag : Byte) (payload : List Byte)
  /-- QUERY_SLOT (R53). -/
  | querySlot (tag : Byte) (payload : List Byte)
  /-- QUERY_STREAMS (R135). -/
  | queryStreams (tag : Byte) (payload : List Byte)
  /-- QUERY_CONTEXT (R173). -/
  | queryContext (tag : Byte) (payload : List Byte)
  /-- POWER_LOSS (R32). -/
  | powerLoss
  /-- SEGMENT_FRAME_DISCARDED (R79). -/
  | segmentFrameDiscarded (x : Seg)
  /-- REPLY_KIND_FRAME_DISCARDED (R191): a whole frame from the host whose kind is 0x80 or above. -/
  | replyKindFrameDiscarded (kind tag : Byte)
deriving DecidableEq, Repr

/-- The kind byte of a request row (table of 11.3); none for a row that is not a request. -/
def Instr.requestKind? : Instr → Option Byte
  | .setMonitor .. => some 0x01
  | .setTiming .. => some 0x02
  | .setMasks .. => some 0x03
  | .setPermitEnable .. => some 0x04
  | .setSegment .. => some 0x05
  | .defineUnit .. => some 0x06
  | .removeUnit .. => some 0x07
  | .saveConfig .. => some 0x08
  | .imageOpen .. => some 0x10
  | .imageData .. => some 0x11
  | .imageClose .. => some 0x12
  | .imageErase .. => some 0x13
  | .forceRestore .. => some 0x20
  | .isolate .. => some 0x21
  | .admitUnit .. => some 0x22
  | .resolve .. => some 0x23
  | .releaseUnit .. => some 0x24
  | .contextWrite .. => some 0x25
  | .clearFlags .. => some 0x26
  | .reset .. => some 0x27
  | .queryStatus .. => some 0x30
  | .queryMonitor .. => some 0x31
  | .queryUnit .. => some 0x32
  | .querySlot .. => some 0x33
  | .queryStreams .. => some 0x34
  | .queryContext .. => some 0x35
  | _ => none

/-- The payload bytes of a request row. -/
def Instr.payload : Instr → List Byte
  | .setMonitor _ p | .setTiming _ p | .setMasks _ p | .setPermitEnable _ p | .setSegment _ p | .defineUnit _ p
  | .removeUnit _ p | .saveConfig _ p | .imageOpen _ p | .imageData _ p | .imageClose _ p | .imageErase _ p
  | .forceRestore _ p | .isolate _ p | .admitUnit _ p | .resolve _ p | .releaseUnit _ p | .contextWrite _ p
  | .clearFlags _ p | .reset _ p | .queryStatus _ p | .queryMonitor _ p | .queryUnit _ p | .querySlot _ p
  | .queryStreams _ p | .queryContext _ p => p
  | _ => []

/-- The request kinds of the table of 11.3. -/
def requestKinds : List Byte :=
  [0x01, 0x02, 0x03, 0x04, 0x05, 0x06, 0x07, 0x08, 0x10, 0x11, 0x12, 0x13, 0x20, 0x21, 0x22, 0x23, 0x24, 0x25,
   0x26, 0x27, 0x30, 0x31, 0x32, 0x33, 0x34, 0x35]

end Sys2Proof
end

