-- ==== Sys2Proof/Config.lean ====
section
/-! DEFINITION. The settings with their ranges and defaults, the configuration record's contents, and the free values:
opaque constants that nothing can evaluate. -/

namespace Sys2Proof

/-- One value for each segment. -/
structure PerSeg (α : Type) where
  a : α
  b : α
  c : α
deriving DecidableEq, Repr

/-- The monitor settings of R15. -/
structure MonitorSettings where
  n : Nat
  d : Nat
  offLine : Int
  offHold : Int
  offSense : PerSeg Int
  gapEnter : Nat
  gapExit : Nat
  holdDeep : Nat
  holdRetain : Nat
deriving DecidableEq, Repr

/-- The eight timing settings of R195. -/
structure TimingSettings where
  settle : Nat
  answer : Nat
  verify : Nat
  retryLimit : Nat
  pollPeriod : Nat
  ageDoor : Nat
  ageRamp : Nat
  maxWindow : Nat
deriving DecidableEq, Repr

/-- The declared fields of a unit (R55). -/
structure UnitDef where
  seg : Seg
  addr : Nat
  cls : UnitClass
  slot : SlotIx
  level : Nat
deriving DecidableEq, Repr

/-- The contents of the configuration record between its header and its CRC-32 (R198). -/
structure ConfigData where
  monitor : MonitorSettings
  timing : TimingSettings
  senseOn : PerSeg Bool
  yieldOn : PerSeg Bool
  permitOn : PerSeg Bool
  respOpen : BitVec 9
  alertMask : BitVec 17
  defs : Vector (Option UnitDef) 24
deriving DecidableEq, Repr

/-- The configuration record as stored: the header of record marker and format number, the contents, and the CRC-32 that
follows them (R198). -/
structure ConfigRecord where
  marker : Nat
  format : Nat
  data : ConfigData
  crc : Crc32
deriving DecidableEq, Repr

/-- Defaults of 1.1. -/
def MonitorSettings.default : MonitorSettings where
  n := 4
  d := 4
  offLine := 0
  offHold := 0
  offSense := ⟨0, 0, 0⟩
  gapEnter := 16000
  gapExit := 19000
  holdDeep := 9000
  holdRetain := 6000

/-- Defaults of R195. -/
def TimingSettings.default : TimingSettings where
  settle := 150
  answer := 10
  verify := 300
  retryLimit := 3
  pollPeriod := 100
  ageDoor := 1500
  ageRamp := 1500
  maxWindow := 8

/-- Every setting at its default and no unit defined (R200, invalid record). -/
def ConfigData.default : ConfigData where
  monitor := .default
  timing := .default
  senseOn := ⟨true, true, true⟩
  yieldOn := ⟨true, true, true⟩
  permitOn := ⟨true, true, true⟩
  respOpen := 0#9
  alertMask := BitVec.allOnes 17
  defs := Vector.replicate 24 none

/-- Class default levels (R55). -/
def UnitClass.defaultLevel : UnitClass → Nat
  | .door => 7
  | .ramp => 6
  | .dest => 4
  | .saloon => 3
  | .announce => 2

/-- DOOR and RAMP units enter the permit reckoning (R55, R170). -/
def UnitClass.isDoorOrRamp : UnitClass → Bool
  | .door | .ramp => true
  | _ => false

namespace Config

/-- Blocks of the image array (R38). -/
def blockCount : Nat := 512

/-- Bytes of a block (R38). -/
def blockBytes : Nat := 1024

/-- What a byte of the array that nothing has written reads as: 0xFF. DESIGN CHOICE (unsafe), log entry 7. -/
def erased : Byte := 0xFF

/-- Interval between verify polls in ms (R149). -/
def verifyPollInterval : Nat := 5

/-- Free value: which of the events raised by one sample is taken next (R10, R33, R34; log entry 4). -/
opaque choice : Nat → Nat

/-- Free value: a byte of a block whose write was cut off (R52; log entry 8). -/
opaque freeByte : Nat → Byte

/-- Free value: the record marker of the configuration record's header (R198; log entry 9). -/
opaque recordMarker : Nat

/-- Free value: the format number of the configuration record's header (R198; log entry 9). -/
opaque recordFormat : Nat

/-- Free value: the bytes of a record's marker, format number and contents, over which its CRC-32 is computed; the spec does
not give their layout (R198, R199; log entry 9). -/
opaque recordBytes : Nat → Nat → ConfigData → List Byte

/-- Free value: what a unit's frame of a kind and payload carries, for the frames whose layout the spec does not give; content
of another kind than the frame's is not taken (R206; log entries 28 and 40). -/
opaque reportContent : Byte → List Byte → Option AnswerBody

/-- Free value: the payload length a BAD_LENGTH reply names when the payload ends before a count field the length
follows from (R192, R193; log entry 10). -/
opaque calledLength : Byte → List Byte → BitVec 16

end Config

end Sys2Proof
end

