-- ==== Sys2Proof/Machine/State.lean ====
section
/-! DEFINITION. The state of the part, block by block, as plain data, with the queue of waiting commands; the reasons a
step can stop; and the state right after the first cold start. -/

namespace Sys2Proof.Machine

/-! ### Gap controller (02, table of 2.1) -/

/-- The six states of GAPC (R19). -/
inductive GapState where
  | supplied | gap | deep | settle | restore | lost
deriving DecidableEq, Repr

/-- What GAPC holds (2.1). That a LOST was entered (R31) is the state LOST itself. -/
structure GapCtl where
  state : GapState
  /-- gap start tick s -/
  start : Tick
  durUnknown : Bool
  /-- settle start tick b, present in SETTLE -/
  settleStart : Option Tick
  /-- settle time of the current settle, present in SETTLE -/
  settleTime : Option Nat
  /-- last gap duration in ms; none is UNKNOWN -/
  lastDuration : Option Tick
  count : Nat
  /-- restore demand as last reported (R74) -/
  demand : Bool
deriving DecidableEq, Repr

/-! ### Supply monitor (01) -/

/-- The four line classes (1.5). -/
inductive LineClass where
  | normal | openLine | shortLow | shortHigh
deriving DecidableEq, Repr

/-- Current class, candidate and candidate count of one segment (R11). -/
structure ClassState where
  current : LineClass
  candidate : Option LineClass
  count : Nat
deriving DecidableEq, Repr

/-- What SMON holds. An empty window waits for its fill (R3). -/
structure Monitor where
  settings : MonitorSettings
  senseOn : PerSeg Bool
  winLine : List Nat
  winHold : List Nat
  winSense : PerSeg (List Nat)
  lineLost : Nat
  lineBack : Nat
  holdDeep : Nat
  holdExhausted : Nat
  classes : PerSeg ClassState
  /-- the line comparator's reference code, held in LOST (R8) -/
  cmpRef : Option Nat
deriving DecidableEq, Repr

/-! ### Image store (03) -/

/-- What a LOADING, VALID or DAMAGED slot declares and owns (R39). -/
structure SlotInfo where
  cls : UnitClass
  version : Version
  len : Nat
  first : Nat
  crc : Crc32
deriving DecidableEq, Repr

/-- Cause of damage (R39). -/
inductive DamageCause where
  | mismatch | interrupted
deriving DecidableEq, Repr

/-- One entry of the slot table (R39). The written set is a rising list of block indices. -/
inductive Slot where
  | empty
  | loading (info : SlotInfo) (cursor : Nat) (written : List Nat)
  | valid (info : SlotInfo)
  | damaged (info : SlotInfo) (cause : DamageCause)
deriving DecidableEq, Repr

/-- The two requesters of the array port (R50). -/
inductive Requester where
  | stream | longRequest
deriving DecidableEq, Repr

/-- Image store: slot table, array contents (one canonical form, see `Memory.wf`), and the owner of the access in
progress. -/
structure ImageStore where
  slots : Vector Slot 8
  mem : List Host.Cell
  port : Option Requester
deriving DecidableEq, Repr

/-! ### Unit table (04, 06, 08) -/

/-- The eleven defined unit states (4.3); EMPTY is an absent entry. -/
inductive UnitState where
  | dark | probe | wait | stream | suspended | verify | context | live | held | failed | isolated
deriving DecidableEq, Repr

/-- The nine conditions in the order of R175. -/
inductive Condition where
  | linkTest | classMismatch | imageUnusable | versionAhead | stackFull | verifyMismatch | retryExhausted
  | contextUnknown | contextRefused
deriving DecidableEq, Repr

/-- Why a unit is being restarted (R96). -/
inductive RestartCause where
  | less | ahead | reload
deriving DecidableEq, Repr

/-- Probe phase; RESTARTING carries its cause (R96). -/
inductive ProbePhase where
  | probing
  | restarting (cause : RestartCause)
deriving DecidableEq, Repr

/-- Probe record (R96). -/
structure ProbeRecord where
  phase : ProbePhase
  attempt : Nat
deriving DecidableEq, Repr

/-- Verify phase; the deadline is absent in REQUESTING (R148). -/
inductive VerifyPhase where
  | requesting
  | polling (deadline : Tick)
deriving DecidableEq, Repr

/-- Verify record (R148). -/
structure VerifyRecord where
  phase : VerifyPhase
  pollDue : Option Tick
  polls : Nat
  lastCrc : Option Crc32
deriving DecidableEq, Repr

/-- Write form of a write-back entry (R163). -/
inductive WriteForm where
  | record | unknown | empty
deriving DecidableEq, Repr

/-- The entry of a defined unit (R54), with its probe record and last boot report (R96), verify record (R148),
write-back entry (R163) and poll timer (R88). -/
structure UnitEntry where
  decl : UnitDef
  state : UnitState
  retry : Nat
  heldCount : Nat
  heldVersion : Option Version
  window : Nat
  running : Option Version
  restrained : Bool
  pending : Option Condition
  /-- the thirteen per-unit flags, in the order of R203 -/
  flags : BitVec 13
  misses : Nat
  firstWindow : Bool
  joined : Bool
  probe : Option ProbeRecord
  lastBoot : Option (BootReport × Tick)
  /-- attempt kept while HELD with LINK_TEST pending (R106) -/
  linkTestAttempt : Option Nat
  verify : Option VerifyRecord
  form : Option WriteForm
  pollDue : Option Tick
deriving DecidableEq, Repr

/-! ### Restore scheduler (07) -/

/-- One member of a stream record: its unit and owed set, a rising list of block indices (R112, R114). -/
structure Member where
  unit : UnitIx
  owed : List Nat
deriving DecidableEq, Repr

/-- A stream record (R112). -/
structure StreamRecord where
  slot : SlotIx
  level : Nat
  len : Nat
  w : Nat
  cursor : Nat
  members : List Member
  window : Option (Nat × Nat)
deriving DecidableEq, Repr

/-- RSCH: active record, suspension stack (top first), stack-full marks (R113, R129). -/
structure Scheduler where
  active : Option StreamRecord
  stack : List StreamRecord
  marks : List UnitIx
deriving DecidableEq, Repr

/-! ### Stream engine (08) -/

/-- A participant's answer (R137): PENDING, as received, or IGNORED. -/
inductive PartAnswer where
  | pending
  | answered (a : WindowAnswer)
  | noAnswer
  | ignored
deriving DecidableEq, Repr

/-- One entry of the participant list (R137). -/
structure Participant where
  unit : UnitIx
  seg : Seg
  answer : PartAnswer
deriving DecidableEq, Repr

/-- Window phase (R137). -/
inductive WindowPhase where
  | reading | carrying
deriving DecidableEq, Repr

/-- Part state of a segment (R137). -/
inductive PartState where
  | none | carrying | ended
deriving DecidableEq, Repr

/-- The window in flight (R137). -/
structure Window where
  slot : SlotIx
  level : Nat
  start : Nat
  count : Nat
  phase : WindowPhase
  buffer : List (List Byte)
  participants : List Participant
  parts : PerSeg PartState
deriving DecidableEq, Repr

/-! ### Segment links (05) -/

/-- A window part as handed to a link (R139): the blocks from the window buffer and the participants on the segment. -/
structure WindowPart where
  slot : SlotIx
  level : Nat
  start : Nat
  blocks : List (List Byte)
  members : List UnitIx
deriving DecidableEq, Repr

/-- The eight kinds of exchange (R81). A probe keeps the attempt whose pattern it carries (R97); a join keeps whether
it says KEEP (R118). -/
inductive Exchange where
  | window (part : WindowPart)
  | probe (u : UnitIx) (attempt : Nat)
  | restart (u : UnitIx)
  | join (u : UnitIx) (keep : Bool)
  | verifyRequest (u : UnitIx)
  | verifyPoll (u : UnitIx)
  | contextSequence (u : UnitIx)
  | contextPoll (u : UnitIx)
deriving DecidableEq, Repr

/-- Obstruction part of a DOOR or RAMP content (R156). -/
structure Obstruction where
  position : Nat
  reversals : Nat
deriving DecidableEq, Repr

/-- Content of a DOOR or RAMP record (R156); a position of none is INDEFINITE. -/
structure DoorContent where
  leaf : Leaf
  position : Option Nat
  stroke : Nat
  cycles : Nat
  obstruction : Option Obstruction
deriving DecidableEq, Repr

/-- Content of a DEST or SALOON record (R157). -/
structure DisplayContent where
  page : Nat
  route : Nat
  nextStop : Nat
  brightness : Nat
  messages : List (BitVec 16)
deriving DecidableEq, Repr

/-- Content of an ANNOUNCE record (R157). -/
structure AnnounceContent where
  volume : Nat
  queue : List (BitVec 16)
deriving DecidableEq, Repr

/-- The three kinds of content (R155). -/
inductive Content where
  | door (c : DoorContent)
  | display (c : DisplayContent)
  | announce (c : AnnounceContent)
deriving DecidableEq, Repr

/-- What a CONTEXT_PART frame carries (R164). -/
inductive PartFields where
  /-- leaf state, position and, where the record holds content, stroke, cycle count and obstruction part -/
  | door (leaf : Leaf) (position : Option Nat) (rest : Option (Nat × Nat × Option Obstruction))
  | displayState (page route nextStop brightness : Nat)
  | messages (l : List (BitVec 16))
  | announce (volume : Nat) (queue : List (BitVec 16))
  | noFields
deriving DecidableEq, Repr

/-- The frames the part sends on a segment, by kind (R206), with their content. -/
inductive FrameBody where
  | probe (attempt : Nat) (pattern : List Byte)
  | restart
  | join (group : Byte) (len : Nat) (version : Version) (crc : Crc32) (keep : Bool)
  | block (index : Nat) (data : List Byte)
  | answerRequest (start count : Nat)
  | verifyRequest (len : Nat) (version : Version) (crc : Crc32)
  | verifyPoll
  | contextBegin (form : WriteForm) (parts : Nat)
  | contextPart (fields : PartFields)
  | contextCommit
  | contextPoll
deriving DecidableEq, Repr

/-- A frame still to be sent: the unit it is for (none for a group), its destination and body. -/
structure OutFrame where
  unit : Option UnitIx
  dest : Byte
  body : FrameBody
deriving DecidableEq, Repr

/-- Whether the frame is being sent or its answer awaited; a wait keeps the timeout it began with (R80). -/
inductive LinkPhase where
  | sending
  | waiting (since : Tick) (timeout : Nat)
deriving DecidableEq, Repr

/-- The exchange a CARRYING link carries: the frame in flight with its sequence number, the frames still to send, and
whether the exchange is cut (R90) or marked for abandonment (R86). -/
structure InFlight where
  exchange : Exchange
  frame : OutFrame
  seq : Byte
  todo : List OutFrame
  phase : LinkPhase
  cut : Bool
  marked : Bool
deriving DecidableEq, Repr

/-- One segment link (5.1). The queue is in order of arrival, oldest first (R82). -/
structure Link where
  halted : Bool
  seq : Byte
  queue : List Exchange
  inFlight : Option InFlight
  lock : Option UnitIx
  yieldOn : Bool
  rx : List Byte
deriving DecidableEq, Repr

/-! ### Context store and permit logic (09) -/

/-- Validity of a context record (R155). -/
inductive Validity where
  | empty | current | frozen | written
deriving DecidableEq, Repr

/-- A context record (R155). -/
structure ContextRecord where
  validity : Validity
  capturedAt : Option Tick
  ageUnknown : Bool
  rangeFlag : Bool
  content : Option Content
deriving DecidableEq, Repr

/-- PERM: permit enables and outputs; an output of true is energized (R170). -/
structure Permits where
  enable : PerSeg Bool
  output : PerSeg Bool
deriving DecidableEq, Repr

/-! ### Condition and flag unit (10) -/

/-- CFLU: response masks (1 is open), ALERT enables, device flags, the unreported set, and the ALERT line (true is
asserted). -/
structure FlagUnit where
  respOpen : BitVec 9
  alertMask : BitVec 17
  device : BitVec 17
  unrepDevice : BitVec 17
  unrepUnits : Vector (BitVec 13) 24
  alert : Bool
deriving DecidableEq, Repr

/-! ### Control link (11): replies -/

/-- What QUERY_STATUS carries for one segment link (R94). -/
structure LinkReport where
  haltedByGap : Bool
  haltedByLine : Bool
  /-- kind, unit or slot and level of the exchange in flight -/
  inFlight : Option Exchange
  discardWait : Bool
  lock : Option UnitIx
  marked : Bool
  windowParts : Nat
  contextSequences : Nat
  services : Nat
  polls : Nat
  yieldOn : Bool
  seq : Byte
deriving DecidableEq, Repr

/-- What QUERY_STATUS carries for the stream engine (R153). -/
structure EngineReport where
  window : Option (SlotIx × Nat × Nat × Nat × WindowPhase)
  parts : PerSeg PartState
  pendingAnswers : Nat
  ignored : Nat
deriving DecidableEq, Repr

/-- The census of one segment (R207): defined units in each of the eleven states, in the order of 4.3, and the
restrained LIVE ones. -/
structure Census where
  counts : List Nat
  restrained : Nat
deriving DecidableEq, Repr

/-- What QUERY_STATUS carries for one permit output (R173). -/
structure PermitReport where
  enable : Bool
  output : Bool
  withheldBy : List UnitIx
deriving DecidableEq, Repr

/-- The QUERY_STATUS reply (R35, R94, R153, R173, R188, R201, R207). -/
structure StatusReport where
  gapc : GapCtl
  tick : Tick
  timing : TimingSettings
  links : PerSeg LinkReport
  engine : EngineReport
  permits : PerSeg PermitReport
  device : BitVec 17
  alertMask : BitVec 17
  respOpen : BitVec 9
  alert : Bool
  unreported : Nat
  longRequest : Option (Byte × Byte)
  owed : Nat
  cfgValid : Bool
  saved : Bool
  census : PerSeg Census
deriving DecidableEq, Repr

/-- The QUERY_MONITOR reply (R17). -/
structure MonitorReport where
  settings : MonitorSettings
  senseOn : PerSeg Bool
  line : Option Nat
  hold : Option Nat
  sense : PerSeg (Option Nat)
  lineMillivolts : Option Nat
  holdMillivolts : Option Nat
  lineLost : Nat
  lineBack : Nat
  holdDeep : Nat
  holdExhausted : Nat
  classes : PerSeg ClassState
deriving DecidableEq, Repr

/-- Where a unit's exchange stands (R77). -/
inductive ExchangePlace where
  | absent | queued | inFlight
deriving DecidableEq, Repr

/-- The QUERY_UNIT reply for a defined unit (R77, R111, R153): the fields of R54, and the details. -/
structure UnitReport where
  index : UnitIx
  decl : UnitDef
  state : UnitState
  retry : Nat
  heldCount : Nat
  heldVersion : Option Version
  window : Nat
  running : Option Version
  restrained : Bool
  pending : Option Condition
  flags : BitVec 13
  misses : Nat
  firstWindow : Bool
  joined : Bool
  probe : Option ProbeRecord
  lastBoot : Option (BootReport × Tick)
  verify : Option VerifyRecord
  /-- slot, place (0 the active record, k the k-th of the stack from the top), blocks owed -/
  record : Option (SlotIx × Nat × Nat)
  exchange : ExchangePlace
  answer : Option PartAnswer
  holdsDemand : Bool
  withholdsPermit : Bool
deriving DecidableEq, Repr

/-- The QUERY_SLOT reply (R53). -/
structure SlotReport where
  /-- the entry, with the written set reported as its size -/
  entry : Slot
  written : Nat
  inUse : Bool
  freeBlocks : Nat
  longestFree : Nat
deriving DecidableEq, Repr

/-- One record in the QUERY_STREAMS reply (R135): members as (unit, blocks owed, joined, first-window). -/
structure RecordReport where
  slot : SlotIx
  level : Nat
  len : Nat
  cursor : Nat
  w : Nat
  members : List (UnitIx × Nat × Bool × Bool)
deriving DecidableEq, Repr

/-- The QUERY_STREAMS reply (R135). -/
structure StreamsReport where
  active : Option RecordReport
  stack : List RecordReport
  window : Option (Nat × Nat)
  eligible : List (UnitIx × Bool)
deriving DecidableEq, Repr

/-- The QUERY_CONTEXT reply for a defined unit (R173). -/
structure ContextReportReply where
  record : ContextRecord
  age : Option Tick
  form : Option WriteForm
  exchange : ExchangePlace
  restrained : Option Bool
deriving DecidableEq, Repr

/-- The result an OK reply carries, as the request's owning rule names it (R193). -/
inductive Result where
  | nothing
  | monitor (m : MonitorSettings)
  | timing (t : TimingSettings)
  | masks (respOpen : BitVec 9) (alertMask : BitVec 17)
  | permit (energized : Bool)
  | segment (senseOn yieldOn : Bool)
  | level (l : Nat)
  | firstBlock (f : Nat)
  | written (cursor count : Nat)
  | closed (crc : Crc32) (filled : Nat)
  | acted (n : Nat)
  | unitState (st : UnitState)
  | deviceFlags (f : BitVec 17)
  | recordCrc (crc : Crc32)
  | statusReport (r : StatusReport)
  | monitorReport (r : MonitorReport)
  /-- none for an EMPTY entry: state EMPTY and every other field absent (R77) -/
  | unitReport (r : Option UnitReport)
  | slotReport (r : SlotReport)
  | streamsReport (r : StreamsReport)
  /-- none for an EMPTY entry: validity EMPTY (R173) -/
  | contextReport (r : Option ContextReportReply)
deriving DecidableEq, Repr

/-- The bytes of a MISMATCH reply (R193). -/
inductive MismatchDetail where
  | image (crc : Crc32) (filled : Nat)
  | boundUnit (u : UnitIx)
  | slotClass (c : UnitClass)
deriving DecidableEq, Repr

/-- Status of a reply with the bytes after it (R193). -/
inductive Status where
  | ok (r : Result)
  | busy (kind tag : Byte)
  | unknownKind
  | badLength (need : BitVec 16)
  | outOfRange (field : Nat)
  | state (gapState : GapState) (unit : Option UnitState)
  | inUse
  | notDefined (index : UnitIx)
  | full (n : Nat)
  | mismatch (d : MismatchDetail)
deriving DecidableEq, Repr

/-- A reply: the request's kind (the reply's kind is 0x80 above it) and tag, and the status (R191). -/
structure Reply where
  kind : Byte
  tag : Byte
  status : Status
deriving DecidableEq, Repr

/-- What the transmitter carries: the first owed reply, or a notice with its content (R194, R184). -/
inductive Transmission where
  | reply
  | notice (device : BitVec 17) (units : List (UnitIx × BitVec 13))
deriving DecidableEq, Repr

/-- The work of a long request (R46, R47, R48, R199); `finished` is one whose work has ended and whose reply waits for
a place in the owed-reply list (R194). -/
inductive LongWork where
  | imageData (slot : SlotIx) (target : Nat) (data : List Byte)
  | imageClose (slot : SlotIx) (fill : List Nat) (filled : Nat) (scanned : Nat) (crc : Crc32)
  | imageErase (slot : SlotIx)
  | saveErase (data : ConfigData)
  | saveWrite (data : ConfigData)
  | finished (status : Status)
deriving DecidableEq, Repr

/-- The long request in progress (R194). `muted` is set at DEEP entry: its reply is not sent (R29). -/
structure LongRequest where
  kind : Byte
  tag : Byte
  work : LongWork
  muted : Bool
deriving DecidableEq, Repr

/-- CLNK (11). -/
structure ControlLink where
  rx : List Byte
  owed : List Reply
  tx : Option Transmission
  long : Option LongRequest
  resetAccepted : Bool
  cfgValid : Bool
  saved : Bool
deriving DecidableEq, Repr

/-! ### The whole part -/

/-- The part's state, with the queue of waiting commands (first in, first out) and the model's counter of free values
(log entries 2 and 32). -/
structure State where
  powered : Bool
  resetLow : Bool
  tick : Tick
  gapc : GapCtl
  smon : Monitor
  ims : ImageStore
  cfgr : Option ConfigRecord
  units : Vector (Option UnitEntry) 24
  rsch : Scheduler
  seng : Option Window
  links : PerSeg Link
  ctxs : Vector ContextRecord 24
  perm : Permits
  cflu : FlagUnit
  clnk : ControlLink
  timing : TimingSettings
  pending : List Instr
  freeCount : Nat
deriving DecidableEq, Repr

/-- Why the machine stops with a fault. -/
inductive Fault where
  /-- Raised by ARRAY_ACCESS_DONE when the access that ends names a block outside 0..511, a slot that owns no run, or, for
  an IMAGE_DATA or IMAGE_CLOSE, a slot that is not LOADING (R38, R45, R47): no such access exists. Safe: the model stops,
  and no state reached from reset raises it. -/
  | noSuchBlock
deriving DecidableEq, Repr

/-- Why the machine refuses a command. -/
inductive Refusal where
  /-- Raised by an arm of `exec` whose command has no meaning yet; no arm raises it. Safe. -/
  | notModelled (mnemonic : String)
deriving DecidableEq, Repr

/-! ### After the first cold start -/

/-- A context record with nothing held (R155). -/
def ContextRecord.blank : ContextRecord where
  validity := .empty
  capturedAt := none
  ageUnknown := false
  rangeFlag := false
  content := none

/-- A class state after reset (R18). -/
def ClassState.initial : ClassState where
  current := .normal
  candidate := none
  count := 0

/-- A link after reset (R95) with the given yield setting. -/
def Link.initial (yieldOn : Bool) : Link where
  halted := true
  seq := 0
  queue := []
  inFlight := none
  lock := none
  yieldOn := yieldOn
  rx := []

/-- SMON after reset with the given settings (R18). -/
def Monitor.initial (m : MonitorSettings) (senseOn : PerSeg Bool) : Monitor where
  settings := m
  senseOn := senseOn
  winLine := []
  winHold := []
  winSense := ⟨[], [], []⟩
  lineLost := 0
  lineBack := 0
  holdDeep := 0
  holdExhausted := 0
  classes := ⟨.initial, .initial, .initial⟩
  cmpRef := none

/-- GAPC after reset with the given gap count (R36, R37). -/
def GapCtl.initial (count : Nat) : GapCtl where
  state := .gap
  start := 0
  durUnknown := true
  settleStart := none
  settleTime := none
  lastDuration := none
  count := count
  demand := false

/-- The state right after the first cold start of a part new from manufacture (R36, R39, R200): every block in its
cold-start state, the record invalid, COLD_START and CONFIG_DEFAULTED set, and the notice that carries them begun,
since the transmitter is idle (R184; log entries 19 and 20). -/
def State.reset : State where
  powered := true
  resetLow := false
  tick := 0
  gapc := .initial 0
  smon := .initial .default ⟨true, true, true⟩
  ims := { slots := Vector.replicate 8 .empty, mem := [], port := none }
  cfgr := none
  units := Vector.replicate 24 none
  rsch := { active := none, stack := [], marks := [] }
  seng := none
  links := ⟨.initial true, .initial true, .initial true⟩
  ctxs := Vector.replicate 24 .blank
  perm := { enable := ⟨true, true, true⟩, output := ⟨false, false, false⟩ }
  cflu :=
    { respOpen := 0
      alertMask := BitVec.allOnes 17
      device := 0x6000
      unrepDevice := 0
      unrepUnits := Vector.replicate 24 0
      alert := true }
  clnk :=
    { rx := []
      owed := []
      tx := some (.notice 0x6000 [])
      long := none
      resetAccepted := false
      cfgValid := false
      saved := false }
  timing := .default
  pending := []
  freeCount := 0

end Sys2Proof.Machine
end

