-- ==== Sys2Proof/Machine/Ops.lean ====
section
/-! DEFINITION. Named operations over the parts of the state: per-segment values, unit entries, slots, the image array,
CRCs, which blocks run, and the gap state with the debounce counters it watches. -/

namespace Sys2Proof.Machine

/-! ### Per-segment values -/

/-- The value of segment `x`. -/
def perGet {α : Type} (p : PerSeg α) : Seg → α
  | .a => p.a
  | .b => p.b
  | .c => p.c

/-- `p` with segment `x`'s value replaced. -/
def perSet {α : Type} (p : PerSeg α) (x : Seg) (v : α) : PerSeg α :=
  match x with
  | .a => { p with a := v }
  | .b => { p with b := v }
  | .c => { p with c := v }

/-- `p` with segment `x`'s value changed by `f`. -/
def perMod {α : Type} (p : PerSeg α) (x : Seg) (f : α → α) : PerSeg α :=
  perSet p x (f (perGet p x))

/-- One value for each segment, by a function. -/
def perOf {α : Type} (f : Seg → α) : PerSeg α :=
  ⟨f .a, f .b, f .c⟩

/-- The segments in order. -/
def allSegs : List Seg :=
  [.a, .b, .c]

/-! ### Units and slots -/

/-- Unit indices in rising order. -/
def allUnits : List UnitIx :=
  List.finRange 24

/-- Slot numbers in rising order. -/
def allSlots : List SlotIx :=
  List.finRange 8

/-- The entry of unit `u`; none is EMPTY (R54). -/
def State.unit (s : State) (u : UnitIx) : Option UnitEntry :=
  s.units[u.val]

/-- Replaces the entry of unit `u`. -/
def State.putUnit (s : State) (u : UnitIx) (e : Option UnitEntry) : State :=
  { s with units := s.units.set u.val e }

/-- Changes the entry of unit `u`, if it is defined. -/
def State.modUnit (s : State) (u : UnitIx) (f : UnitEntry → UnitEntry) : State :=
  { s with units := s.units.set u.val (s.units[u.val].map f) }

/-- Changes every defined entry. -/
def State.mapUnits (s : State) (f : UnitEntry → UnitEntry) : State :=
  { s with units := Vector.ofFn fun u : UnitIx => s.units[u.val].map f }

/-- Whether unit `u` is defined and in state `st`. -/
def State.unitIn (s : State) (u : UnitIx) (st : UnitState) : Bool :=
  (s.unit u).any fun e => e.state == st

/-- The context record of index `u` (R155). -/
def State.ctx (s : State) (u : UnitIx) : ContextRecord :=
  s.ctxs[u.val]

/-- Replaces the context record of index `u`. -/
def State.putCtx (s : State) (u : UnitIx) (r : ContextRecord) : State :=
  { s with ctxs := s.ctxs.set u.val r }

/-- The slot table entry of slot `k` (R39). -/
def State.slot (s : State) (k : SlotIx) : Slot :=
  s.ims.slots[k.val]

/-- Replaces the slot table entry of slot `k`. -/
def State.putSlot (s : State) (k : SlotIx) (v : Slot) : State :=
  { s with ims := { s.ims with slots := s.ims.slots.set k.val v } }

/-- What a slot that is not EMPTY declares (R39). -/
def Slot.info? : Slot → Option SlotInfo
  | .empty => none
  | .loading i _ _ | .valid i | .damaged i _ => some i

/-- What a VALID slot declares. -/
def Slot.valid? : Slot → Option SlotInfo
  | .valid i => some i
  | _ => none

/-- Whether block `b` belongs to the slot's run (R38). -/
def Slot.owns (k : Slot) (b : Nat) : Bool :=
  k.info?.any fun i => decide (i.first ≤ b ∧ b < i.first + i.len)

/-! ### The image array -/

/-- Bytes of the image array. -/
def arrayBytes : Nat :=
  Config.blockCount * Config.blockBytes

/-- The canonical form of the array's contents: addresses strictly rising and inside the array, and no entry equal to
what an unlisted address reads as. -/
abbrev Memory.wf (m : List Host.Cell) : Prop :=
  m.Pairwise (fun p q => p.1 < q.1) ∧ ∀ c ∈ m, c.1 < arrayBytes ∧ c.2 ≠ Config.erased

/-- The byte at an address; an unlisted one reads as `Config.erased` (log entry 7). -/
def Memory.read (m : List Host.Cell) (addr : Nat) : Byte :=
  (m.lookup addr).getD Config.erased

/-- The listed cells of `bytes` laid out from address `base`. -/
def Memory.cells : Nat → List Byte → List Host.Cell
  | _, [] => []
  | base, v :: rest =>
    if v = Config.erased then Memory.cells (base + 1) rest else (base, v) :: Memory.cells (base + 1) rest

/-- Writes one block's 1,024 bytes (R38); bytes beyond the block's end are not written. -/
def Memory.writeBlock (m : List Host.Cell) (block : Nat) (bytes : List Byte) : List Host.Cell :=
  let base := block * Config.blockBytes
  m.filter (fun c => c.1 < base) ++ Memory.cells base (bytes.take Config.blockBytes)
    ++ m.filter (fun c => base + Config.blockBytes ≤ c.1)

/-- The bytes of one block, in rising order. -/
def Memory.readBlock (m : List Host.Cell) (block : Nat) : List Byte :=
  let base := block * Config.blockBytes
  let own := m.filter fun c => base ≤ c.1 && c.1 < base + Config.blockBytes
  (List.range Config.blockBytes).map fun i => Memory.read own (base + i)

/-- A block of erased bytes, as IMAGE_CLOSE fills with (R47). -/
def Memory.fillBlock : List Byte :=
  List.replicate Config.blockBytes 0xFF

/-! ### CRCs -/

/-- One bit of the reflected CRC-32 with polynomial 0x04C11DB7. -/
def crc32Bit (c : Crc32) : Crc32 :=
  if c.getLsbD 0 then (c >>> 1) ^^^ 0xEDB88320#32 else c >>> 1

/-- One byte of the CRC-32 (not yet inverted). -/
def crc32Byte (c : Crc32) (v : Byte) : Crc32 :=
  (List.range 8).foldl (fun c _ => crc32Bit c) (c ^^^ v.setWidth 32)

/-- The CRC-32 register carried over further bytes. -/
def crc32Update (c : Crc32) (bytes : List Byte) : Crc32 :=
  bytes.foldl crc32Byte c

/-- The CRC-32 register's start: all ones (00_scope.md, image check). -/
def crc32Start : Crc32 :=
  0xFFFFFFFF#32

/-- The final inversion (00_scope.md, image check). -/
def crc32Finish (c : Crc32) : Crc32 :=
  ~~~c

/-- The CRC-32 computed over a configuration record's header and contents, as the image check is computed (R198; log entry 9
for their bytes). -/
def recordCrc (r : ConfigRecord) : Crc32 :=
  crc32Finish (crc32Update crc32Start (Config.recordBytes r.marker r.format r.data))

/-- A record of the given contents, with the header of R198 and a CRC-32 still to be put in. -/
def bareRecord (c : ConfigData) : ConfigRecord where
  marker := Config.recordMarker
  format := Config.recordFormat
  data := c
  crc := 0

/-- The record SAVE_CONFIG writes: its CRC-32 agrees (R199). -/
def writtenRecord (c : ConfigData) : ConfigRecord :=
  { bareRecord c with crc := recordCrc (bareRecord c) }

/-- What stands in the record's place from the erase on until the write is complete: a record that fails its CRC (R199; log
entry 9). -/
def brokenRecord (c : ConfigData) : ConfigRecord :=
  { bareRecord c with crc := ~~~recordCrc (bareRecord c) }

/-- One byte of the frame CRC-16: polynomial 0x1021, most significant bit first (R203). -/
def crc16Byte (c : BitVec 16) (v : Byte) : BitVec 16 :=
  (List.range 8).foldl (fun c _ => if c.getLsbD 15 then (c <<< 1) ^^^ 0x1021#16 else c <<< 1)
    (c ^^^ (v.setWidth 16 <<< 8))

/-- The frame CRC-16: initial value 0xFFFF, no final inversion (R203). -/
def crc16 (bytes : List Byte) : BitVec 16 :=
  bytes.foldl crc16Byte 0xFFFF#16

/-- A 16-bit number as two bytes, high byte first (R192). -/
def be16 (v : BitVec 16) : List Byte :=
  [(v >>> 8).setWidth 8, v.setWidth 8]

/-- A control link frame of the given kind, tag and payload, byte for byte (R203). -/
def controlFrame (kind tag : Byte) (payload : List Byte) : List Byte :=
  let body := be16 (BitVec.ofNat 16 payload.length) ++ [kind, tag] ++ payload
  0xA5 :: body ++ be16 (crc16 body)

/-! ### Which blocks run (R19) -/

/-- No block runs without power or while the RESET line is held low (R37). -/
def State.running (s : State) : Bool :=
  s.powered && !s.resetLow

/-- SUPPLIED or RESTORE: segment links, SENG, RSCH and PERM run (R19). -/
def GapState.carries : GapState → Bool
  | .supplied | .restore => true
  | _ => false

/-- SUPPLIED, GAP, SETTLE and RESTORE: TBASE counts and CLNK runs (R19, R20). -/
def GapState.counts : GapState → Bool
  | .deep | .lost => false
  | _ => true

/-- The control link runs (R19, R29, R201). -/
def State.linkOn (s : State) : Bool :=
  s.running && s.gapc.state.counts

/-- A usable class is NORMAL or OPEN (1.5). -/
def LineClass.usable : LineClass → Bool
  | .normal | .openLine => true
  | _ => false

/-- Whether segment `x` is usable. -/
def State.usable (s : State) (x : Seg) : Bool :=
  (perGet s.smon.classes x).current.usable

/-- Whether units of segment `x` may enter PROBE: the gap controller in SUPPLIED or RESTORE and the segment usable
(R61). -/
def State.serves (s : State) (x : Seg) : Bool :=
  s.gapc.state.carries && s.usable x

/-- Ticks passed since `t0`, modulo 2^32 (R20). -/
def State.since (s : State) (t0 : Tick) : Nat :=
  (s.tick - t0).toNat

/-- A tick due time has been reached: the difference is in the lower half of the counter's range (log entry 6). -/
def State.reached (s : State) (due : Tick) : Bool :=
  decide (s.since due < 2 ^ 31)

/-- A deadline has passed: at the first tick after it (R149; log entry 6). -/
def State.passed (s : State) (deadline : Tick) : Bool :=
  s.reached (deadline + 1)

/-! ### Gap state changes -/

/-- The gap states in which each debounce counter is watched (R6). -/
def GapState.watchesLineLost : GapState → Bool
  | .supplied | .settle | .restore => true
  | _ => false

/-- R6, line-back. -/
def GapState.watchesLineBack : GapState → Bool
  | .gap | .deep => true
  | _ => false

/-- R6, hold-deep. -/
def GapState.watchesHoldDeep : GapState → Bool
  | .supplied | .gap | .restore => true
  | _ => false

/-- R6, hold-exhausted. -/
def GapState.watchesHoldExhausted : GapState → Bool
  | .deep => true
  | _ => false

/-- The counters after a change of gap state: a counter not watched in the new state is set to 0 (R6). -/
def Monitor.watch (m : Monitor) (g : GapState) : Monitor :=
  { m with
    lineLost := if g.watchesLineLost then m.lineLost else 0
    lineBack := if g.watchesLineBack then m.lineBack else 0
    holdDeep := if g.watchesHoldDeep then m.holdDeep else 0
    holdExhausted := if g.watchesHoldExhausted then m.holdExhausted else 0 }

/-- A change of gap state with its effect on the counters (R6, R19). -/
def State.setGap (s : State) (g : GapState) : State :=
  { s with gapc := { s.gapc with state := g }, smon := s.smon.watch g }

/-! ### Free choices -/

/-- Which of `n` things is taken next: a free value, read only where there is more than one (log entry 4). -/
def State.pick (s : State) (n : Nat) : Nat × State :=
  if n ≤ 1 then (0, s) else (Config.choice s.freeCount % n, { s with freeCount := s.freeCount + 1 })

/-- A block of free bytes: what a cut-off write leaves (R52; log entry 8). -/
def State.freeBlock (s : State) : List Byte × State :=
  ((List.range Config.blockBytes).map fun i => Config.freeByte (s.freeCount + i),
   { s with freeCount := s.freeCount + Config.blockBytes })

end Sys2Proof.Machine
end

