-- ==== Sys2Proof/Machine/Flags.lean ====
section
/-! DEFINITION. The condition and flag unit: device flags, per-unit flags, the unreported set, notices and the ALERT
line (10). -/

namespace Sys2Proof.Machine

/-- The seventeen device flags (R180). -/
inductive DeviceFlag where
  | gapBegin | gapEnd | deepEntered | contextLost | restoreDone | holdLow
  | segDown (x : Seg) | segOpen (x : Seg)
  | permitChange | configDefaulted | coldStart | warmReset | unitEvent
deriving DecidableEq, Repr

/-- Segment numbers A, B, C as 0, 1, 2 (R204). -/
def segIndex : Seg → Nat
  | .a => 0
  | .b => 1
  | .c => 2

/-- The place of a device flag in the order of R180. -/
def DeviceFlag.bit : DeviceFlag → Nat
  | .gapBegin => 0
  | .gapEnd => 1
  | .deepEntered => 2
  | .contextLost => 3
  | .restoreDone => 4
  | .holdLow => 5
  | .segDown x => 6 + segIndex x
  | .segOpen x => 9 + segIndex x
  | .permitChange => 12
  | .configDefaulted => 13
  | .coldStart => 14
  | .warmReset => 15
  | .unitEvent => 16

/-- The thirteen per-unit flags (R181). -/
inductive UnitFlag where
  | liveReached | restrained | held | failed
  | condition (c : Condition)
deriving DecidableEq, Repr

/-- The place of a condition in the order of R175. -/
def Condition.index : Condition → Nat
  | .linkTest => 0
  | .classMismatch => 1
  | .imageUnusable => 2
  | .versionAhead => 3
  | .stackFull => 4
  | .verifyMismatch => 5
  | .retryExhausted => 6
  | .contextUnknown => 7
  | .contextRefused => 8

/-- The place of a per-unit flag in the order of R203. -/
def UnitFlag.bit : UnitFlag → Nat
  | .liveReached => 0
  | .restrained => 1
  | .held => 2
  | .failed => 3
  | .condition c => 4 + c.index

/-- Sets a device flag; one that goes from clear to set joins the unreported set (R180, R183). -/
def FlagUnit.setDevice (c : FlagUnit) (f : DeviceFlag) : FlagUnit :=
  if c.device.getLsbD f.bit then c
  else
    { c with
      device := c.device ||| BitVec.twoPow 17 f.bit
      unrepDevice := c.unrepDevice ||| BitVec.twoPow 17 f.bit }

/-- Sets a device flag of the part. -/
def State.setDevice (s : State) (f : DeviceFlag) : State :=
  { s with cflu := s.cflu.setDevice f }

/-- The flag pair of unit `u` joins the unreported set, and UNIT_EVENT is set (R181, R183). -/
def FlagUnit.noteUnit (c : FlagUnit) (u : UnitIx) (bit : Nat) : FlagUnit :=
  { c with unrepUnits := c.unrepUnits.set u.val (c.unrepUnits[u.val] ||| BitVec.twoPow 13 bit) }.setDevice .unitEvent

/-- Sets a per-unit flag of a defined unit; one that goes from clear to set joins the unreported set and sets UNIT_EVENT
(R181, R183). -/
def State.setUnitFlag (s : State) (u : UnitIx) (f : UnitFlag) : State :=
  match s.unit u with
  | none => s
  | some e =>
    { s with
      units := s.units.set u.val (some { e with flags := e.flags ||| BitVec.twoPow 13 f.bit })
      cflu := if e.flags.getLsbD f.bit then s.cflu else s.cflu.noteUnit u f.bit }

/-- Clears device flags, and takes them out of the unreported set (R182, R183). -/
def FlagUnit.clearDevice (c : FlagUnit) (mask : BitVec 17) : FlagUnit :=
  { c with device := c.device &&& ~~~mask, unrepDevice := c.unrepDevice &&& ~~~mask }

/-- Takes per-unit flags of unit `u` out of the unreported set (R183). -/
def FlagUnit.forgetUnit (c : FlagUnit) (u : UnitIx) (mask : BitVec 13) : FlagUnit :=
  { c with unrepUnits := c.unrepUnits.set u.val (c.unrepUnits[u.val] &&& ~~~mask) }

/-- Clears per-unit flags of unit `u` (R182). -/
def State.clearUnitFlags (s : State) (u : UnitIx) (mask : BitVec 13) : State :=
  { s with
    units := s.units.set u.val (s.units[u.val].map fun e => { e with flags := e.flags &&& ~~~mask })
    cflu := s.cflu.forgetUnit u mask }

/-- Bits set in the lowest `n` bits of a word. -/
def bitCount {w : Nat} (v : BitVec w) (n : Nat) : Nat :=
  (List.range n).countP fun i => v.getLsbD i

/-- Entries of the unreported set (R183). -/
def FlagUnit.unreported (c : FlagUnit) : Nat :=
  bitCount c.unrepDevice 17 + (c.unrepUnits.toList.map fun v => bitCount v 13).sum

/-- Whether the unreported set is empty. -/
def FlagUnit.allReported (c : FlagUnit) : Bool :=
  c.unrepDevice == 0 && c.unrepUnits.toList.all (· == 0)

/-- The units that have a pair in the unreported set, in rising order, with their flags of the set (R184). -/
def FlagUnit.noticeUnits (c : FlagUnit) : List (UnitIx × BitVec 13) :=
  (allUnits.map fun u => (u, c.unrepUnits[u.val])).filter fun p => p.2 != 0

/-- The notice of the whole unreported set (R184). -/
def FlagUnit.notice (c : FlagUnit) : Transmission :=
  .notice c.unrepDevice c.noticeUnits

/-- The set emptied as the notice's first byte is sent (R184). -/
def FlagUnit.emptied (c : FlagUnit) : FlagUnit :=
  { c with unrepDevice := 0, unrepUnits := Vector.replicate 24 0 }

/-- The entries of a notice cut off by entry to DEEP return to the set where their flag is still set (R29, R183). -/
def State.returnNotice (s : State) (device : BitVec 17) (units : List (UnitIx × BitVec 13)) : FlagUnit :=
  { s.cflu with
    unrepDevice := s.cflu.unrepDevice ||| (device &&& s.cflu.device)
    unrepUnits := units.foldl
      (fun v p => v.set p.1.val (v[p.1.val] ||| (p.2 &&& ((s.unit p.1).map (·.flags)).getD 0))) s.cflu.unrepUnits }

/-- ALERT is asserted while a set device flag is enabled in the ALERT mask, in every state in which CFLU runs: not in
LOST, not while RESET is held low, not without power (R185, R19). -/
def State.alertLevel (s : State) : Bool :=
  s.running && s.gapc.state != .lost && (s.cflu.device &&& s.cflu.alertMask) != 0

/-- Recomputes ALERT (R185). -/
def State.recomputeAlert (s : State) : State :=
  { s with cflu := { s.cflu with alert := s.alertLevel } }

/-- The condition's response mask is open (R175). -/
def FlagUnit.isOpen (c : FlagUnit) (k : Condition) : Bool :=
  c.respOpen.getLsbD k.index

/-- The payload bytes of a notice (R203). -/
def noticePayload (device : BitVec 17) (units : List (UnitIx × BitVec 13)) : List Byte :=
  [device.setWidth 8, (device >>> 8).setWidth 8, (device >>> 16).setWidth 8, BitVec.ofNat 8 units.length]
    ++ units.flatMap fun (p : UnitIx × BitVec 13) => [BitVec.ofNat 8 p.1.val, p.2.setWidth 8, (p.2 >>> 8).setWidth 8]

/-- A notice as sent: kind 0xFF, tag 0 (R184, R203). -/
def noticeFrame (device : BitVec 17) (units : List (UnitIx × BitVec 13)) : List Byte :=
  controlFrame 0xFF 0 (noticePayload device units)

end Sys2Proof.Machine
end

