-- ==== Sys2Proof/Machine/Links.lean ====
section
/-! DEFINITION. The segment links: queue, arbiter, frames, lock and yield, cuts and halts (05). -/

namespace Sys2Proof.Config

/-- Free value: the payload of a frame the part sends on a segment, for the frames whose payload R205 does not lay out
(log entry 28). -/
opaque framePayload : Machine.FrameBody → List Byte

end Sys2Proof.Config

namespace Sys2Proof.Machine

/-! ### Exchanges -/

/-- The unit an exchange is for; none for a window part (R82). -/
def Exchange.unit? : Exchange → Option UnitIx
  | .window _ => none
  | .probe u _ | .restart u | .join u _ | .verifyRequest u | .verifyPoll u | .contextSequence u | .contextPoll u =>
    some u

/-- Window part (R83, order 1). -/
def Exchange.isWindow : Exchange → Bool
  | .window _ => true
  | _ => false

/-- Context sequence (R83, order 2). -/
def Exchange.isSequence : Exchange → Bool
  | .contextSequence _ => true
  | _ => false

/-- Unit-service exchange (R81; R83, order 3). -/
def Exchange.isService : Exchange → Bool
  | .probe _ _ | .restart _ | .join _ _ | .verifyRequest _ | .verifyPoll _ => true
  | _ => false

/-- Context poll (R83, order 4). -/
def Exchange.isPoll : Exchange → Bool
  | .contextPoll _ => true
  | _ => false

/-- Two entries for one unit, or two window parts: the newer takes the older's place (R82). -/
def Exchange.replaces (new old : Exchange) : Bool :=
  new.unit? == old.unit?

/-- Byte `i` of the test pattern of attempt `p` (R97). -/
def patternByte (p i : Nat) : Byte :=
  BitVec.ofNat 8 (0x5A + 29 * i + 7 * p)

/-- The 16-byte test pattern of attempt `p` (R97). -/
def probePattern (p : Nat) : List Byte :=
  (List.range 16).map (patternByte p)

/-- The stream group address of a slot (R79, R118). -/
def groupAddress (k : SlotIx) : Byte :=
  BitVec.ofNat 8 (0x40 + k.val)

/-- The PART frames' content for a write form and a record (R163, R164). -/
def contextParts (form : WriteForm) (r : ContextRecord) : List PartFields :=
  match form, r.content with
  | .record, some (.door c) => [.door c.leaf c.position (some (c.stroke, c.cycles, c.obstruction))]
  | .record, some (.display c) => [.displayState c.page c.route c.nextStop c.brightness, .messages c.messages]
  | .record, some (.announce c) => [.announce c.volume c.queue]
  | .unknown, some (.door c) => [.door .indefinite none (some (c.stroke, c.cycles, c.obstruction))]
  | .unknown, _ => [.door .indefinite none none]
  | _, _ => [.noFields]

/-- The frames of a window part, in order: BLOCK frames to the group, then an ANSWER_REQ to each member (R140,
R141). -/
def State.partFrames (s : State) (w : WindowPart) : List OutFrame :=
  (w.blocks.zipIdx w.start).map (fun (p : List Byte × Nat) =>
      { unit := none, dest := groupAddress w.slot, body := .block p.2 p.1 })
    ++ w.members.filterMap fun u => (s.unit u).map fun e =>
      { unit := some u, dest := BitVec.ofNat 8 e.decl.addr, body := .answerRequest w.start w.blocks.length }

/-- The frames of an exchange for one unit (R81), with their content as it stands when the exchange is put in flight. -/
def State.unitFrames (s : State) (u : UnitIx) (ex : Exchange) (e : UnitEntry) : List OutFrame :=
  let one (b : FrameBody) : OutFrame := { unit := some u, dest := BitVec.ofNat 8 e.decl.addr, body := b }
  match ex with
  | .window _ => []
  | .probe _ p => [one (.probe p (probePattern p))]
  | .restart _ => [one .restart]
  | .join _ keep =>
    ((s.slot e.decl.slot).info?.map fun i =>
      one (.join (groupAddress e.decl.slot) i.len i.version i.crc keep)).toList
  | .verifyRequest _ =>
    ((s.slot e.decl.slot).info?.map fun i => one (.verifyRequest i.len i.version i.crc)).toList
  | .verifyPoll _ => [one .verifyPoll]
  | .contextSequence _ =>
    let form := e.form.getD .empty
    let parts := contextParts form (s.ctx u)
    one (.contextBegin form parts.length) :: (parts.map fun p => one (.contextPart p)) ++ [one .contextCommit]
  | .contextPoll _ => [one .contextPoll]

/-- The frames of an exchange, in order (R81). -/
def State.framesOf (s : State) (ex : Exchange) : List OutFrame :=
  match ex with
  | .window w => s.partFrames w
  | ex => (ex.unit?.bind fun u => (s.unit u).map (s.unitFrames u ex)).getD []

/-- Whether an answer of this kind is what a frame calls for (R81). -/
def FrameBody.calls : FrameBody → AnswerBody → Bool
  | .probe .., .bootReport _ => true
  | .restart, .ack => true
  | .join .., .ack => true
  | .answerRequest .., .windowAnswer _ => true
  | .verifyRequest .., .ack => true
  | .verifyPoll, .verifyReport _ => true
  | .contextBegin .., .ack => true
  | .contextPart _, .ack => true
  | .contextCommit, .contextAck _ => true
  | .contextPoll, .contextReport _ => true
  | _, _ => false

/-- Every frame but BLOCK calls for an answer (R81). -/
def FrameBody.wantsAnswer : FrameBody → Bool
  | .block .. => false
  | _ => true

/-! ### Bytes of segment frames (R205, R206) -/

/-- The kind value of a frame the part sends (R206). -/
def FrameBody.kind : FrameBody → Byte
  | .probe .. => 0x01
  | .restart => 0x02
  | .join .. => 0x03
  | .block .. => 0x04
  | .answerRequest .. => 0x05
  | .verifyRequest .. => 0x06
  | .verifyPoll => 0x07
  | .contextBegin .. => 0x08
  | .contextPart _ => 0x09
  | .contextCommit => 0x0A
  | .contextPoll => 0x0B

/-- The kind value of a frame a unit sends (R206). -/
def answerKind : AnswerBody → Byte
  | .ack => 0x80
  | .bootReport _ => 0x81
  | .windowAnswer _ => 0x82
  | .verifyReport _ => 0x83
  | .contextAck _ => 0x84
  | .contextReport _ => 0x85

/-- A segment frame of the given address, kind, sequence and payload, byte for byte (R205). -/
def segmentFrame (address kind seq : Byte) (payload : List Byte) : List Byte :=
  let body := [address, kind, seq] ++ be16 (BitVec.ofNat 16 payload.length) ++ payload
  0xC3 :: body ++ be16 (crc16 body)

/-- The payload of a BLOCK frame: the block's index within the image, then its bytes (R205). -/
def blockPayload (index : Nat) (data : List Byte) : List Byte :=
  BitVec.ofNat 8 index :: data

/-- The payload of a frame the part sends: a BLOCK's as R205 lays it out, none for a frame to which the spec gives no field
(DEDUCED, log entry 45), and free bytes, at most 1,025, for the others, whose layout the spec does not give (R205; log
entry 28). -/
def FrameBody.payload : FrameBody → List Byte
  | .block i d => blockPayload i d
  | .restart | .verifyPoll | .contextCommit | .contextPoll => []
  | b => (Config.framePayload b).take 1025

/-- The bytes of a frame the part sends, with its sequence number (R79, R205, R206). -/
def OutFrame.bytes (o : OutFrame) (seq : Byte) : List Byte :=
  segmentFrame o.dest o.body.kind seq o.body.payload

/-- The payload of a WINDOW_ANSWER: the echoed start, the flags ERR, BUSY and NOBURST from the lowest bit, and the count
(R205). -/
def windowAnswerPayload (a : WindowAnswer) : List Byte :=
  [a.start, (if a.err then 1 else 0) ||| (if a.busy then 2 else 0) ||| (if a.noburst then 4 else 0), a.count]

/-! ### One link -/

/-- Halted: queue, exchange in flight and lock given up, SDE_x released (R91, R92). -/
def Link.halt (l : Link) : Link :=
  { l with halted := true, queue := [], inFlight := none, lock := none, rx := [] }

/-- Leaving HALTED: empty queue, nothing in flight, lock free (R78). -/
def Link.start (l : Link) : Link :=
  { l with halted := false, queue := [], inFlight := none, lock := none }

/-- An exchange handed to a link joins as newest, in place of an entry for the same unit; a HALTED link drops it
(R82). -/
def Link.hand (l : Link) (ex : Exchange) : Link :=
  { l with queue := if l.halted then l.queue else l.queue.filter (fun q => !ex.replaces q) ++ [ex] }

/-- Whether the exchange in flight is a context sequence that a level-7 window part may mark: any that is not in the
discard wait of a cut (R86, R93). -/
def InFlight.markable (f : InFlight) : Bool :=
  f.exchange.isSequence && !f.cut

/-- Whether the mark abandons the sequence: only while CONTEXT_COMMIT has not been sent; a marked sequence whose COMMIT
is in flight runs to its CONTEXT_ACK or timeout (R86, R93; log entry 17). -/
def InFlight.abandons (f : InFlight) : Bool :=
  f.marked && f.frame.body != .contextCommit

/-- Marks the sequence holding the lock for abandonment (R86). -/
def Link.mark (l : Link) : Link :=
  { l with inFlight := l.inFlight.map fun f => if f.markable then { f with marked := true } else f }

/-- Clears an abandonment mark (R87). -/
def Link.unmark (l : Link) : Link :=
  { l with inFlight := l.inFlight.map fun f => { f with marked := false } }

/-- A window part handed to the link; at level 7 under yield it marks the sequence holding the lock (R86). -/
def Link.handPart (l : Link) (w : WindowPart) : Link :=
  let l := l.hand (.window w)
  if w.level = 7 && l.yieldOn && !l.halted then l.mark else l

/-- Whether a level-7 window part waits in the queue (R87). -/
def Link.level7Waiting (l : Link) : Bool :=
  l.queue.any fun ex => match ex with
    | .window w => w.level == 7
    | _ => false

/-- Sets yield, with its effect on the situation as it stands (R87). -/
def Link.setYield (l : Link) (v : Bool) : Link :=
  if v = l.yieldOn then l
  else if v then
    let l := { l with yieldOn := true }
    if l.level7Waiting then l.mark else l
  else { l with yieldOn := false }.unmark

/-- The arbiter's choice (R83). -/
def Link.choose (l : Link) : Option Exchange :=
  l.queue.find? Exchange.isWindow <|> l.queue.find? Exchange.isSequence <|> l.queue.find? Exchange.isService
    <|> l.queue.find? Exchange.isPoll

/-- The next frame of an exchange goes on the line with the counter's sequence number (R79). -/
def Link.send (l : Link) (ex : Exchange) (f : OutFrame) (rest : List OutFrame) : Link :=
  { l with
    seq := l.seq + 1
    inFlight := some { exchange := ex, frame := f, seq := l.seq, todo := rest, phase := .sending, cut := false,
                       marked := false } }

/-- Puts an exchange in flight: it leaves the queue, and a context sequence takes the lock (R83, R85). -/
def Link.carry (l : Link) (ex : Exchange) (frames : List OutFrame) : Link :=
  let l := { l with queue := l.queue.erase ex }
  match frames with
  | [] => l
  | f :: rest => { l with lock := if ex.isSequence then ex.unit? else l.lock }.send ex f rest

/-- The arbiter's step: with the link running and nothing in flight, the first entry in order is put in flight (R83). -/
def Link.arbitrate (l : Link) (frames : Exchange → List OutFrame) : Link :=
  if l.halted || l.inFlight.isSome then l
  else match l.choose with
    | none => l
    | some ex => l.carry ex (frames ex)

/-- The exchange in flight ends; the line is idle and the lock released (R84, R85). -/
def Link.endExchange (l : Link) : Link :=
  { l with inFlight := none, lock := none }

/-- Abandonment under yield: the lock is released and the sequence requeued with its original age, first of the context
sequences (R86; log entry 18). -/
def Link.abandon (l : Link) (ex : Exchange) : Link :=
  { l with inFlight := none, lock := none, queue := ex :: l.queue }

/-- Takes a unit out of a queued window part (R90). -/
def Exchange.withoutMember (ex : Exchange) (u : UnitIx) : Exchange :=
  match ex with
  | .window w => .window { w with members := w.members.filter (· != u) }
  | ex => ex

/-- The exchange in flight after the withdrawal of `u` (R90): the unit's own exchange is cut, with no further frames;
a window part skips the unit's ANSWER_REQ. -/
def InFlight.withdraw (f : InFlight) (u : UnitIx) : InFlight :=
  if f.exchange.unit? = some u then { f with cut := true, todo := [], marked := false }
  else { f with todo := f.todo.filter fun o => o.unit != some u }

/-- A unit's withdrawal at its link (R90). -/
def Link.withdraw (l : Link) (u : UnitIx) : Link :=
  { l with
    queue := (l.queue.filter fun q => q.unit? != some u).map (·.withoutMember u)
    inFlight := l.inFlight.map (·.withdraw u) }

/-- Removes a queued verify poll of `u` (R149, the deadline passing). -/
def Link.dropVerifyPoll (l : Link) (u : UnitIx) : Link :=
  { l with queue := l.queue.filter fun q => q != .verifyPoll u }

/-- Where unit `u`'s exchange stands; a cut exchange is no longer the unit's (R77, R90). -/
def Link.place (l : Link) (u : UnitIx) : ExchangePlace :=
  if l.inFlight.any fun f => f.exchange.unit? == some u && !f.cut then .inFlight
  else if l.queue.any fun q => q.unit? == some u then .queued
  else .absent

/-- The wait for an answer, if the link waits: since when and for how long (R80). -/
def Link.wait? (l : Link) : Option (Tick × Nat) :=
  l.inFlight.bind fun f => match f.phase with
    | .waiting t0 n => some (t0, n)
    | .sending => none

/-- The bytes of the frame that the link is sending, if it sends one (R79, R205). -/
def Link.sending? (l : Link) : Option (List Byte) :=
  l.inFlight.bind fun f => match f.phase with
    | .sending => some (f.frame.bytes f.seq)
    | .waiting .. => none

/-- The frame passes the address, sequence and kind tests against the frame that awaits an answer (R79). -/
def Link.accepts (l : Link) (a : AnswerFrame) : Bool :=
  l.wait?.isSome && l.inFlight.any fun f => a.address == f.frame.dest && a.seq == f.seq && f.frame.body.calls a.body

/-! ### Links of the part -/

/-- Changes segment `x`'s link. -/
def State.onLink (s : State) (x : Seg) (f : Link → Link) : State :=
  { s with links := perMod s.links x f }

/-- Changes every link. -/
def State.onLinks (s : State) (f : Link → Link) : State :=
  { s with links := ⟨f s.links.a, f s.links.b, f s.links.c⟩ }

/-- Hands an exchange for unit `u` to its segment's link. -/
def State.hand (s : State) (u : UnitIx) (ex : Exchange) : State :=
  match s.unit u with
  | none => s
  | some e => s.onLink e.decl.seg (·.hand ex)

/-- A unit's withdrawal at the link of its segment (R65, R90). -/
def State.withdrawLink (s : State) (u : UnitIx) : State :=
  match s.unit u with
  | none => s
  | some e => s.onLink e.decl.seg (·.withdraw u)

/-- The arbiters' step on all three segments (R83). -/
def State.arbitrate (s : State) : State :=
  s.onLinks (·.arbitrate s.framesOf)

/-- Whether segment `x`'s line is idle between exchanges (R12, R78). -/
def State.lineIdle (s : State) (x : Seg) : Bool :=
  (perGet s.links x).inFlight.isNone

end Sys2Proof.Machine
end

