-- ==== Sys2Proof/Machine/Units.lean ====
section
/-! DEFINITION. The unit table's shared operations: state changes (R59), restore demand (R21, R74), withdrawal (R65),
conditions, faults and entry to HELD, FAILED, PROBE and LIVE; with the edits of stream records that a withdrawal makes
(R130). -/

namespace Sys2Proof.Machine

/-! ### Stream records under removal -/

/-- The smallest block at or above `p` that some member owes (R121). -/
def StreamRecord.smallestFrom (r : StreamRecord) (p : Nat) : Option Nat :=
  ((r.members.flatMap (·.owed)).filter fun b => decide (p ≤ b)).min?

/-- Placing the cursor from position `p` (R121). -/
def StreamRecord.place (r : StreamRecord) (p : Nat) : StreamRecord :=
  { r with cursor := ((r.smallestFrom p) <|> (r.smallestFrom 0)).getD r.cursor }

/-- Whether unit `u` is a member. -/
def StreamRecord.has (r : StreamRecord) (u : UnitIx) : Bool :=
  r.members.any fun m => m.unit == u

/-- Removes the members that `p` names (R130). -/
def StreamRecord.removeAll (r : StreamRecord) (p : UnitIx → Bool) : StreamRecord :=
  { r with members := r.members.filter fun m => !p m.unit }

/-- Removal from the active record: with no window in flight the cursor is placed from c (R130). -/
def StreamRecord.removeActive (r : StreamRecord) (p : UnitIx → Bool) : StreamRecord :=
  if r.members.any (fun m => p m.unit) && r.window.isNone then (r.removeAll p).place r.cursor else r.removeAll p

/-- Removes the members that `p` names from every record; a suspended record so emptied leaves the stack (R125,
R130). An emptied active record is freed by `settleStreams`. -/
def Scheduler.removeAll (c : Scheduler) (p : UnitIx → Bool) : Scheduler :=
  { c with
    active := c.active.map (·.removeActive p)
    stack := (c.stack.map (·.removeAll p)).filter fun r => !r.members.isEmpty }

/-- Participants that `p` names become IGNORED (R137, R146). -/
def Window.ignore (w : Window) (p : Participant → Bool) : Window :=
  { w with participants := w.participants.map fun q => if p q then { q with answer := .ignored } else q }

/-! ### Changing state (R59) -/

/-- The entry in state `st`, with the fields that leaving its old state clears: first-window and joined outside STREAM
and SUSPENDED, restraint, poll misses and poll timer outside LIVE, the pending condition outside HELD (R59), the probe,
verify and write-back entries outside PROBE, VERIFY and CONTEXT (R96, R148, R163), and the running version on entry to
DARK and ISOLATED (R73). -/
def UnitEntry.goto (e : UnitEntry) (st : UnitState) : UnitEntry :=
  { e with
    state := st
    firstWindow := e.firstWindow && (st == .stream || st == .suspended)
    joined := e.joined && (st == .stream || st == .suspended)
    restrained := e.restrained && st == .live
    misses := if st = .live then e.misses else 0
    pollDue := if st = .live then e.pollDue else none
    pending := if st = .held then e.pending else none
    linkTestAttempt := if st = .held then e.linkTestAttempt else none
    probe := if st = .probe then e.probe else none
    verify := if st = .verify then e.verify else none
    form := if st = .context then e.form else none
    running := if st = .dark ∨ st = .isolated then none else e.running }

/-- Moves unit `u` into state `st`, then sets fields by `f`; leaving WAIT removes a stack-full mark (R129). -/
def State.move (s : State) (u : UnitIx) (st : UnitState) (f : UnitEntry → UnitEntry) : State :=
  { s with
    units := s.units.set u.val (s.units[u.val].map fun e => f (e.goto st))
    rsch := { s.rsch with marks := if st = .wait then s.rsch.marks else s.rsch.marks.filter (· != u) } }

/-- The unit states that hold restore demand on a usable segment (R21). -/
def UnitState.demands : UnitState → Bool
  | .dark | .probe | .wait | .stream | .suspended | .verify | .context => true
  | .live | .held | .failed | .isolated => false

/-- Whether unit `u` holds restore demand (R21). -/
def State.holdsDemand (s : State) (u : UnitIx) : Bool :=
  (s.unit u).any fun e => e.state.demands && s.usable e.decl.seg

/-- Restore demand as R21 defines it. -/
def State.demandNow (s : State) : Bool :=
  allUnits.any s.holdsDemand

/-- The gap state after a report of demand `d` (R21). -/
def GapState.onDemand (g : GapState) (d : Bool) : GapState :=
  match g, d with
  | .supplied, true => .restore
  | .restore, false => .supplied
  | g, _ => g

/-- UTAB reports a change of restore demand, and GAPC acts on it; in LOST nothing is reported (R21, R74). -/
def State.reportDemand (s : State) : State :=
  let d := s.demandNow
  let g := s.gapc.state.onDemand d
  if d = s.gapc.demand ∨ s.gapc.state = .lost then s
  else
    { s with
      gapc := { s.gapc with demand := d, state := g }
      smon := s.smon.watch g
      cflu := if s.gapc.state = .restore ∧ g = .supplied then s.cflu.setDevice .restoreDone else s.cflu }

/-! ### Withdrawal, conditions and faults -/

/-- A unit's withdrawal at the restore scheduler, the stream engine and its segment link (R65). -/
def State.withdraw (s : State) (u : UnitIx) : State :=
  State.withdrawLink
    { s with
      rsch := s.rsch.removeAll (· == u)
      seng := s.seng.map (·.ignore fun q => q.unit == u) } u

/-- Entry to HELD with a pending condition (R71); for LINK_TEST the attempt of the probe is kept (R106). -/
def State.toHeld (s : State) (u : UnitIx) (k : Condition) : State :=
  let attempt := (s.unit u).bind fun e => e.probe.map (·.attempt)
  ((s.withdraw u).move u .held fun e =>
    { e with pending := some k, linkTestAttempt := if k = .linkTest then attempt else none }).setUnitFlag u .held

/-- Entry to FAILED (R71). -/
def State.toFailed (s : State) (u : UnitIx) : State :=
  ((s.withdraw u).move u .failed id).setUnitFlag u .failed

/-- A condition raised for a unit (R176): its flag is set, and its mask decides between the default action and HELD. -/
def State.raise (s : State) (u : UnitIx) (k : Condition) (default : State → State) : State :=
  let s := s.setUnitFlag u (.condition k)
  if s.cflu.isOpen k then s.toHeld u k else default s

/-- A fault handed to the retry count (R72): within the limit it is repeated by `again`; past it RETRY_EXHAUSTED is
raised in place of the repeat. -/
def State.fault (s : State) (u : UnitIx) (again : State → State) : State :=
  let s := s.modUnit u fun e => { e with retry := e.retry + 1 }
  if (s.unit u).any fun e => decide (s.timing.retryLimit < e.retry) then
    s.raise u .retryExhausted (·.toFailed u)
  else again s

/-! ### Entry to PROBE and LIVE -/

/-- Entry to PROBE with a probe record and its exchange, or to DARK where the gap state or the segment forbids it
(R61). -/
def State.enterProbeWith (s : State) (u : UnitIx) (r : ProbeRecord) (ex : Exchange) : State :=
  match s.unit u with
  | none => s
  | some e =>
    if s.serves e.decl.seg then (s.move u .probe fun e => { e with probe := some r }).hand u ex
    else s.move u .dark id

/-- Entry to PROBE with a fresh probe record, p = 0 (R61, R96). -/
def State.enterProbe (s : State) (u : UnitIx) : State :=
  s.enterProbeWith u ⟨.probing, 0⟩ (.probe u 0)

/-- A LIVE unit's poll timer comes due: it becomes absent and a context poll joins the queue (R88). -/
def State.pollDueNow (s : State) (u : UnitIx) : State :=
  (s.modUnit u fun e => { e with pollDue := none }).hand u (.contextPoll u)

/-- Entry to LIVE: the poll timer starts one period later (R88), LIVE_REACHED is set, and RESTRAINED on a restrained
entry (R165, R181). -/
def State.enterLive (s : State) (u : UnitIx) (restrained : Bool) : State :=
  let due := s.tick + BitVec.ofNat 32 s.timing.pollPeriod
  let s := (s.move u .live fun e => { e with restrained := restrained, pollDue := some due }).setUnitFlag u .liveReached
  if restrained then s.setUnitFlag u .restrained else s

end Sys2Proof.Machine
end

