-- ==== Sys2Proof/Machine/Context.lean ====
section
/-! DEFINITION. The context store: capture, freezing, ageing and write-back (09.1 to 09.5). -/

namespace Sys2Proof.Machine

/-! ### Capture (R157 to R159) -/

/-- A blank content of a unit's class (R157). -/
def Content.blank : UnitClass → Content
  | .door | .ramp => .door { leaf := .indefinite, position := none, stroke := 1, cycles := 0, obstruction := none }
  | .dest | .saloon => .display { page := 0, route := 0, nextStop := 0, brightness := 0, messages := [] }
  | .announce => .announce { volume := 0, queue := [] }

/-- A field stored if it is in range, else kept with the range flag (R159). -/
def checked (limit new old : Nat) : Nat × Bool :=
  if new ≤ limit then (new, false) else (old, true)

/-- A list with every number that repeats an earlier one dropped (R159, first pass). -/
def dropRepeats (l : List (BitVec 16)) : List (BitVec 16) :=
  l.foldl (fun acc n => if acc.contains n then acc else acc ++ [n]) []

/-- A reported list as stored, and whether the range flag is set (R159). -/
def storedList (l : List (BitVec 16)) : List (BitVec 16) × Bool :=
  let d := dropRepeats l
  (d.take 4, d.length != l.length || decide (4 < d.length))

/-- A reported position as stored against the stored stroke (R159). -/
def storedPosition (stroke : Nat) (reported old : Option Nat) : Option Nat × Bool :=
  match reported with
  | none => (none, false)
  | some p =>
    if p ≤ stroke then (some p, false)
    else if p ≤ stroke + stroke / 64 then (some stroke, false)
    else (old, true)

/-- A reported obstruction part as stored against the stored stroke (R159; log entry 16 for a reversal count out of
range where no part is stored). -/
def storedObstruction (stroke : Nat) (reported : Option (Nat × Nat)) (old : Option Obstruction) :
    Option Obstruction × Bool :=
  match reported with
  | none => (none, false)
  | some (p, n) =>
    if stroke < p then (old, true)
    else if n ≤ 15 then (some ⟨p, n⟩, false)
    else (old.map fun o => ⟨p, o.reversals⟩, true)

/-- A DOOR or RAMP report stored on a content (R159): the stroke is checked first. -/
def DoorContent.store (c : DoorContent) (leaf : Option Leaf) (position : Option Nat) (stroke cycles : Nat)
    (obstruction : Option (Nat × Nat)) : DoorContent × Bool :=
  let st := if 1 ≤ stroke ∧ stroke ≤ 65535 then (stroke, false) else (c.stroke, true)
  let ps := storedPosition st.1 position c.position
  let cy := checked 16777215 cycles c.cycles
  let ob := storedObstruction st.1 obstruction c.obstruction
  ({ leaf := leaf.getD c.leaf, position := ps.1, stroke := st.1, cycles := cy.1, obstruction := ob.1 },
   leaf.isNone || st.2 || ps.2 || cy.2 || ob.2)

/-- A DEST or SALOON report stored on a content (R159). -/
def DisplayContent.store (c : DisplayContent) (page route nextStop brightness : Nat) (messages : List (BitVec 16)) :
    DisplayContent × Bool :=
  let pg := checked 255 page c.page
  let ro := checked 9999 route c.route
  let ns := checked 127 nextStop c.nextStop
  let br := checked 15 brightness c.brightness
  let ms := storedList messages
  ({ page := pg.1, route := ro.1, nextStop := ns.1, brightness := br.1, messages := ms.1 },
   pg.2 || ro.2 || ns.2 || br.2 || ms.2)

/-- An ANNOUNCE report stored on a content (R159). -/
def AnnounceContent.store (c : AnnounceContent) (volume : Nat) (queue : List (BitVec 16)) : AnnounceContent × Bool :=
  let vo := checked 31 volume c.volume
  let qu := storedList queue
  ({ volume := vo.1, queue := qu.1 }, vo.2 || qu.2)

/-- A report stored on a content, and whether the range flag is set (R159). A report of another class's fields stores
none of them and sets the flag (log entry 16). -/
def Content.store (c : Content) (f : ContextFields) : Content × Bool :=
  match c, f with
  | .door c, .door leaf position stroke cycles obstruction =>
    let r := c.store leaf position stroke cycles obstruction
    (.door r.1, r.2)
  | .display c, .display page route nextStop brightness messages =>
    let r := c.store page route nextStop brightness messages
    (.display r.1, r.2)
  | .announce c, .announce volume queue =>
    let r := c.store volume queue
    (.announce r.1, r.2)
  | c, _ => (c, true)

/-- A capture at tick `now` for a unit of class `cls` (R158). -/
def ContextRecord.capture (r : ContextRecord) (cls : UnitClass) (now : Tick) (f : ContextFields) : ContextRecord :=
  let stored := (r.content.getD (.blank cls)).store f
  { validity := .current
    capturedAt := some now
    ageUnknown := false
    rangeFlag := r.rangeFlag || stored.2
    content := some stored.1 }

/-! ### Freezing and age (R160 to R162) -/

/-- CURRENT and WRITTEN become FROZEN (R160, R161). -/
def ContextRecord.freeze (r : ContextRecord) : ContextRecord :=
  { r with validity := match r.validity with
    | .current | .written => .frozen
    | v => v }

/-- The age-unknown flag of a FROZEN record is set on entry to DEEP (R160). -/
def ContextRecord.loseAge (r : ContextRecord) : ContextRecord :=
  if r.validity = .frozen then { r with ageUnknown := true } else r

/-- Leaf state and position made INDEFINITE (R162, R165). -/
def Content.indefinite : Content → Content
  | .door c => .door { c with leaf := .indefinite, position := none }
  | c => c

/-- The record holds a known position (R162, R163). -/
def ContextRecord.knowsPosition (r : ContextRecord) : Bool :=
  r.content.any fun c => match c with
    | .door d => d.position.isSome
    | _ => false

/-- The age limit of a class; none for classes that are never aged (R162). -/
def ageLimit (t : TimingSettings) : UnitClass → Option Nat
  | .door => some t.ageDoor
  | .ramp => some t.ageRamp
  | _ => none

/-- Whether a record's age is unknown or over the limit at tick `now` (R162). -/
def ContextRecord.tooOld (r : ContextRecord) (limit : Nat) (now : Tick) : Bool :=
  r.ageUnknown || r.capturedAt.any fun t0 => decide (limit < (now - t0).toNat)

/-- The age test on a FROZEN DOOR or RAMP record; one whose position is already INDEFINITE is unchanged (R162). -/
def ContextRecord.age (r : ContextRecord) (t : TimingSettings) (cls : UnitClass) (now : Tick) : ContextRecord :=
  match ageLimit t cls with
  | some limit =>
    if r.validity = .frozen ∧ r.knowsPosition ∧ r.tooOld limit now then
      { r with content := r.content.map Content.indefinite }
    else r
  | none => r

/-- Freezing and ageing at a unit's leaving LIVE outside a gap, or at an ADMIT (R161). -/
def State.freezeAndAge (s : State) (u : UnitIx) : State :=
  { s with ctxs := s.ctxs.set u.val (match s.unit u with
      | none => s.ctx u
      | some e => (s.ctx u).freeze.age s.timing e.decl.cls s.tick) }

/-- The record of index `u` after the age test at the current tick (R162). -/
def State.agedCtx (s : State) (u : UnitIx) : ContextRecord :=
  match s.unit u with
  | none => s.ctx u
  | some e => (s.ctx u).age s.timing e.decl.cls s.tick

/-- The age test on every FROZEN DOOR or RAMP record (R162, settle expiry). -/
def State.ageAll (s : State) : State :=
  { s with ctxs := Vector.ofFn s.agedCtx }

/-! ### Write-back (R163, R165, R166) -/

/-- Sets the write form and queues the unit's context sequence (R163). -/
def State.queueForm (s : State) (u : UnitIx) (form : WriteForm) : State :=
  (s.modUnit u fun e => { e with form := some form }).hand u (.contextSequence u)

/-- The form a write-back falls back to when nothing known may be sent (R163, R166): UNKNOWN for DOOR and RAMP, EMPTY
for the others. -/
def fallbackForm (c : UnitClass) : WriteForm :=
  if c.isDoorOrRamp then .unknown else .empty

/-- Entry to CONTEXT: the form is chosen by the record and the class, or CONTEXT_UNKNOWN is raised (R163). -/
def State.enterContext (s : State) (u : UnitIx) : State :=
  match s.unit u with
  | none => s
  | some e =>
    let s := s.move u .context id
    let r := s.ctx u
    if e.decl.cls.isDoorOrRamp then
      if r.knowsPosition then s.queueForm u .record
      else s.raise u .contextUnknown (·.queueForm u .unknown)
    else if r.validity = .empty then s.queueForm u .empty
    else s.queueForm u .record

/-- The record after a write-back of the given form was applied (R165). -/
def ContextRecord.applied (r : ContextRecord) (form : WriteForm) : ContextRecord :=
  if r.validity = .empty then r
  else match form with
    | .record => { r with validity := .written }
    | .unknown => { r with validity := .written, content := r.content.map Content.indefinite }
    | .empty => .blank

/-- APPLIED: the unit goes to LIVE, restrained when the form was UNKNOWN, and the record changes by the form (R165). -/
def State.contextApplied (s : State) (u : UnitIx) (form : WriteForm) : State :=
  (s.putCtx u ((s.ctx u).applied form)).enterLive u (form == .unknown)

/-- A context sequence's fault: within the limit a new sequence of the same form is queued (R165). -/
def State.contextFault (s : State) (u : UnitIx) : State :=
  s.fault u fun s => s.hand u (.contextSequence u)

/-- REFUSED (R166): to a RECORD write CONTEXT_REFUSED is raised, by default a fresh sequence of the fallback form; to an
UNKNOWN or EMPTY write it is a fault. -/
def State.contextRefused (s : State) (u : UnitIx) (e : UnitEntry) (form : WriteForm) : State :=
  if form = .record then s.raise u .contextRefused (·.queueForm u (fallbackForm e.decl.cls)) else s.contextFault u

/-- The outcome of a context sequence (R165): its CONTEXT_ACK, or none where a frame's wait ended without answer. An
outcome for a unit not in CONTEXT is dropped (R59). -/
def State.contextOutcome (s : State) (u : UnitIx) (a : Option ContextAck) : State :=
  match s.unit u with
  | none => s
  | some e =>
    if e.state ≠ .context then s
    else match e.form, a with
      | some form, some .applied => s.contextApplied u form
      | some form, some .refused => s.contextRefused u e form
      | _, _ => s.contextFault u

end Sys2Proof.Machine
end

