-- ==== Sys2Proof/Machine/Streams.lean ====
section
/-! DEFINITION. The restore scheduler and the stream engine: eligibility, formation, joining, windows, boundary work, the
suspension stack and preemption (07), and the window in flight (08.1 to 08.4). -/

namespace Sys2Proof.Machine

/-! ### Eligibility (R115) -/

/-- A record exists for the slot, active or suspended (R113). -/
def Scheduler.hasSlot (c : Scheduler) (k : SlotIx) : Bool :=
  c.active.any (fun r => r.slot == k) || c.stack.any fun r => r.slot == k

/-- Eligible: in WAIT, on a usable segment, its bound slot VALID and the slot of no record (R115). -/
def State.eligible (s : State) (u : UnitIx) : Bool :=
  (s.unit u).any fun e =>
    e.state == .wait && (s.slot e.decl.slot).valid?.isSome && !s.rsch.hasSlot e.decl.slot && s.usable e.decl.seg

/-- The level of a unit (R55). -/
def State.levelOf (s : State) (u : UnitIx) : Nat :=
  ((s.unit u).map fun e => e.decl.level).getD 0

/-- The better of two units in the order of leader choice, `u` of the lower index: highest level first, then lowest
index (R115). -/
def State.better (s : State) (best : Option UnitIx) (u : UnitIx) : Option UnitIx :=
  match best with
  | none => some u
  | some v => if s.levelOf v < s.levelOf u then some u else some v

/-- The highest-ranked eligible unit (R115). -/
def State.leader (s : State) : Option UnitIx :=
  (allUnits.filter s.eligible).foldl s.better none

/-- Eligible units in the order of leader choice (R115): by level from 7 down, and within a level by index. -/
def State.eligibleOrder (s : State) : List UnitIx :=
  [7, 6, 5, 4, 3, 2, 1, 0].flatMap fun l => allUnits.filter fun u => s.eligible u && s.levelOf u == l

/-! ### Joining (R117, R119) -/

/-- Blocks h..L-1 in rising order. -/
def blocksFrom (h len : Nat) : List Nat :=
  (List.range len).filter fun b => decide (h ≤ b)

/-- A keeping join: the held version equals the slot's and h is above 0 (R117). -/
def UnitEntry.keeps (e : UnitEntry) (i : SlotInfo) : Bool :=
  e.heldVersion == some i.version && decide (0 < e.heldCount)

/-- A unit appended to a record with its owed set; the level is raised (R117, R119). -/
def StreamRecord.enrol (r : StreamRecord) (u : UnitIx) (e : UnitEntry) (keep : Bool) : StreamRecord :=
  { r with
    members := r.members ++ [{ unit := u, owed := blocksFrom (if keep then min e.heldCount r.len else 0) r.len }]
    level := max r.level e.decl.level }

/-- Unit `u` becomes a member of the record of its bound slot, if one exists: of the active record it goes to STREAM, of a
suspended one to SUSPENDED (R117, steps 1 to 4). -/
def State.enlist (s : State) (u : UnitIx) : State :=
  match s.unit u with
  | none => s
  | some e =>
    match (s.slot e.decl.slot).valid? with
    | none => s
    | some i =>
      let keep := e.keeps i
      let first (e : UnitEntry) : UnitEntry := { e with firstWindow := true, joined := false }
      if e.state ≠ .wait ∨ !s.usable e.decl.seg then s
      else if s.rsch.active.any fun r => r.slot == e.decl.slot then
        let add (r : StreamRecord) : StreamRecord :=
          if r.window.isNone then (r.enrol u e keep).place r.cursor else r.enrol u e keep
        { s with rsch := { s.rsch with active := s.rsch.active.map add } }.move u .stream first
      else if s.rsch.stack.any fun r => r.slot == e.decl.slot then
        let add (r : StreamRecord) : StreamRecord := if r.slot = e.decl.slot then r.enrol u e keep else r
        { s with rsch := { s.rsch with stack := s.rsch.stack.map add } }.move u .suspended first
      else s

/-- The JOIN exchange of a unit that has become a member, KEEP or DISCARD (R117, R118). -/
def State.handJoin (s : State) (u : UnitIx) : State :=
  match s.unit u with
  | none => s
  | some e =>
    if e.state = .stream ∨ e.state = .suspended then
      s.hand u (.join u ((s.slot e.decl.slot).valid?.any e.keeps))
    else s

/-- The units that `p` names, in rising order of index: the order in which the exchanges of one event for several units are
handed (R82). -/
def unitsWhere (p : UnitIx → Bool) : List UnitIx :=
  allUnits.filter p

/-- A unit's join to the record of its bound slot, if one exists, with its JOIN exchange (R117). -/
def State.join (s : State) (u : UnitIx) : State :=
  (s.enlist u).handJoin u

/-- Entry to WAIT with the held count and version as decided; the unit joins its slot's record at once if there is one
(R104, R115, R117). -/
def State.enterWait (s : State) (u : UnitIx) (held : Nat) (version : Option Version) : State :=
  (s.move u .wait fun e => { e with heldCount := held, heldVersion := version }).join u

/-! ### Formation (R116) -/

/-- Forms the active record for the leader's slot; every eligible unit bound to the slot becomes a member, the leader first,
the rest in rising order of index (R116, R128). Their JOIN exchanges are handed in rising order of index, the leader's among
them (R82; log entry 38). The cursor of a record none of whose members owes a block is 0, a DESIGN CHOICE: log entry 44. -/
def State.form (s : State) (leader : UnitIx) : State :=
  match s.unit leader with
  | none => s
  | some e =>
    match (s.slot e.decl.slot).valid? with
    | none => s
    | some i =>
      let others := allUnits.filter fun u =>
        u != leader && s.eligible u && (s.unit u).any fun f => f.decl.slot == e.decl.slot
      let r : StreamRecord :=
        { slot := e.decl.slot, level := e.decl.level, len := i.len, w := s.timing.maxWindow, cursor := 0, members := [],
          window := none }
      let s := (leader :: others).foldl State.enlist { s with rsch := { s.rsch with active := some r } }
      let s : State := { s with rsch := { s.rsch with active := s.rsch.active.map (·.place 0) } }
      (unitsWhere fun u => s.rsch.active.any (·.has u)).foldl State.handJoin s

/-! ### Window size, completion, preemption -/

/-- The window size: the smallest capability among the joined members, never above the configured maximum (R120). -/
def State.width (s : State) (r : StreamRecord) : Nat :=
  (r.members.filterMap fun m => (s.unit m.unit).bind fun e => if e.joined then some e.window else none).foldl min
    s.timing.maxWindow

/-- W of every record recomputed (R120). -/
def State.refreshWidths (s : State) : State :=
  let fix (r : StreamRecord) : StreamRecord := { r with w := s.width r }
  { s with rsch := { s.rsch with active := s.rsch.active.map fix, stack := s.rsch.stack.map fix } }

/-- Entry to VERIFY: a verify record in REQUESTING (R148). -/
def State.enterVerify (s : State) (u : UnitIx) : State :=
  s.move u .verify fun e =>
    { e with verify := some { phase := .requesting, pollDue := none, polls := 0, lastCrc := none } }

/-- The verify request of unit `u` handed to its link (R148). -/
def State.handVerify (s : State) (u : UnitIx) : State :=
  s.hand u (.verifyRequest u)

/-- Whether a member completes: joined, with an empty owed set (R124). -/
def State.completes (s : State) (m : Member) : Bool :=
  m.owed.isEmpty && (s.unit m.unit).any (·.joined)

/-- Completion check of the active record: completing members leave for VERIFY together, in member-list order (R124); their
verify requests are handed in rising order of index (R82; log entry 38). -/
def State.complete (s : State) : State :=
  match s.rsch.active with
  | none => s
  | some r =>
    let done := r.members.filter s.completes
    let s := done.foldl (fun s m => s.enterVerify m.unit)
      { s with
        rsch := { s.rsch with active := some { r with members := r.members.filter fun m => !s.completes m } } }
    (unitsWhere fun u => done.any fun m => m.unit == u).foldl State.handVerify s

/-- Pushes the active record: it goes on top of the stack and its members to SUSPENDED (R126). -/
def State.push (s : State) : State :=
  match s.rsch.active with
  | none => s
  | some r =>
    r.members.foldl (fun s m => s.move m.unit .suspended id)
      { s with rsch := { s.rsch with active := none, stack := r :: s.rsch.stack } }

/-- The preemption check against the active record's level (R128), with STACK_FULL (R129). -/
def State.preempt (s : State) : State :=
  match s.rsch.active, s.leader with
  | some r, some u =>
    if s.levelOf u ≤ r.level then s
    else if s.rsch.stack.length < 4 then s.push.form u
    else if s.rsch.marks.contains u then s
    else { s with rsch := { s.rsch with marks := s.rsch.marks ++ [u] } }.raise u .stackFull id
  | _, _ => s

/-! ### Pop, freeing and formation as they follow (R125, R127) -/

/-- Pops the top record: its members go to STREAM, and the pop work runs up to the preemption check; a record that
completion empties is left for freeing (R127). -/
def State.pop (s : State) (r : StreamRecord) (rest : List StreamRecord) : State :=
  let s := r.members.foldl (fun s m => s.move m.unit .stream id)
    { s with rsch := { s.rsch with active := some r, stack := rest } }
  let s := s.refreshWidths.complete
  match s.rsch.active with
  | none => s
  | some r =>
    if r.members.isEmpty then s
    else { s with rsch := { s.rsch with active := some (r.place r.cursor) } }.preempt

/-- Frees an active record with no members and no window in flight, pops the stack, and forms a record where none is
active and an eligible unit exists (R116, R125, R127). The first argument bounds the number of records freed. -/
def State.freeAndForm : Nat → State → State
  | 0, s => s
  | k + 1, s =>
    match s.rsch.active with
    | some r =>
      if r.members.isEmpty && r.window.isNone then
        State.freeAndForm k { s with rsch := { s.rsch with active := none } }
      else s
    | none =>
      match s.rsch.stack with
      | r :: rest => State.freeAndForm k (s.pop r rest)
      | [] => if s.gapc.state.carries then (s.leader.map s.form).getD s else s

/-- Begins the next window of the active record where R122 allows, and hands it to SENG (R122, R138). -/
def State.beginWindow (s : State) : State :=
  match s.rsch.active with
  | none => s
  | some r =>
    let joined := r.members.filterMap fun m => (s.unit m.unit).bind fun e =>
      if e.joined then some { unit := m.unit, seg := e.decl.seg, answer := PartAnswer.pending : Participant } else none
    if r.window.isNone && s.seng.isNone && !joined.isEmpty && r.members.any (fun m => !m.owed.isEmpty) then
      let n := min r.w (r.len - r.cursor)
      { s with
        rsch := { s.rsch with active := some { r with window := some (r.cursor, n) } }
        seng := some
          { slot := r.slot, level := r.level, start := r.cursor, count := n, phase := .reading, buffer := [],
            participants := joined, parts := ⟨.none, .none, .none⟩ } }
    else s

/-- What RSCH does of itself once an event's changes are made: freeing, popping and forming, W of every record, and the
next window. Twelve rounds cover the at most five records there are. -/
def State.settleStreams (s : State) : State :=
  (State.freeAndForm 12 s).refreshWidths.beginWindow

/-- A change in the unit table: RSCH's own work, then UTAB's report of demand (R74). -/
def State.settled (s : State) : State :=
  s.settleStreams.reportDemand

/-- The boundary work of the active record at the end of the window [c, c + n), with each member's count of blocks taken
(R123); the next window begins in `settleStreams`. -/
def State.boundary (s : State) (c n : Nat) (taken : List (UnitIx × Nat)) : State :=
  let cut (m : Member) : Member :=
    let k := (taken.lookup m.unit).getD 0
    { m with owed := m.owed.filter fun b => !(decide (c ≤ b) && decide (b < c + k)) }
  let after (r : StreamRecord) : StreamRecord := { r with members := r.members.map cut, window := none }
  let s := { s with rsch := { s.rsch with active := s.rsch.active.map after } }
  let s := s.complete
  match s.rsch.active with
  | none => s
  | some r =>
    if r.members.isEmpty then s
    else
      let s := { s with rsch := { s.rsch with active := some (r.place (c + n)) } }
      s.refreshWidths.preempt

/-! ### The window in flight (08) -/

/-- What one answer is read as (R142): blocks taken, whether it is a fault, and whether the capability becomes 1. -/
structure Reading where
  taken : Nat
  fault : Bool
  single : Bool
deriving DecidableEq, Repr

/-- Reads a participant's answer for the window [c, c + n) (R142): malformed as no answer, then ERR, BUSY, NOBURST,
count. An answer still PENDING is one its segment never asked for (R92). -/
def readAnswer (c n : Nat) (firstWindow : Bool) : PartAnswer → Reading
  | .answered a =>
    if a.start.toNat ≠ c ∨ n < a.count.toNat then ⟨0, true, false⟩
    else if a.err then ⟨0, true, false⟩
    else if a.busy then ⟨0, !firstWindow, false⟩
    else if a.noburst then ⟨0, !firstWindow, firstWindow⟩
    else ⟨a.count.toNat, a.count.toNat == 0, false⟩
  | _ => ⟨0, true, false⟩

/-- UTAB's part of a reading: first-window no, capability 1 after a first-window NOBURST, and the fault (R142, R143,
R145). -/
def State.takeReading (s : State) (u : UnitIx) (r : Reading) : State :=
  let s := s.modUnit u fun e =>
    { e with firstWindow := false, window := if r.single then 1 else e.window }
  if r.fault then s.fault u id else s

/-- The participants that are read: not IGNORED (R142), each with its reading. -/
def State.readings (s : State) (w : Window) : List (UnitIx × Reading) :=
  w.participants.filterMap fun p =>
    if p.answer = .ignored then none
    else (s.unit p.unit).map fun e => (p.unit, readAnswer w.start w.count e.firstWindow p.answer)

/-- Every part has ended (R145). -/
def Window.ended (w : Window) : Bool :=
  w.phase == .carrying && w.parts.a == .ended && w.parts.b == .ended && w.parts.c == .ended

/-- The window's end, when every part has ended: the answers are read, results go to UTAB and RSCH, and the boundary
work is done (R145). -/
def State.endWindow (s : State) : State :=
  match s.seng with
  | none => s
  | some w =>
    if w.ended then
      let rs := s.readings w
      let s := rs.foldl (fun s p => s.takeReading p.1 p.2) { s with seng := none }
      s.boundary w.start w.count (rs.map fun p => (p.1, p.2.taken))
    else s

/-- A participant's answer is recorded, unless it is IGNORED (R141). -/
def Window.record (w : Window) (u : UnitIx) (a : PartAnswer) : Window :=
  { w with participants := w.participants.map fun p =>
      if p.unit = u ∧ p.answer = .pending then { p with answer := a } else p }

/-- A segment's part is reported ended (R141, R145). -/
def State.endPart (s : State) (x : Seg) : State :=
  let ended (w : Window) : Window := { w with parts := perSet w.parts x .ended }
  State.endWindow { s with seng := s.seng.map ended }

/-- The participants of segment `x` that are not IGNORED, in member-list order (R139). -/
def Window.liveOn (w : Window) (x : Seg) : List UnitIx :=
  (w.participants.filter fun p => p.seg == x && p.answer != .ignored).map (·.unit)

/-- Hands the window part of segment `x`, if the segment has a participant (R138, R139). -/
def State.handPart (s : State) (w : Window) (x : Seg) : State :=
  if (w.liveOn x).isEmpty then s
  else s.onLink x fun l => l.handPart
    { slot := w.slot, level := w.level, start := w.start, blocks := w.buffer, members := w.liveOn x }

/-- The last block read: SENG moves to CARRYING and hands a part to each segment with a participant; with none the
window ends at once (R138). -/
def State.carryWindow (s : State) (w : Window) : State :=
  let w : Window :=
    { w with phase := .carrying, parts := perOf fun x => if (w.liveOn x).isEmpty then .ended else .carrying }
  let s := { s with seng := some w }
  (allSegs.foldl (fun s x => s.handPart w x) s).endWindow

/-- One block of the window read into the buffer (R138). -/
def State.bufferBlock (s : State) (w : Window) (bytes : List Byte) : State :=
  let w := { w with buffer := w.buffer ++ [bytes] }
  if w.buffer.length < w.count then { s with seng := some w } else (s.carryWindow w).settled

/-! ### JOIN outcome (R118) -/

/-- The outcome of a JOIN: an ACK makes the member joined, and completion is checked in the active record with no window
in flight; no answer is a fault, repeated with the same content (R118, R124). -/
def State.joinOutcome (s : State) (u : UnitIx) (keep : Bool) (acked : Bool) : State :=
  match s.unit u with
  | none => s
  | some e =>
    if e.state ≠ .stream ∧ e.state ≠ .suspended then s
    else if acked then
      let s := s.modUnit u fun e => { e with joined := true }
      if s.rsch.active.any fun r => r.has u && r.window.isNone then s.complete else s
    else s.fault u fun s => s.hand u (.join u keep)

end Sys2Proof.Machine
end

