-- ==== Sys2Proof/Machine/Finish.lean ====
section
/-! DEFINITION. What the part does of itself at the end of every command: the array port, the arbiters, the permit
outputs, the ALERT line and the transmitter. -/

namespace Sys2Proof.Machine

/-! ### The array port (R50) -/

/-- The stream engine waits for an access: a window in READING with a block still to be read (R138). -/
def State.streamWaits (s : State) : Bool :=
  s.seng.any fun w => w.phase == .reading && decide (w.buffer.length < w.count)

/-- The work still makes accesses; none of one that only waits for its reply's place (R194). -/
def LongWork.working : LongWork → Bool
  | .finished _ => false
  | _ => true

/-- The long request in progress waits for an access. -/
def State.longWaits (s : State) : Bool :=
  s.clnk.long.any fun l => l.work.working

/-- Who is granted a free port: after an access of one requester the other goes first (R50). -/
def nextRequester (stream long : Bool) (last : Option Requester) : Option Requester :=
  if stream && (!long || last != some .stream) then some .stream
  else if long then some .longRequest
  else none

/-- Grants the port, if it is free. -/
def State.grantPort (s : State) (last : Option Requester) : State :=
  { s with ims := { s.ims with port :=
      if s.ims.port.isSome then s.ims.port else nextRequester s.streamWaits s.longWaits last } }

/-! ### Permit outputs (R170, R171) -/

/-- A unit withholds its segment's permit: a DOOR or RAMP neither ISOLATED nor LIVE without restraint (R170). -/
def UnitEntry.withholds (e : UnitEntry) : Bool :=
  e.decl.cls.isDoorOrRamp && !(e.state == .isolated || (e.state == .live && !e.restrained))

/-- Some unit of segment `x` withholds its permit. -/
def State.permitWithheld (s : State) (x : Seg) : Bool :=
  allUnits.any fun u => (s.unit u).any fun e => e.decl.seg == x && e.withholds

/-- What segment `x`'s permit output is to be (R170). -/
def State.permitFor (s : State) (x : Seg) : Bool :=
  s.running && s.gapc.state.carries && perGet s.perm.enable x && !s.permitWithheld x

/-- PERM recomputes the outputs; a change sets PERMIT_CHANGE (R171). -/
def State.recomputePermits (s : State) : State :=
  { s with
    perm := { s.perm with output := perOf s.permitFor }
    cflu := if perOf s.permitFor = s.perm.output then s.cflu else s.cflu.setDevice .permitChange }

/-! ### The transmitter (R184, R194) -/

/-- With the transmitter idle and the link running, the first owed reply is sent, or else a notice of the unreported
set, which is emptied as its first byte goes (R184, R194; log entry 19). -/
def State.startTransmit (s : State) : State :=
  if !s.linkOn || s.clnk.tx.isSome then s
  else if !s.clnk.owed.isEmpty then { s with clnk := { s.clnk with tx := some .reply } }
  else if s.cflu.allReported then s
  else { s with clnk := { s.clnk with tx := some s.cflu.notice }, cflu := s.cflu.emptied }

/-! ### The end of a command -/

/-- The end of a command after whose last array access the port went free from `last`. -/
def State.finishAfter (s : State) (last : Option Requester) : State :=
  (s.grantPort last).arbitrate.recomputePermits.recomputeAlert.startTransmit

/-- The end of a command: waiting work starts, outputs follow (R50, R83, R171, R185, R194). -/
def State.finish (s : State) : State :=
  s.finishAfter none

end Sys2Proof.Machine
end

