-- ==== Sys2Proof/Machine/Operands.lean ====
section
/-! DEFINITION. The operands of requests: fields read from payload bytes, coded values, payload lengths, and the first
field out of range (R192, R193, R204). -/

namespace Sys2Proof.Machine

/-! ### Fields (R192: unsigned, high byte first) -/

/-- The one-byte field at offset `i`. -/
def u8 (p : List Byte) (i : Nat) : Nat :=
  (p[i]?.getD 0).toNat

/-- The two-byte field at offset `i`. -/
def u16 (p : List Byte) (i : Nat) : Nat :=
  u8 p i * 256 + u8 p (i + 1)

/-- The three-byte field at offset `i`. -/
def u24 (p : List Byte) (i : Nat) : Nat :=
  u8 p i * 65536 + u16 p (i + 1)

/-- The four-byte field at offset `i`. -/
def u32 (p : List Byte) (i : Nat) : Nat :=
  u16 p i * 65536 + u16 p (i + 2)

/-- The signed two-byte field at offset `i`. -/
def s16 (p : List Byte) (i : Nat) : Int :=
  (BitVec.ofNat 16 (u16 p i)).toInt

/-- A field of flag bits, the first byte holding the lowest bits (R186). -/
def flagBits (p : List Byte) (i n : Nat) : Nat :=
  (List.range n).foldr (fun j acc => u8 p (i + j) * 256 ^ j + acc) 0

/-! ### Coded values (R192, R204) -/

/-- An on/off byte. -/
def onOff? : Nat → Option Bool
  | 0 => some false
  | 1 => some true
  | _ => none

/-- A segment byte. -/
def seg? : Nat → Option Seg
  | 0 => some .a
  | 1 => some .b
  | 2 => some .c
  | _ => none

/-- A class byte. -/
def class? : Nat → Option UnitClass
  | 0 => some .door
  | 1 => some .ramp
  | 2 => some .dest
  | 3 => some .saloon
  | 4 => some .announce
  | _ => none

/-- The nine leaf states in the order of R156. -/
def leafStates : List Leaf :=
  [.closedLocked, .closed, .opening, .opened, .closing, .stopped, .obstructed, .outOfService, .indefinite]

/-- A leaf state byte. -/
def leaf? (n : Nat) : Option Leaf :=
  leafStates[n]?

/-- The three actions of RESOLVE (R178). -/
inductive ResolveAction where
  | proceed | retry | fail
deriving DecidableEq, Repr

/-- An action byte. -/
def action? : Nat → Option ResolveAction
  | 0 => some .proceed
  | 1 => some .retry
  | 2 => some .fail
  | _ => none

/-- A unit index, if it is in 0..23. -/
def unitIx? (n : Nat) : Option UnitIx :=
  if h : n < 24 then some ⟨n, h⟩ else none

/-- A slot number, if it is in 0..7. -/
def slotIx? (n : Nat) : Option SlotIx :=
  if h : n < 8 then some ⟨n, h⟩ else none

/-- The value 0xFF: NEXT, DEFAULT or ALL by its field (R204). -/
def wordByte : Nat :=
  0xFF

/-! ### Field checks -/

/-- The number of the first field whose check fails (R193). -/
def firstBad (l : List (Nat × Bool)) : Option Nat :=
  (l.find? fun p => !p.2).map (·.1)

/-- A value clamped into a range (R195, R15). -/
def clamp (lo hi v : Nat) : Nat :=
  max lo (min hi v)

/-- Numbers of a list at offset `i`, two bytes each (R204). -/
def numbers (p : List Byte) (i n : Nat) : List (BitVec 16) :=
  (List.range n).map fun j => BitVec.ofNat 16 (u16 p (i + 2 * j))

/-- The checks of a list's numbers, the first being field `field`: a number that repeats an earlier one fails (R169;
log entry 13). -/
def repeatChecks (field : Nat) (l : List (BitVec 16)) : List (Nat × Bool) :=
  (List.range l.length).map fun j => (field + j, !((l.take j).contains (l.getD j 0)))

/-! ### Payload lengths (R192, R204) -/

/-- The length a fixed-length kind calls for, where the payload has another. -/
def fixedNeed (n : Nat) (p : List Byte) : Option (BitVec 16) :=
  if p.length = n then none else some (BitVec.ofNat 16 n)

/-- IMAGE_DATA: four bytes and exactly 1,024 data bytes; no length serves another count (R45, R192). -/
def imageDataNeed (p : List Byte) : Option (BitVec 16) :=
  if p.length < 4 then some 1028
  else if u16 p 2 ≠ 1024 then some 0
  else fixedNeed 1028 p

/-- CLEAR_FLAGS: counts of 0..17 and 0..24 (R182, R204; log entry 10 where a count field is missing). -/
def clearFlagsNeed (p : List Byte) : Option (BitVec 16) :=
  if p.length < 1 then some (Config.calledLength 0x26 p)
  else if 17 < u8 p 0 then some 0
  else if p.length < 2 + u8 p 0 then some (Config.calledLength 0x26 p)
  else if 24 < u8 p (1 + u8 p 0) then some 0
  else fixedNeed (2 + u8 p 0 + 3 * u8 p (1 + u8 p 0)) p

/-- CONTEXT_WRITE's list: a count of 0..4 at offset `at`, numbers after it (R204; log entry 10). -/
def listNeed (offset : Nat) (p : List Byte) : Option (BitVec 16) :=
  if p.length < offset + 1 then some (Config.calledLength 0x25 p)
  else if 4 < u8 p offset then some 0
  else fixedNeed (offset + 1 + 2 * u8 p offset) p

/-- CONTEXT_WRITE: by the class of the unit defined at the index; passed for an index outside 0..23 or an EMPTY entry
(R204). -/
def State.contextWriteNeed (s : State) (p : List Byte) : Option (BitVec 16) :=
  if p.length < 1 then some (Config.calledLength 0x25 p)
  else match (unitIx? (u8 p 0)).bind s.unit with
    | none => none
    | some e =>
      match e.decl.cls with
      | .door | .ramp => fixedNeed 14 p
      | .dest | .saloon => listNeed 6 p
      | .announce => listNeed 2 p

end Sys2Proof.Machine
end

