-- ==== Sys2Proof/Machine/Request.lean ====
section
/-! DEFINITION. How a complete control link frame is taken: the checks of R191, replies owed, and the frames that are not
requests. -/

namespace Sys2Proof.Machine

/-! ### Replies -/

/-- The value of a reply's status byte (R193). -/
def Status.code : Status → Byte
  | .ok _ => 0x00
  | .busy .. => 0x01
  | .unknownKind => 0x02
  | .badLength _ => 0x03
  | .outOfRange _ => 0x04
  | .state .. => 0x05
  | .inUse => 0x06
  | .notDefined _ => 0x07
  | .full _ => 0x08
  | .mismatch _ => 0x09

/-- The kind of a reply's frame: the request's kind plus 0x80 (R206). -/
def Reply.frameKind (r : Reply) : Byte :=
  r.kind + 0x80

/-- A reply becomes owed (R191, R194). -/
def State.owe (s : State) (r : Reply) : State :=
  { s with clnk := { s.clnk with owed := s.clnk.owed ++ [r] } }

/-- The receive buffer emptied at a byte pause (R190). A frame's last byte empties it in `State.hearByte`, so that a command
for a whole or a bad frame leaves it as it stands, with what the next frame has brought (log entry 3). -/
def State.clearRx (s : State) : State :=
  { s with clnk := { s.clnk with rx := [] } }

/-- Checks 1 and 2 of R191: the frame is discarded without reply. -/
def State.discards (s : State) : Bool :=
  s.clnk.resetAccepted || decide (4 ≤ s.clnk.owed.length)

/-- What a request's own work answers: the state after it, and its reply, or none for an accepted long request (R194). -/
abbrev Answer := State × Option Status

/-- A refusal changes no state (R193). -/
def refuse (s : State) (st : Status) : Answer :=
  (s, some st)

/-- An OK reply with its result (R193). -/
def okay (s : State) (r : Result) : Answer :=
  (s, some (.ok r))

/-- The reply of an answer made owed; none for an accepted long request. -/
def oweAnswer (kind tag : Byte) (a : Answer) : State :=
  match a.2 with
  | some st => a.1.owe ⟨kind, tag, st⟩
  | none => a.1

/-- Checks 5 and 6 of R191, then the request's own work. -/
def State.judge (s : State) (query : Bool) (need : Option (BitVec 16)) (act : State → Answer) : Answer :=
  match need, (if query then none else s.clnk.long) with
  | some n, _ => refuse s (.badLength n)
  | none, some l => refuse s (.busy l.kind l.tag)
  | none, none => act s

/-- A complete frame taken as a request (R191). With the link off its bytes are lost (R29); a payload above 1,060 bytes
ends the frame as bad (R190). -/
def State.request (s : State) (kind tag : Byte) (query : Bool) (p : List Byte) (need : Option (BitVec 16))
    (act : State → Answer) : State :=
  if !s.linkOn || decide (1060 < p.length) || s.discards then s
  else (oweAnswer kind tag (s.judge query need act)).finish

/-- The refusal STATE for a request that names unit `u` (R193). -/
def State.stateRefusal (s : State) (u : Option UnitIx) : Status :=
  .state s.gapc.state (u.bind fun u => (s.unit u).map (·.state))

/-- The index checks shared by the requests on one unit: OUT_OF_RANGE with field 1, NOT_DEFINED (R58, R66 to R69). -/
def State.onUnit (s : State) (p : List Byte) (act : UnitIx → UnitEntry → Answer) : Answer :=
  match unitIx? (u8 p 0) with
  | none => refuse s (.outOfRange 1)
  | some u =>
    match s.unit u with
    | none => refuse s (.notDefined u)
    | some e => act u e

/-! ### Frames that are no requests -/

/-- CONTROL_BYTE_PAUSE (R190): a pause ends the frame as bad. -/
def execControlBytePause (s : State) : Host.Outcome State Fault Refusal :=
  .next (if s.linkOn then s.clearRx else s)

/-- CONTROL_FRAME_BAD (R190): a bad or discarded frame has no reply and changes no state; its bytes left the receive buffer
as its last one arrived (`State.hearByte`). -/
def execControlFrameBad (s : State) : Host.Outcome State Fault Refusal :=
  .next s

/-- UNKNOWN_KIND (R191, check 4): a kind below 0x80 that names no request. -/
def execUnknownKind (kind tag : Byte) (s : State) : Host.Outcome State Fault Refusal :=
  .next
    (if !s.linkOn || decide (0x80 ≤ kind.toNat) || requestKinds.contains kind || s.discards then s
    else (s.owe ⟨kind, tag, .unknownKind⟩).finish)

/-- REPLY_KIND_FRAME_DISCARDED (R191, check 3): line noise, not answered. -/
def execReplyKindFrameDiscarded (_kind _tag : Byte) (s : State) : Host.Outcome State Fault Refusal :=
  .next s

end Sys2Proof.Machine
end

