-- ==== Sys2Proof/Machine/Reset.lean ====
section
/-! DEFINITION. Resets: what a cut-off operation leaves, the reading of the configuration record, cold start and warm
reset, and the commands of power and the RESET line (R36, R37, R52, R76, R174, R189, R200). -/

namespace Sys2Proof.Machine

/-! ### Operations cut off (R52, R194, R199) -/

/-- The array block whose write is in progress for the long request (R52). -/
def State.cutBlock? (s : State) : Option Nat :=
  if s.ims.port ≠ some .longRequest then none
  else s.clnk.long.bind fun l => match l.work with
    | .imageData k t _ => (s.slot k).info?.map fun i => i.first + t
    | .imageClose k (b :: _) _ _ _ => (s.slot k).info?.map fun i => i.first + b
    | _ => none

/-- The bytes of a block whose write was cut off are unpredictable (R52; log entry 8). -/
def State.spoilBlock (s : State) (b : Nat) : State :=
  if b < Config.blockCount then
    let bytes := s.freeBlock
    { bytes.2 with ims := { s.ims with mem := Memory.writeBlock s.ims.mem b bytes.1 } }
  else s

/-- The contents of the save whose erase of the record is in progress (R199). -/
def State.erasing? (s : State) : Option ConfigData :=
  if s.ims.port ≠ some .longRequest then none
  else s.clnk.long.bind fun l => match l.work with
    | .saveErase c => some c
    | _ => none

/-- The work of the long request stops; once a save's erase has begun, the old record is gone (R194, R51, R199). -/
def State.cutLong (s : State) : State :=
  let t := (s.cutBlock?.map s.spoilBlock).getD s
  { t with
    cfgr := (s.erasing?.map brokenRecord) <|> s.cfgr
    ims := { t.ims with port := none }
    clnk := { s.clnk with long := none } }

/-- A slot found LOADING becomes DAMAGED, INTERRUPTED (R39, R52). -/
def Slot.afterReset : Slot → Slot
  | .loading i _ _ => .damaged i .interrupted
  | v => v

/-! ### The configuration record (R200) -/

/-- An offset in -128..+127 (R15). -/
def offsetOk (v : Int) : Bool :=
  decide (-128 ≤ v ∧ v ≤ 127)

/-- SET_MONITOR's refusing checks in field order (R15, R204; log entry 13). -/
def monitorChecks (m : MonitorSettings) : List (Nat × Bool) :=
  [(1, m.n == 1 || m.n == 2 || m.n == 4 || m.n == 8), (3, offsetOk m.offLine), (4, offsetOk m.offHold),
   (5, offsetOk m.offSense.a), (6, offsetOk m.offSense.b), (7, offsetOk m.offSense.c),
   (8, decide (5000 ≤ m.gapEnter ∧ m.gapEnter ≤ 30000)),
   (9, decide (m.gapEnter + 500 ≤ m.gapExit ∧ m.gapExit ≤ 38000)),
   (10, decide (3000 ≤ m.holdDeep ∧ m.holdDeep ≤ 18000)),
   (11, decide (2500 ≤ m.holdRetain ∧ m.holdRetain + 500 ≤ m.holdDeep))]

/-- The monitor settings lie within what SET_MONITOR accepts, D inside its clamped range (R15, R200). -/
def monitorInRange (m : MonitorSettings) : Bool :=
  (monitorChecks m).all (·.2) && decide (1 ≤ m.d ∧ m.d ≤ 16)

/-- The timing settings lie within their ranges (R195, R200). -/
def timingInRange (t : TimingSettings) : Bool :=
  decide (10 ≤ t.settle ∧ t.settle ≤ 2000) && decide (2 ≤ t.answer ∧ t.answer ≤ 50) &&
    decide (50 ≤ t.verify ∧ t.verify ≤ 1000) && decide (t.retryLimit ≤ 7) &&
    decide (20 ≤ t.pollPeriod ∧ t.pollPeriod ≤ 1000) && decide (100 ≤ t.ageDoor ∧ t.ageDoor ≤ 10000) &&
    decide (100 ≤ t.ageRamp ∧ t.ageRamp ≤ 10000) && decide (1 ≤ t.maxWindow ∧ t.maxWindow ≤ 8)

/-- Field checks 3 and 6 of DEFINE_UNIT; the others hold by the types (R56, R200). -/
def definitionInRange (d : UnitDef) : Bool :=
  decide (1 ≤ d.addr ∧ d.addr ≤ 30) && decide (d.level ≤ 7)

/-- The definitions on segment `x`. -/
def definitionsOn (c : ConfigData) (x : Seg) : List UnitDef :=
  c.defs.toList.filterMap fun d => d.bind fun d => if d.seg = x then some d else none

/-- A record's settings and definitions lie within what the requests accept (R200). -/
def contentsValid (c : ConfigData) : Bool :=
  monitorInRange c.monitor && timingInRange c.timing &&
    c.defs.toList.all (fun d => d.all definitionInRange) &&
    allSegs.all fun x =>
      decide ((definitionsOn c x).length ≤ 12) && decide (((definitionsOn c x).map (·.addr)).Nodup)

/-- The record is judged valid: its marker and format number are those of R198, its CRC-32 agrees, and its contents are
within range (R200). -/
def recordValid (r : ConfigRecord) : Bool :=
  r.marker == Config.recordMarker && r.format == Config.recordFormat && r.crc == recordCrc r && contentsValid r.data

/-- The settings and definitions a reset takes: the record's, or the defaults (R200). -/
def State.resetConfig (s : State) : ConfigData :=
  match s.cfgr with
  | some r => if recordValid r then r.data else .default
  | none => .default

/-- The record is valid (R200). -/
def State.resetValid (s : State) : Bool :=
  s.cfgr.any recordValid

/-- An entry as a definition leaves it: DARK, nothing learned, flags clear (R54, R57). -/
def UnitEntry.fresh (d : UnitDef) (maxWindow : Nat) : UnitEntry where
  decl := d
  state := .dark
  retry := 0
  heldCount := 0
  heldVersion := none
  window := maxWindow
  running := none
  restrained := false
  pending := none
  flags := 0
  misses := 0
  firstWindow := false
  joined := false
  probe := none
  lastBoot := none
  linkTestAttempt := none
  verify := none
  form := none
  pollDue := none

/-- A definition agrees with its bound slot: the slot is EMPTY or of the unit's class (R42, R76). -/
def State.agrees (s : State) (d : UnitDef) : Bool :=
  (s.slot d.slot).info?.all fun i => i.cls == d.cls

/-- The unit table a reset loads (R76). -/
def State.loadUnits (s : State) (c : ConfigData) : Vector (Option UnitEntry) 24 :=
  Vector.ofFn fun u : UnitIx => (c.defs[u.val].filter s.agrees).map fun d => .fresh d c.timing.maxWindow

/-! ### The two resets -/

/-- The device flags with exactly `l` set. -/
def flagWord (l : List DeviceFlag) : BitVec 17 :=
  l.foldl (fun w f => w ||| BitVec.twoPow 17 f.bit) 0

/-- CFLU after a reset (R189): the masks loaded, the flags cleared, and the reset's own flags set and unreported. -/
def FlagUnit.afterReset (c : ConfigData) (valid : Bool) (l : List DeviceFlag) : FlagUnit :=
  let w := flagWord (if valid then l else l ++ [.configDefaulted])
  { respOpen := c.respOpen, alertMask := c.alertMask, device := w, unrepDevice := w,
    unrepUnits := Vector.replicate 24 0, alert := false }

/-- CLNK after a reset (R201). -/
def ControlLink.afterReset (valid : Bool) : ControlLink :=
  { rx := [], owed := [], tx := none, long := none, resetAccepted := false, cfgValid := valid, saved := false }

/-- Every block in its state after a reset, but for the gap count, the contexts and the flags, which the kind of reset
gives (R18, R36, R37, R52, R76, R95, R136, R154, R174, R189, R201). -/
def State.rebuild (s : State) (count : Nat) (ctxs : Vector ContextRecord 24) (flags : List DeviceFlag) : State :=
  let c := s.resetConfig
  { s with
    tick := 0
    gapc := .initial count
    smon := .initial c.monitor c.senseOn
    ims := { s.ims with slots := Vector.ofFn fun k : SlotIx => (s.slot k).afterReset, port := none }
    units := s.loadUnits c
    rsch := { active := none, stack := [], marks := [] }
    seng := none
    links := ⟨.initial c.yieldOn.a, .initial c.yieldOn.b, .initial c.yieldOn.c⟩
    ctxs := ctxs
    perm := { enable := c.permitOn, output := ⟨false, false, false⟩ }
    cflu := .afterReset c s.resetValid flags
    clnk := .afterReset s.resetValid
    timing := c.timing }

/-- A cold start: by power, or leaving LOST, which sets CONTEXT_LOST as well (R36, R174, R189). -/
def State.coldStart (s : State) (leavesLost : Bool) : State :=
  (s.cutLong.rebuild 0 (Vector.replicate 24 .blank)
    (if leavesLost then [.coldStart, .contextLost] else [.coldStart])).finish

/-- A context record across a warm reset (R174): given the entries before and after. -/
def ContextRecord.acrossReset (r : ContextRecord) (before after : Option UnitEntry) : ContextRecord :=
  if after.any fun e => before.any fun b => b.decl.cls == e.decl.cls then
    if r.validity = .empty then r else { r with validity := .frozen, ageUnknown := true }
  else .blank

/-- A warm reset (R37, R174, R189): the gap count and the contexts of unchanged units are kept. -/
def State.warmReset (s : State) : State :=
  let t := s.cutLong
  let units := t.loadUnits t.resetConfig
  (t.rebuild t.gapc.count
    (Vector.ofFn fun u : UnitIx => (t.ctx u).acrossReset t.units[u.val] units[u.val]) [.warmReset]).finish

/-! ### Power and the RESET line -/

/-- The part's own outputs fall: permits, ALERT, transmitter and segment lines (R37, R95, R170, R185, R201). -/
def State.silence (s : State) : State :=
  { s with
    perm := { s.perm with output := ⟨false, false, false⟩ }
    cflu := { s.cflu with alert := false }
    clnk := { s.clnk with tx := none, rx := [] }
    links := ⟨s.links.a.halt, s.links.b.halt, s.links.c.halt⟩ }

/-- POWER_APPLIED (R36; log entry 22). -/
def execPowerApplied (s : State) : Host.Outcome State Fault Refusal :=
  .next (({ s with powered := true } : State).coldStart false)

/-- RESET_LINE_ASSERTED (R37): no block runs while the line is low. -/
def execResetLineAsserted (s : State) : Host.Outcome State Fault Refusal :=
  .next ({ s with resetLow := true } : State).silence

/-- RESET_LINE_RELEASED (R37, R32): a warm reset, or in LOST a cold start with CONTEXT_LOST. -/
def execResetLineReleased (s : State) : Host.Outcome State Fault Refusal :=
  let t : State := { s with resetLow := false }
  .next
    (if s.resetLow && s.powered then if s.gapc.state = .lost then t.coldStart true else t.warmReset else t)

/-- POWER_LOSS (R32, R170, R199): the outputs fall, the work in progress stops, and a LOST is forgotten. -/
def execPowerLoss (s : State) : Host.Outcome State Fault Refusal :=
  let t : State := { s.cutLong with powered := false }
  .next
    ({ t with gapc := { t.gapc with state := if t.gapc.state = .lost then .gap else t.gapc.state } } : State).silence

end Sys2Proof.Machine
end

