-- ==== Sys2Proof/Machine/HostWrites.lean ====
section
/-! DEFINITION. CONTEXT_WRITE, CLEAR_FLAGS, RESET, and the transmitter's TRANSMIT_DONE (R169, R182, R194, R197). -/

namespace Sys2Proof.Machine

/-! ### CONTEXT_WRITE (R169, R204) -/

/-- The position a door content carries: none for INDEFINITE (R204). -/
def doorPosition (p : List Byte) : Option Nat :=
  if u8 p 2 = 1 then some (u16 p 3) else none

/-- The obstruction part a door content carries (R204). -/
def doorObstruction (p : List Byte) : Option Obstruction :=
  if u8 p 10 = 1 then some ⟨u16 p 11, u8 p 13⟩ else none

/-- A door content read from the payload (R204). -/
def doorContentOf (p : List Byte) : DoorContent where
  leaf := (leaf? (u8 p 1)).getD .indefinite
  position := doorPosition p
  stroke := u16 p 5
  cycles := u24 p 7
  obstruction := doorObstruction p

/-- The field checks of a door content, in order (R156, R169, R204). -/
def doorChecks (p : List Byte) : List (Nat × Bool) :=
  [(2, (leaf? (u8 p 1)).isSome), (3, (onOff? (u8 p 2)).isSome),
   (4, (doorPosition p).all fun n => decide (n ≤ u16 p 5)), (5, decide (1 ≤ u16 p 5)),
   (7, (onOff? (u8 p 10)).isSome), (8, (doorObstruction p).all fun o => decide (o.position ≤ u16 p 5)),
   (9, (doorObstruction p).all fun o => decide (o.reversals ≤ 15))]

/-- A display content read from the payload (R204). -/
def displayContentOf (p : List Byte) : DisplayContent where
  page := u8 p 1
  route := u16 p 2
  nextStop := u8 p 4
  brightness := u8 p 5
  messages := numbers p 7 (u8 p 6)

/-- The field checks of a display content, in order (R157, R169). -/
def displayChecks (p : List Byte) : List (Nat × Bool) :=
  [(3, decide (u16 p 2 ≤ 9999)), (4, decide (u8 p 4 ≤ 127)), (5, decide (u8 p 5 ≤ 15))]
    ++ repeatChecks 7 (numbers p 7 (u8 p 6))

/-- An announcement content read from the payload (R204). -/
def announceContentOf (p : List Byte) : AnnounceContent where
  volume := u8 p 1
  queue := numbers p 3 (u8 p 2)

/-- The field checks of an announcement content, in order (R157, R169). -/
def announceChecks (p : List Byte) : List (Nat × Bool) :=
  (2, decide (u8 p 1 ≤ 31)) :: repeatChecks 4 (numbers p 3 (u8 p 2))

/-- The content a payload carries for a class (R169). -/
def contentOf (c : UnitClass) (p : List Byte) : Content :=
  match c with
  | .door | .ramp => .door (doorContentOf p)
  | .dest | .saloon => .display (displayContentOf p)
  | .announce => .announce (announceContentOf p)

/-- The field checks of a class's content (R169). -/
def contentChecks (c : UnitClass) (p : List Byte) : List (Nat × Bool) :=
  match c with
  | .door | .ramp => doorChecks p
  | .dest | .saloon => displayChecks p
  | .announce => announceChecks p

/-- A record as the host writes it: FROZEN, fresh, its flags clear (R169). -/
def ContextRecord.hostWritten (now : Tick) (c : Content) : ContextRecord where
  validity := .frozen
  capturedAt := some now
  ageUnknown := false
  rangeFlag := false
  content := some c

/-- CONTEXT_WRITE's own work (R169). -/
def State.contextWriteWork (s : State) (p : List Byte) : Answer :=
  s.onUnit p fun u e =>
    if (s.ctx u).validity ≠ .empty ∧ (s.ctx u).validity ≠ .frozen then refuse s (s.stateRefusal (some u))
    else if e.state = .context then refuse s .inUse
    else match firstBad (contentChecks e.decl.cls p) with
      | some n => refuse s (.outOfRange n)
      | none => okay (s.putCtx u (.hostWritten s.tick (contentOf e.decl.cls p))) .nothing

/-- CONTEXT_WRITE (R169). -/
def execContextWrite (tag : Byte) (p : List Byte) (s : State) : Host.Outcome State Fault Refusal :=
  .next (s.request 0x25 tag false p (s.contextWriteNeed p) fun s => s.contextWriteWork p)

/-! ### CLEAR_FLAGS (R182, R204) -/

/-- The device flag numbers a payload names. -/
def deviceNumbers (p : List Byte) : List Nat :=
  (List.range (u8 p 0)).map fun j => u8 p (1 + j)

/-- The units a payload names, each with the word of flags to clear, high byte first (R192, R204). -/
def unitWords (p : List Byte) : List (Nat × Nat) :=
  let base := 2 + u8 p 0
  (List.range (u8 p (base - 1))).map fun j => (u8 p (base + 3 * j), u16 p (base + 3 * j + 1))

/-- The word of per-unit flags: ALL, or a word with no bit beyond the thirteenth (R204). -/
def unitMask? (w : Nat) : Option (BitVec 13) :=
  if w = 0xFFFF then some (BitVec.allOnes 13) else if w < 2 ^ 13 then some (BitVec.ofNat 13 w) else none

/-- The range checks of CLEAR_FLAGS in field order (R182, R204). -/
def clearChecks (p : List Byte) : List (Nat × Bool) :=
  ((deviceNumbers p).zipIdx 2).map (fun (n : Nat × Nat) => (n.2, decide (n.1 ≤ 16)))
    ++ ((unitWords p).zipIdx).flatMap fun (w : (Nat × Nat) × Nat) =>
      [(u8 p 0 + 3 + 2 * w.2, (unitIx? w.1.1).isSome), (u8 p 0 + 4 + 2 * w.2, (unitMask? w.1.2).isSome)]

/-- The first named unit that is EMPTY (R182). -/
def State.firstUndefined (s : State) (l : List UnitIx) : Option UnitIx :=
  l.find? fun u => (s.unit u).isNone

/-- The units named, as indices with masks. -/
def unitMasks (p : List Byte) : List (UnitIx × BitVec 13) :=
  (unitWords p).filterMap fun w => (unitIx? w.1).bind fun u => (unitMask? w.2).map fun m => (u, m)

/-- The device flags named, as a mask. -/
def deviceMask (p : List Byte) : BitVec 17 :=
  (deviceNumbers p).foldl (fun m n => m ||| BitVec.twoPow 17 n) 0

/-- Every named flag made clear (R182). -/
def State.clearNamed (s : State) (d : BitVec 17) (l : List (UnitIx × BitVec 13)) : State :=
  l.foldl (fun s q => s.clearUnitFlags q.1 q.2) { s with cflu := s.cflu.clearDevice d }

/-- CLEAR_FLAGS' own work (R182; log entry 14). -/
def State.clearFlagsWork (s : State) (p : List Byte) : Answer :=
  match firstBad (clearChecks p), s.firstUndefined ((unitMasks p).map (·.1)) with
  | some n, _ => refuse s (.outOfRange n)
  | none, some u => refuse s (.notDefined u)
  | none, none =>
    let t := s.clearNamed (deviceMask p) (unitMasks p)
    okay t (.deviceFlags t.cflu.device)

/-- CLEAR_FLAGS (R182). -/
def execClearFlags (tag : Byte) (p : List Byte) (s : State) : Host.Outcome State Fault Refusal :=
  .next (s.request 0x26 tag false p (clearFlagsNeed p) fun s => s.clearFlagsWork p)

/-! ### RESET and TRANSMIT_DONE (R194, R197) -/

/-- RESET (R197): the reset flag set, the reply owed; the warm reset follows the reply's last byte. -/
def execReset (tag : Byte) (p : List Byte) (s : State) : Host.Outcome State Fault Refusal :=
  .next (s.request 0x27 tag false p (fixedNeed 0 p) fun s =>
    okay { s with clnk := { s.clnk with resetAccepted := true } } .nothing)

/-- A place in the owed-reply list has come free: a finished long request's waiting reply takes it (R194). -/
def ControlLink.takePlace (c : ControlLink) : ControlLink :=
  match c.long with
  | some l =>
    match l.work with
    | .finished st =>
      if c.owed.length < 4 then { c with owed := c.owed ++ [⟨l.kind, l.tag, st⟩], long := none } else c
    | _ => c
  | none => c

/-- The frame on LTX has been sent: a reply leaves the list; after the RESET reply the warm reset is performed (R37, R194,
R197). -/
def State.transmitDone (s : State) : State :=
  let idle : ControlLink := { s.clnk with tx := none }
  match s.clnk.tx with
  | some .reply =>
    let t : State := { s with clnk := ({ idle with owed := s.clnk.owed.drop 1 } : ControlLink).takePlace }
    if s.clnk.resetAccepted && (s.clnk.owed.length == 1) then t.warmReset else t.finish
  | _ => ({ s with clnk := idle } : State).finish

/-- TRANSMIT_DONE (R194): taken while a frame is being sent. -/
def execTransmitDone (s : State) : Host.Outcome State Fault Refusal :=
  .next (if s.linkOn && s.clnk.tx.isSome then s.transmitDone else s)

end Sys2Proof.Machine
end

