-- ==== Sys2Proof/Machine/Gap.lean ====
section
/-! DEFINITION. The gap controller's transitions and the segment-down and segment-usable hand-offs, with the commands
TICK and SETTLE_EXPIRY (02, R13, R60 to R63). -/

namespace Sys2Proof.Machine

/-! ### Gap start and the settle (R22, R24, R25, R60, R91, R132, R160) -/

/-- A unit at gap start: every state but DARK and ISOLATED goes to DARK (R60). -/
def UnitEntry.atGapStart (e : UnitEntry) : UnitEntry :=
  match e.state with
  | .dark | .isolated => e
  | _ => e.goto .dark

/-- A line-lost in SUPPLIED or RESTORE (R22). -/
def State.gapStart (s : State) : State :=
  { s with
    gapc := { s.gapc with state := .gap, start := s.tick, durUnknown := false }
    smon := s.smon.watch .gap
    ims := { s.ims with port := if s.ims.port = some .stream then none else s.ims.port }
    units := Vector.ofFn fun u : UnitIx => (s.unit u).map UnitEntry.atGapStart
    rsch := { active := none, stack := [], marks := [] }
    seng := none
    links := ⟨s.links.a.halt, s.links.b.halt, s.links.c.halt⟩
    ctxs := Vector.ofFn fun u : UnitIx => (s.ctx u).freeze
    cflu := s.cflu.setDevice .gapBegin }

/-- A line-lost in SETTLE: back to GAP, the same gap (R25). -/
def State.settleAbort (s : State) : State :=
  { s with
    gapc := { s.gapc with state := .gap, settleStart := none, settleTime := none }
    smon := s.smon.watch .gap }

/-- A line-back in GAP or DEEP starts a settle with the settle time in force (R24, R30). -/
def State.startSettle (s : State) : State :=
  { s with
    gapc := { s.gapc with state := .settle, settleStart := some s.tick, settleTime := some s.timing.settle }
    smon := s.smon.watch .settle }

/-! ### Deep and lost (R28, R29, R31, R197) -/

/-- The unreported set after a transmission is cut off at DEEP entry: a notice's entries return (R29, R183). -/
def State.cutTransmission (s : State) : FlagUnit :=
  match s.clnk.tx with
  | some (.notice device units) => s.returnNotice device units
  | _ => s.cflu

/-- The long request at DEEP entry: one at work runs on with its reply not to be sent, and one whose work has ended is no
longer in progress (R29, R194; log entry 24). -/
def keepWorking (l : Option LongRequest) : Option LongRequest :=
  (l.filter fun l => l.work.working).map fun l => { l with muted := true }

/-- A hold-deep event taken in GAP (R28): the link goes off, and an accepted RESET is performed (R197). -/
def State.enterDeep (s : State) : State :=
  let t : State :=
    { s with
      gapc := { s.gapc with state := .deep, durUnknown := true }
      smon := s.smon.watch .deep
      ctxs := Vector.ofFn fun u : UnitIx => (s.ctx u).loseAge
      cflu := s.cutTransmission.setDevice .deepEntered
      clnk := { s.clnk with rx := [], owed := [], tx := none, long := keepWorking s.clnk.long } }
  if s.clnk.resetAccepted then t.warmReset else t

/-- A threshold in millivolts as a LINE code, rounded up (R8). -/
def lineCodeAtOrAbove (mv : Nat) : Nat :=
  (mv + 9) / 10

/-- A hold-exhausted event taken in DEEP (R31): every other block stops, records and table are given up, the comparator
takes its reference (R8; log entry 25). -/
def State.enterLost (s : State) : State :=
  let t := s.cutLong
  { t with
    gapc := { t.gapc with state := .lost }
    smon := { t.smon.watch .lost with cmpRef := some (lineCodeAtOrAbove t.smon.settings.gapExit) }
    units := Vector.replicate 24 none
    ctxs := Vector.replicate 24 .blank
    clnk := { t.clnk with rx := [], owed := [], tx := none } }

/-! ### Settle expiry (R25 to R27, R61, R78, R162) -/

/-- The gap count one more, staying at 65,535 (R26). -/
def nextGapCount (n : Nat) : Nat :=
  min (n + 1) 65535

/-- The gap's duration (b - s) mod 2^32, or UNKNOWN (R27). -/
def GapCtl.duration (g : GapCtl) : Option Tick :=
  if g.durUnknown then none else g.settleStart.map fun b => b - g.start

/-- Entry to RESTORE at settle expiry: gap count, duration, GAP_END, the links of usable segments started, records aged,
retry counts 0 (R26, R27, R61, R78, R162). -/
def State.enterRestore (s : State) : State :=
  let leave (x : Seg) : Link := if s.usable x then (perGet s.links x).start else perGet s.links x
  State.ageAll
    { s with
      gapc :=
        { s.gapc with
          state := .restore
          settleStart := none
          settleTime := none
          lastDuration := s.gapc.duration
          count := nextGapCount s.gapc.count }
      smon := s.smon.watch .restore
      units := Vector.ofFn fun u : UnitIx => (s.unit u).map fun e => { e with retry := 0 }
      links := perOf leave
      cflu := s.cflu.setDevice .gapEnd }

/-- Every DARK unit that `p` names enters PROBE, in rising order of index (R61, R63, R82). -/
def State.probeDark (s : State) (p : UnitIx → Bool) : State :=
  (allUnits.filter fun u => p u && s.unitIn u .dark).foldl State.enterProbe s

/-- The demand test on entering RESTORE (R21, R26): with demand absent GAPC goes straight on to SUPPLIED. -/
def State.testDemand (s : State) : State :=
  if s.demandNow then { s with gapc := { s.gapc with demand := true } }
  else
    { s with
      gapc := { s.gapc with demand := false, state := .supplied }
      smon := s.smon.watch .supplied
      cflu := s.cflu.setDevice .restoreDone }

/-- The unit's segment is usable. -/
def State.unitUsable (s : State) (u : UnitIx) : Bool :=
  (s.unit u).any fun e => s.usable e.decl.seg

/-- The settle expiry's work (R26). -/
def State.settleEnd (s : State) : State :=
  let s := s.enterRestore
  (s.probeDark s.unitUsable).testDemand

/-- The settle timer has expired: (t - b) mod 2^32 is at least T (R25). -/
def State.settleDue (s : State) : Bool :=
  match s.gapc.state, s.gapc.settleStart, s.gapc.settleTime with
  | .settle, some b, some t => decide (t ≤ s.since b)
  | _, _, _ => false

/-! ### Segment down and usable (R13, R62, R63, R78, R92, R131, R146) -/

/-- Unit `u` is defined on segment `x`. -/
def State.unitOn (s : State) (x : Seg) (u : UnitIx) : Bool :=
  (s.unit u).any fun e => e.decl.seg == x

/-- A unit of a segment that goes DOWN (R62). -/
def UnitEntry.atSegmentDown (e : UnitEntry) : UnitEntry :=
  match e.state with
  | .probe | .wait | .stream | .suspended | .verify | .context => e.goto .dark
  | .live => { e with misses := 0, pollDue := none }
  | _ => e

/-- The window in flight when segment `x` goes DOWN (R146): its participants there are IGNORED, its part there ended. -/
def Window.segmentDown (w : Window) (x : Seg) : Window :=
  let v := w.ignore fun q => q.seg == x
  { v with parts := if w.phase = .carrying then perSet w.parts x .ended else w.parts }

/-- Segment-down for segment `x` (R13, R62, R92, R131, R146). -/
def State.segmentDown (s : State) (x : Seg) : State :=
  State.endWindow
    { s with
      links := perMod s.links x (·.halt)
      units := Vector.ofFn fun u : UnitIx => (s.unit u).map fun e =>
        if e.decl.seg = x then e.atSegmentDown else e
      rsch := { s.rsch.removeAll (s.unitOn x) with marks := s.rsch.marks.filter fun u => !s.unitOn x u }
      seng := s.seng.map (·.segmentDown x)
      cflu := s.cflu.setDevice (.segDown x) }

/-- A unit whose segment has become usable: LIVE, its poll timer is started due at once, and so comes due and its poll joins
the queue; DARK, it enters PROBE (R63, R88, R92; log entry 23). -/
def State.resume (s : State) (u : UnitIx) : State :=
  if s.unitIn u .live then s.pollDueNow u
  else if s.unitIn u .dark then s.enterProbe u
  else s

/-- Segment-usable for segment `x`: in SUPPLIED or RESTORE the link leaves HALTED, and the polls of the segment's LIVE units
and the probes of its DARK units join the queue in rising order of unit index (R13, R63, R82, R92). -/
def State.segmentUsable (s : State) (x : Seg) : State :=
  if s.gapc.state.carries then
    (allUnits.filter (s.unitOn x)).foldl State.resume { s with links := perMod s.links x (·.start) }
  else s

/-- The effects of segment `x`'s class changing from `old` to its current class (R13). -/
def State.classChanged (s : State) (x : Seg) (old : LineClass) : State :=
  let new := (perGet s.smon.classes x).current
  let s := if new = .openLine ∧ old ≠ .openLine then s.setDevice (.segOpen x) else s
  if old.usable && !new.usable then s.segmentDown x
  else if !old.usable && new.usable then s.segmentUsable x
  else s

/-! ### Commands -/

/-- TICK (R20): the counter rises by 1, wrapping, in the states in which TBASE counts. -/
def execTick (s : State) : Host.Outcome State Fault Refusal :=
  .next { s with tick := if s.running && s.gapc.state.counts then s.tick + 1 else s.tick }

/-- SETTLE_EXPIRY (R26). -/
def execSettleExpiry (s : State) : Host.Outcome State Fault Refusal :=
  .next (if s.running && s.settleDue then s.settleEnd.finish else s)

end Sys2Proof.Machine
end

