-- ==== Sys2Proof/Machine/Settings.lean ====
section
/-! DEFINITION. The setting requests: SET_MONITOR, SET_TIMING, SET_MASKS, SET_PERMIT_ENABLE, SET_SEGMENT and SAVE_CONFIG
(R14 to R16, R87, R171, R186, R195, R196, R199). -/

namespace Sys2Proof.Machine

/-! ### SET_MONITOR (R15, R16) -/

/-- The settings a payload carries, D clamped (R15, R204). -/
def monitorOf (p : List Byte) : MonitorSettings where
  n := u8 p 0
  d := clamp 1 16 (u8 p 1)
  offLine := s16 p 2
  offHold := s16 p 4
  offSense := ⟨s16 p 6, s16 p 8, s16 p 10⟩
  gapEnter := u16 p 12
  gapExit := u16 p 14
  holdDeep := u16 p 16
  holdRetain := u16 p 18

/-- A class state with its candidate given up (R16). -/
def ClassState.forget (c : ClassState) : ClassState :=
  { c with candidate := none, count := 0 }

/-- The thresholds or D differ (R16). -/
def thresholdsDiffer (a b : MonitorSettings) : Bool :=
  a.gapEnter != b.gapEnter || a.gapExit != b.gapExit || a.holdDeep != b.holdDeep || a.holdRetain != b.holdRetain
    || a.d != b.d

/-- Every window waits to be filled after a change of N (R3, R16). -/
def Monitor.refill (m : Monitor) : Monitor :=
  { m with winLine := [], winHold := [], winSense := ⟨[], [], []⟩ }

/-- All debounce counters and candidates at 0 and absent (R16). -/
def Monitor.recount (m : Monitor) : Monitor :=
  { m with
    lineLost := 0
    lineBack := 0
    holdDeep := 0
    holdExhausted := 0
    classes := ⟨m.classes.a.forget, m.classes.b.forget, m.classes.c.forget⟩ }

/-- New settings with their consequences (R16). -/
def Monitor.apply (m : Monitor) (new : MonitorSettings) : Monitor :=
  let a := if new.n ≠ m.settings.n then m.refill else m
  let b := if thresholdsDiffer new m.settings then a.recount else a
  { b with settings := new }

/-- SET_MONITOR's own work (R15). -/
def State.setMonitorWork (s : State) (p : List Byte) : Answer :=
  let m := monitorOf p
  match firstBad (monitorChecks m) with
  | some n => refuse s (.outOfRange n)
  | none => okay { s with smon := s.smon.apply m } (.monitor m)

/-- SET_MONITOR (R15). -/
def execSetMonitor (tag : Byte) (p : List Byte) (s : State) : Host.Outcome State Fault Refusal :=
  .next (s.request 0x01 tag false p (fixedNeed 20 p) fun s => s.setMonitorWork p)

/-! ### SET_TIMING (R195) -/

/-- The settings a payload carries, each clamped into its range (R195). -/
def timingOf (p : List Byte) : TimingSettings where
  settle := clamp 10 2000 (u16 p 0)
  answer := clamp 2 50 (u8 p 2)
  verify := clamp 50 1000 (u16 p 3)
  retryLimit := clamp 0 7 (u8 p 5)
  pollPeriod := clamp 20 1000 (u16 p 6)
  ageDoor := clamp 100 10000 (u16 p 8)
  ageRamp := clamp 100 10000 (u16 p 10)
  maxWindow := clamp 1 8 (u8 p 12)

/-- The timing settings replaced; a changed maximum window recomputes W of every record at once (R120, R195). -/
def State.applyTiming (s : State) (t : TimingSettings) : State :=
  let s' : State := { s with timing := t }
  if t.maxWindow ≠ s.timing.maxWindow then s'.refreshWidths else s'

/-- SET_TIMING (R195). -/
def execSetTiming (tag : Byte) (p : List Byte) (s : State) : Host.Outcome State Fault Refusal :=
  .next (s.request 0x02 tag false p (fixedNeed 13 p) fun s => okay (s.applyTiming (timingOf p)) (.timing (timingOf p)))

/-! ### SET_MASKS (R186) -/

/-- The response masks a payload carries; bits beyond the ninth are ignored (R186). -/
def responseMasksOf (p : List Byte) : BitVec 9 :=
  BitVec.ofNat 9 (flagBits p 0 2)

/-- The ALERT enables a payload carries; bits beyond the seventeenth are ignored (R186). -/
def alertMaskOf (p : List Byte) : BitVec 17 :=
  BitVec.ofNat 17 (flagBits p 2 3)

/-- SET_MASKS (R186): ALERT is recomputed at the end of the command (R185). -/
def execSetMasks (tag : Byte) (p : List Byte) (s : State) : Host.Outcome State Fault Refusal :=
  .next (s.request 0x03 tag false p (fixedNeed 5 p) fun s =>
    okay { s with cflu := { s.cflu with respOpen := responseMasksOf p, alertMask := alertMaskOf p } }
      (.masks (responseMasksOf p) (alertMaskOf p)))

/-! ### SET_PERMIT_ENABLE (R171) -/

/-- SET_PERMIT_ENABLE's own work: the reply carries the output after the recomputation (R171). -/
def State.setPermitWork (s : State) (p : List Byte) : Answer :=
  match seg? (u8 p 0), onOff? (u8 p 1) with
  | none, _ => refuse s (.outOfRange 1)
  | _, none => refuse s (.outOfRange 2)
  | some x, some v =>
    let t : State :=
      State.recomputePermits { s with perm := { s.perm with enable := perSet s.perm.enable x v } }
    okay t (.permit (perGet t.perm.output x))

/-- SET_PERMIT_ENABLE (R171). -/
def execSetPermitEnable (tag : Byte) (p : List Byte) (s : State) : Host.Outcome State Fault Refusal :=
  .next (s.request 0x04 tag false p (fixedNeed 2 p) fun s => s.setPermitWork p)

/-! ### SET_SEGMENT (R14, R87, R196) -/

/-- SENSE_x turned on: its window waits to be filled (R14, R3). -/
def Monitor.senseTurnedOn (m : Monitor) (x : Seg) : Monitor :=
  { m with senseOn := perSet m.senseOn x true, winSense := perSet m.winSense x [] }

/-- SENSE_x turned off: the class becomes NORMAL, the candidate absent (R14). -/
def Monitor.senseTurnedOff (m : Monitor) (x : Seg) : Monitor :=
  { m with senseOn := perSet m.senseOn x false, classes := perSet m.classes x .initial }

/-- The sense enable of segment `x` set; turned off on a DOWN segment it hands on segment-usable (R14). -/
def State.setSense (s : State) (x : Seg) (v : Bool) : State :=
  if v = perGet s.smon.senseOn x then s
  else if v then { s with smon := s.smon.senseTurnedOn x }
  else
    let t : State := { s with smon := s.smon.senseTurnedOff x }
    if s.usable x then t else (t.segmentUsable x).settled

/-- SET_SEGMENT's own work (R196). -/
def State.setSegmentWork (s : State) (p : List Byte) : Answer :=
  match seg? (u8 p 0), onOff? (u8 p 1), onOff? (u8 p 2) with
  | none, _, _ => refuse s (.outOfRange 1)
  | _, none, _ => refuse s (.outOfRange 2)
  | _, _, none => refuse s (.outOfRange 3)
  | some x, some sense, some yield => okay ((s.setSense x sense).onLink x (·.setYield yield)) (.segment sense yield)

/-- SET_SEGMENT (R196). -/
def execSetSegment (tag : Byte) (p : List Byte) (s : State) : Host.Outcome State Fault Refusal :=
  .next (s.request 0x05 tag false p (fixedNeed 3 p) fun s => s.setSegmentWork p)

/-! ### SAVE_CONFIG (R198, R199) -/

/-- Every part of R198 as it stands. -/
def State.configNow (s : State) : ConfigData where
  monitor := s.smon.settings
  timing := s.timing
  senseOn := s.smon.senseOn
  yieldOn := ⟨s.links.a.yieldOn, s.links.b.yieldOn, s.links.c.yieldOn⟩
  permitOn := s.perm.enable
  respOpen := s.cflu.respOpen
  alertMask := s.cflu.alertMask
  defs := Vector.ofFn fun u : UnitIx => (s.unit u).map (·.decl)

/-- A long request accepted: in progress, with no reply yet (R194). -/
def State.startLong (s : State) (kind tag : Byte) (work : LongWork) : Answer :=
  ({ s with clnk := { s.clnk with long := some ⟨kind, tag, work, false⟩ } }, none)

/-- SAVE_CONFIG (R199): refused STATE outside SUPPLIED and RESTORE; a long request that erases and writes the record. -/
def execSaveConfig (tag : Byte) (p : List Byte) (s : State) : Host.Outcome State Fault Refusal :=
  .next (s.request 0x08 tag false p (fixedNeed 0 p) fun s =>
    if s.gapc.state.carries then s.startLong 0x08 tag (.saveErase s.configNow) else refuse s (s.stateRefusal none))

end Sys2Proof.Machine
end

