-- ==== Sys2Proof/Machine/Image.lean ====
section
/-! DEFINITION. The image requests and the array port's command: IMAGE_OPEN, IMAGE_DATA, IMAGE_CLOSE, IMAGE_ERASE and
ARRAY_ACCESS_DONE (03, R194, R199). -/

namespace Sys2Proof.Machine

/-! ### Allocation (R38, R44) and use (R41) -/

/-- Block `b` is available to slot `k`: free, or the slot's own (R44). -/
def State.availableTo (s : State) (k : SlotIx) (b : Nat) : Bool :=
  allSlots.all fun j => j == k || !(s.slot j).owns b

/-- Block `b` is free (R38). -/
def State.free (s : State) (b : Nat) : Bool :=
  allSlots.all fun j => !(s.slot j).owns b

/-- The length of the run of blocks, from `b` on and below 512, that `ok` allows; `n` bounds the search. -/
def runFrom (ok : Nat → Bool) : Nat → Nat → Nat
  | 0, _ => 0
  | n + 1, b => if decide (b < Config.blockCount) && ok b then runFrom ok n (b + 1) + 1 else 0

/-- First fit: the lowest block from which `len` blocks are available (R44). -/
def firstFit (ok : Nat → Bool) (len : Nat) : Option Nat :=
  (List.range Config.blockCount).find? fun f => runFrom ok len f == len

/-- The longest run of blocks that `ok` allows (R44, R53). -/
def longestRun (ok : Nat → Bool) : Nat :=
  ((List.range Config.blockCount).foldl
    (fun (acc : Nat × Nat) b => if ok b then (acc.1 + 1, max acc.2 (acc.1 + 1)) else (0, acc.2)) (0, 0)).2

/-- A slot is in use: a stream record is its, or a unit bound to it is in STREAM, SUSPENDED or VERIFY (R41). -/
def State.inUse (s : State) (k : SlotIx) : Bool :=
  s.rsch.hasSlot k || allUnits.any fun u => (s.unit u).any fun e =>
    e.decl.slot == k && (e.state == .stream || e.state == .suspended || e.state == .verify)

/-- The first defined unit bound to slot `k` with another class (R42, R193). -/
def State.otherClass? (s : State) (k : SlotIx) (c : UnitClass) : Option UnitIx :=
  allUnits.find? fun u => (s.unit u).any fun e => e.decl.slot == k && e.decl.cls != c

/-! ### IMAGE_OPEN (R43, R44) -/

/-- The version field of IMAGE_OPEN (R204). -/
def versionOf (p : List Byte) : Version where
  major := BitVec.ofNat 8 (u8 p 2)
  minor := BitVec.ofNat 8 (u8 p 3)
  build := BitVec.ofNat 16 (u16 p 4)

/-- What the slot declares once opened at block `f` (R43). -/
def openedInfo (p : List Byte) (c : UnitClass) (f : Nat) : SlotInfo where
  cls := c
  version := versionOf p
  len := u8 p 6
  first := f
  crc := BitVec.ofNat 32 (u32 p 7)

/-- IMAGE_OPEN's own work: the checks in order, then the slot LOADING on its new run (R43). -/
def State.imageOpenWork (s : State) (p : List Byte) : Answer :=
  match slotIx? (u8 p 0), class? (u8 p 1) with
  | none, _ => refuse s (.outOfRange 1)
  | _, none => refuse s (.outOfRange 2)
  | some k, some c =>
    if !(decide (1 ≤ u8 p 6 ∧ u8 p 6 ≤ 128)) then refuse s (.outOfRange 4)
    else if !s.gapc.state.carries then refuse s (s.stateRefusal none)
    else if s.inUse k then refuse s .inUse
    else match s.otherClass? k c with
      | some u => refuse s (.mismatch (.boundUnit u))
      | none =>
        match firstFit (s.availableTo k) (u8 p 6) with
        | none => refuse s (.full (longestRun (s.availableTo k)))
        | some f => okay (s.putSlot k (.loading (openedInfo p c f) 0 [])) (.firstBlock f)

/-- IMAGE_OPEN (R43). -/
def execImageOpen (tag : Byte) (p : List Byte) (s : State) : Host.Outcome State Fault Refusal :=
  .next (s.request 0x10 tag false p (fixedNeed 11 p) fun s => s.imageOpenWork p)

/-! ### IMAGE_DATA, IMAGE_CLOSE, IMAGE_ERASE: acceptance (R45, R47, R48) -/

/-- The target index: as given, or the write cursor for NEXT (R45). -/
def targetOf (p : List Byte) (cursor : Nat) : Nat :=
  if u8 p 1 = wordByte then cursor else u8 p 1

/-- IMAGE_DATA's own work (R45). -/
def State.imageDataWork (s : State) (tag : Byte) (p : List Byte) : Answer :=
  match slotIx? (u8 p 0) with
  | none => refuse s (.outOfRange 1)
  | some k =>
    match s.slot k with
    | .loading i cursor _ =>
      if targetOf p cursor < i.len then s.startLong 0x11 tag (.imageData k (targetOf p cursor) (p.drop 4))
      else refuse s (.outOfRange 2)
    | _ => refuse s (s.stateRefusal none)

/-- IMAGE_DATA (R45). -/
def execImageData (tag : Byte) (p : List Byte) (s : State) : Host.Outcome State Fault Refusal :=
  .next (s.request 0x11 tag false p (imageDataNeed p) fun s => s.imageDataWork tag p)

/-- The block indices of [0, L) not in the written set, rising (R47). -/
def unwritten (len : Nat) (written : List Nat) : List Nat :=
  (List.range len).filter fun b => !written.contains b

/-- IMAGE_CLOSE's own work (R47). -/
def State.imageCloseWork (s : State) (tag : Byte) (p : List Byte) : Answer :=
  match slotIx? (u8 p 0) with
  | none => refuse s (.outOfRange 1)
  | some k =>
    match s.slot k with
    | .loading i _ written => s.startLong 0x12 tag (.imageClose k (unwritten i.len written) 0 0 crc32Start)
    | _ => refuse s (s.stateRefusal none)

/-- IMAGE_CLOSE (R47). -/
def execImageClose (tag : Byte) (p : List Byte) (s : State) : Host.Outcome State Fault Refusal :=
  .next (s.request 0x12 tag false p (fixedNeed 1 p) fun s => s.imageCloseWork tag p)

/-- IMAGE_ERASE's own work (R48). -/
def State.imageEraseWork (s : State) (tag : Byte) (p : List Byte) : Answer :=
  match slotIx? (u8 p 0) with
  | none => refuse s (.outOfRange 1)
  | some k =>
    if !s.gapc.state.carries then refuse s (s.stateRefusal none)
    else if s.inUse k then refuse s .inUse
    else s.startLong 0x13 tag (.imageErase k)

/-- IMAGE_ERASE (R48). -/
def execImageErase (tag : Byte) (p : List Byte) (s : State) : Host.Outcome State Fault Refusal :=
  .next (s.request 0x13 tag false p (fixedNeed 1 p) fun s => s.imageEraseWork tag p)

/-! ### Accesses of the long request -/

/-- A long request completes: with the link on its reply becomes owed, or waits with the request still in progress while
the list is full; in DEEP no reply is made owed, nor for a request that was in progress at a DEEP entry (R29, R194). That
such a request may still be working when DEEP is left, stays in progress until its work ends, and is answered for by BUSY
until then, is a DESIGN CHOICE: log entry 24. -/
def State.completeLong (s : State) (l : LongRequest) (st : Status) : State :=
  { s with clnk :=
      if !s.linkOn || l.muted then { s.clnk with long := none }
      else if s.clnk.owed.length < 4 then
        { s.clnk with long := none, owed := s.clnk.owed ++ [⟨l.kind, l.tag, st⟩] }
      else { s.clnk with long := some { l with work := .finished st } } }

/-- The long request goes on with further work. -/
def State.continueLong (s : State) (l : LongRequest) (w : LongWork) : State :=
  { s with clnk := { s.clnk with long := some { l with work := w } } }

/-- One block of the array written. -/
def State.writeBlock (s : State) (b : Nat) (bytes : List Byte) : State :=
  { s with ims := { s.ims with mem := Memory.writeBlock s.ims.mem b bytes } }

/-- An index joins a rising list, once. -/
def insertRising (l : List Nat) (t : Nat) : List Nat :=
  l.filter (fun b => decide (b < t)) ++ t :: l.filter (fun b => decide (t < b))

/-- An IMAGE_DATA write completes: t joins the written set, the cursor is t + 1 (R46). -/
def State.dataWritten (s : State) (l : LongRequest) (k : SlotIx) (t : Nat) (i : SlotInfo) (written : List Nat)
    (bytes : List Byte) : State :=
  let set := insertRising written t
  ((s.writeBlock (i.first + t) bytes).putSlot k (.loading i (t + 1) set)).completeLong l
    (.ok (.written (t + 1) set.length))

/-- IMAGE_CLOSE completes: the computed CRC makes the slot VALID, or DAMAGED with MISMATCH (R47); a slot that became
VALID reaches RSCH (R49, R133). -/
def State.closeDone (s : State) (l : LongRequest) (k : SlotIx) (i : SlotInfo) (crc : Crc32) (filled : Nat) : State :=
  if crc = i.crc then ((s.putSlot k (.valid i)).completeLong l (.ok (.closed crc filled))).settleStreams
  else (s.putSlot k (.damaged i .mismatch)).completeLong l (.mismatch (.image crc filled))

/-- One fill write or scan read of IMAGE_CLOSE ends (R47). -/
def State.closeAccess (s : State) (l : LongRequest) (k : SlotIx) (i : SlotInfo) (fill : List Nat)
    (filled scanned : Nat) (crc : Crc32) : State :=
  match fill with
  | b :: rest =>
    (s.writeBlock (i.first + b) Memory.fillBlock).continueLong l (.imageClose k rest (filled + 1) scanned crc)
  | [] =>
    let crc := crc32Update crc (Memory.readBlock s.ims.mem (i.first + scanned))
    if scanned + 1 < i.len then s.continueLong l (.imageClose k [] filled (scanned + 1) crc)
    else s.closeDone l k i (crc32Finish crc) filled

/-- The slot-table write of IMAGE_ERASE ends: the IN_USE test is made a second time (R48). -/
def State.eraseDone (s : State) (l : LongRequest) (k : SlotIx) : State :=
  if s.inUse k then s.completeLong l .inUse else (s.putSlot k .empty).completeLong l (.ok .nothing)

/-- The record written: it replaces the old one (R199). -/
def State.saveDone (s : State) (l : LongRequest) (c : ConfigData) : State :=
  let t : State := { s with cfgr := some (writtenRecord c) }
  (({ t with clnk := { t.clnk with saved := true } } : State).completeLong l (.ok (.recordCrc (writtenRecord c).crc)))

/-- The run of block accesses that a long request makes on slot `k`: what the slot declares, where block `t` of it lies
in the array. -/
def State.slotRun? (s : State) (k : SlotIx) (t : Nat) : Option SlotInfo :=
  (s.slot k).info?.filter fun i => decide (i.first + t < Config.blockCount)

/-- An access of the long request ends (R46 to R48, R199); none is the fault of an access that belongs to no block of a
slot being loaded (log entry 27). -/
def State.longAccess (s : State) (l : LongRequest) : Option State :=
  match l.work with
  | .imageData k t bytes =>
    match s.slot k, s.slotRun? k t with
    | .loading i _ written, some _ => some (s.dataWritten l k t i written bytes)
    | _, _ => none
  | .imageClose k fill filled scanned crc =>
    match s.slot k, s.slotRun? k (fill.headD scanned) with
    | .loading i _ _, some _ => some (s.closeAccess l k i fill filled scanned crc)
    | _, _ => none
  | .imageErase k => some (s.eraseDone l k)
  | .saveErase c => some (({ s with cfgr := some (brokenRecord c) } : State).continueLong l (.saveWrite c))
  | .saveWrite c => some (s.saveDone l c)
  | .finished _ => some s

/-- A window's block read ends: the bytes go to the window buffer (R50, R138). -/
def State.streamAccess (s : State) : Option State :=
  match s.seng with
  | none => some s
  | some w =>
    if !s.streamWaits then some s
    else (s.slotRun? w.slot (w.start + w.buffer.length)).map fun i =>
      s.bufferBlock w (Memory.readBlock s.ims.mem (i.first + w.start + w.buffer.length))

/-- The access of requester `r` ends. -/
def State.accessDone (s : State) (r : Requester) : Option State :=
  match r with
  | .stream => s.streamAccess
  | .longRequest =>
    match s.clnk.long with
    | none => some s
    | some l => s.longAccess l

/-- ARRAY_ACCESS_DONE (R50): the access in progress ends, and the port passes on. -/
def execArrayAccessDone (s : State) : Host.Outcome State Fault Refusal :=
  if !s.running then .next s
  else match s.ims.port with
    | none => .next s
    | some r =>
      match ({ s with ims := { s.ims with port := none } } : State).accessDone r with
      | none => .fault .noSuchBlock
      | some t => .next (t.finishAfter (some r))

end Sys2Proof.Machine
end

