-- ==== Sys2Proof/Machine/Monitor.lean ====
section
/-! DEFINITION. The supply monitor: offset, average, scale, debounce and class stages, and the commands MONITOR_SAMPLE and
LINE_COMPARATOR_SAMPLE (01). -/

namespace Sys2Proof.Machine

/-! ### Offset, average, scale (R2 to R4) -/

/-- The offset stage: the sum saturated to 0..4,095 (R2). -/
def corrected (raw : Code) (off : Int) : Nat :=
  (max 0 (min 4095 ((raw.toNat : Int) + off))).toNat

/-- A corrected sample enters the window; a window waiting to be filled takes it into all N places (R3). -/
def pushSample (n : Nat) (w : List Nat) (v : Nat) : List Nat :=
  if w.isEmpty then List.replicate n v else (w ++ [v]).drop 1

/-- The filtered code: the window's sum divided by its length, rounded down (R3). -/
def filteredCode (w : List Nat) : Nat :=
  w.sum / w.length

/-- A LINE code in millivolts (R4). -/
def lineMv (code : Nat) : Nat :=
  code * 10

/-- A HOLD code in millivolts (R4). -/
def holdMv (code : Nat) : Nat :=
  code * 5

/-! ### Debounce (R5, R6) -/

/-- One counter on one filtered sample: the new count, and whether it reached D (R5). -/
def debounce (d count : Nat) (holds : Bool) : Nat × Bool :=
  if holds then (if d ≤ count + 1 then (0, true) else (count + 1, false)) else (0, false)

/-- A counter that is watched only in some gap states; elsewhere it is held at 0 (R6). -/
def watchedDebounce (watched : Bool) (d count : Nat) (holds : Bool) : Nat × Bool :=
  if watched then debounce d count holds else (0, false)

/-! ### Segment classes (1.5, R11) -/

/-- The class of a filtered SENSE code (1.5). -/
def classOf (code : Nat) : LineClass :=
  if code < 300 then .shortLow
  else if code < 2400 then .normal
  else if code < 3600 then .openLine
  else .shortHigh

/-- A filtered SENSE code treated by R11: the class state, and the class that becomes current, if one does. -/
def classStep (d : Nat) (c : ClassState) (k : LineClass) : ClassState × Option LineClass :=
  if k = c.current then ({ c with candidate := none, count := 0 }, none)
  else
    let n := if c.candidate = some k then c.count + 1 else 1
    if d ≤ n then ({ c with candidate := none, count := 0 }, some k)
    else ({ c with candidate := some k, count := n }, none)

/-! ### One sample instant (R1) -/

/-- The events one sample instant can raise (R5, R9, R13). -/
inductive SupplyEvent where
  | lineLost | lineBack | holdDeep | holdLow | holdExhausted
  | newClass (x : Seg) (k : LineClass)
deriving DecidableEq, Repr

/-- SENSE_x is sampled: its enable is on, the gap state samples SENSE, and the line is idle (R1, R12, R14). -/
def State.senses (s : State) (x : Seg) : Bool :=
  perGet s.smon.senseOn x && s.gapc.state.counts && s.lineIdle x

/-- The LINE window after a sample. -/
def Monitor.pushLine (m : Monitor) (line : Code) : List Nat :=
  pushSample m.settings.n m.winLine (corrected line m.settings.offLine)

/-- The HOLD window after a sample. -/
def Monitor.pushHold (m : Monitor) (hold : Code) : List Nat :=
  pushSample m.settings.n m.winHold (corrected hold m.settings.offHold)

/-- The SENSE_x window after a sample. -/
def Monitor.pushSense (m : Monitor) (x : Seg) (sense : Code) : List Nat :=
  pushSample m.settings.n (perGet m.winSense x) (corrected sense (perGet m.settings.offSense x))

/-- LINE and HOLD sampled in gap state `g`: windows, counters, and the events raised (R1 to R10; log entry 5). -/
def Monitor.supplySample (m : Monitor) (g : GapState) (line hold : Code) : Monitor × List SupplyEvent :=
  let d := m.settings.d
  let wl := m.pushLine line
  let wh := m.pushHold hold
  let l := lineMv (filteredCode wl)
  let h := holdMv (filteredCode wh)
  let lost := watchedDebounce g.watchesLineLost d m.lineLost (decide (l < m.settings.gapEnter))
  let back := watchedDebounce g.watchesLineBack d m.lineBack (decide (m.settings.gapExit ≤ l))
  let deep := watchedDebounce g.watchesHoldDeep d m.holdDeep (decide (h < m.settings.holdDeep))
  let exhausted := watchedDebounce g.watchesHoldExhausted d m.holdExhausted (decide (h < m.settings.holdRetain))
  ({ m with
      winLine := wl
      winHold := wh
      lineLost := lost.1
      lineBack := back.1
      holdDeep := deep.1
      holdExhausted := exhausted.1 },
   (if lost.2 then [.lineLost] else []) ++ (if back.2 then [.lineBack] else [])
    ++ (if deep.2 then [if g = .gap then .holdDeep else .holdLow] else [])
    ++ (if exhausted.2 then [.holdExhausted] else []))

/-- SENSE_x sampled: window and class state, and the change of class raised (R11, R12). -/
def Monitor.senseSample (m : Monitor) (x : Seg) (sense : Code) : Monitor × List SupplyEvent :=
  let w := m.pushSense x sense
  let c := classStep m.settings.d (perGet m.classes x) (classOf (filteredCode w))
  ({ m with winSense := perSet m.winSense x w, classes := perSet m.classes x c.1 },
   match c.2 with
   | some k => [.newClass x k]
   | none => [])

/-- The SENSE sample of a segment, skipped where the segment is not sampled (R12). -/
def State.senseStep (s : State) (x : Seg) (sense : Code) (acc : Monitor × List SupplyEvent) :
    Monitor × List SupplyEvent :=
  if s.senses x then
    let r := acc.1.senseSample x sense
    (r.1, acc.2 ++ r.2)
  else acc

/-- Every channel sampled at one instant (R1). -/
def State.sampleAll (s : State) (line hold senseA senseB senseC : Code) : Monitor × List SupplyEvent :=
  s.senseStep .c senseC (s.senseStep .b senseB (s.senseStep .a senseA
    (s.smon.supplySample s.gapc.state line hold)))

/-! ### The events taken -/

/-- The new class of segment `x` becomes current, with its effects (R11, R13); UTAB reports demand after a segment-down or
segment-usable (R74). -/
def State.takeClass (s : State) (x : Seg) (k : LineClass) : State :=
  let old := (perGet s.smon.classes x).current
  let t := ({ s with smon := { s.smon with classes := perMod s.smon.classes x fun c => { c with current := k } } } :
    State).classChanged x old
  if old.usable == k.usable then t else t.settled

/-- One event of a sample as the gap controller's state takes it (R7 to R10, R22, R24, R25, R28, R31 to R34). -/
def State.takeEvent (s : State) (e : SupplyEvent) : State :=
  match e, s.gapc.state with
  | .lineLost, .supplied | .lineLost, .restore => s.gapStart.reportDemand
  | .lineLost, .settle => s.settleAbort
  | .lineBack, .gap | .lineBack, .deep => s.startSettle
  | .holdDeep, .gap => s.enterDeep
  | .holdExhausted, .deep => s.enterLost
  | .holdLow, _ => s.setDevice .holdLow
  | .newClass x k, _ => s.takeClass x k
  | _, _ => s

/-- The event performs a reset, with which the rest of the sample is lost (R34, R197). -/
def State.resetsAt (s : State) (e : SupplyEvent) : Bool :=
  e == .holdDeep && s.gapc.state == .gap && s.clnk.resetAccepted

/-- The events of one sample, taken one at a time in a free order (R10, R33, R34; log entry 4). -/
def State.takeEvents : Nat → State → List SupplyEvent → State
  | 0, s, _ => s
  | k + 1, s, es =>
    let p := s.pick es.length
    match es[p.1]? with
    | none => s
    | some e =>
      if s.resetsAt e then p.2.takeEvent e
      else State.takeEvents k (p.2.takeEvent e).recomputePermits (es.eraseIdx p.1)

/-- The work of one sample instant (R1). -/
def State.monitorSample (s : State) (line hold senseA senseB senseC : Code) : State :=
  let r := s.sampleAll line hold senseA senseB senseC
  State.takeEvents r.2.length { s with smon := r.1 } r.2

/-! ### Commands -/

/-- MONITOR_SAMPLE (R1): in LOST the converter is stopped. -/
def execMonitorSample (line hold senseA senseB senseC : Code) (s : State) : Host.Outcome State Fault Refusal :=
  .next
    (if s.running && s.gapc.state != .lost then (s.monitorSample line hold senseA senseB senseC).finish else s)

/-- One comparison in LOST: at or above the reference adds 1, below sets 0; at D the cold start that leaves LOST is
performed (R8, R32). -/
def State.comparatorSample (s : State) (line : Code) : State :=
  let above := s.smon.cmpRef.any fun r => decide (r ≤ corrected line s.smon.settings.offLine)
  let back := debounce s.smon.settings.d s.smon.lineBack above
  if back.2 then s.coldStart true else { s with smon := { s.smon with lineBack := back.1 } }

/-- LINE_COMPARATOR_SAMPLE (R8): taken in LOST. -/
def execLineComparatorSample (line : Code) (s : State) : Host.Outcome State Fault Refusal :=
  .next (if s.running && s.gapc.state == .lost then s.comparatorSample line else s)

end Sys2Proof.Machine
end

