-- ==== Sys2Proof/Machine/Query.lean ====
section
/-! DEFINITION. The six queries and what their replies carry (R17, R35, R53, R77, R94, R111, R135, R153, R173, R188, R201,
R207). -/

namespace Sys2Proof.Machine

/-! ### QUERY_STATUS -/

/-- The kind of an exchange with its unit, or its slot and level (R94). -/
def Exchange.summary : Exchange → Exchange
  | .window w => .window { slot := w.slot, level := w.level, start := 0, blocks := [], members := [] }
  | ex => ex

/-- What is reported of segment `x`'s link (R94). DESIGN CHOICE, log entry 43: a discard wait is the wait of a cut exchange, as
R90 uses the term; a window part that waits for the answer of a participant withdrawn meanwhile is not reported as one. -/
def State.linkReport (s : State) (x : Seg) : LinkReport :=
  let l := perGet s.links x
  { haltedByGap := !s.gapc.state.carries
    haltedByLine := !s.usable x
    inFlight := l.inFlight.map fun f => f.exchange.summary
    discardWait := l.inFlight.any fun f => f.cut && f.phase != .sending
    lock := l.lock
    marked := l.inFlight.any fun f => f.marked
    windowParts := l.queue.countP Exchange.isWindow
    contextSequences := l.queue.countP Exchange.isSequence
    services := l.queue.countP Exchange.isService
    polls := l.queue.countP Exchange.isPoll
    yieldOn := l.yieldOn
    seq := l.seq }

/-- What is reported of the stream engine (R153). -/
def State.engineReport (s : State) : EngineReport where
  window := s.seng.map fun w => (w.slot, w.level, w.start, w.count, w.phase)
  parts := (s.seng.map fun w => w.parts).getD ⟨.none, .none, .none⟩
  pendingAnswers := (s.seng.map fun w => w.participants.countP fun q => q.answer == .pending).getD 0
  ignored := (s.seng.map fun w => w.participants.countP fun q => q.answer == .ignored).getD 0

/-- What is reported of segment `x`'s permit (R173). -/
def State.permitReport (s : State) (x : Seg) : PermitReport where
  enable := perGet s.perm.enable x
  output := perGet s.perm.output x
  withheldBy := allUnits.filter fun u => (s.unit u).any fun e => e.decl.seg == x && e.withholds

/-- The eleven defined unit states in the order of 4.3. -/
def unitStates : List UnitState :=
  [.dark, .probe, .wait, .stream, .suspended, .verify, .context, .live, .held, .failed, .isolated]

/-- The units of segment `x` that `p` allows, counted. -/
def State.countOn (s : State) (x : Seg) (p : UnitEntry → Bool) : Nat :=
  allUnits.countP fun u => (s.unit u).any fun e => e.decl.seg == x && p e

/-- The census of segment `x` (R207). -/
def State.census (s : State) (x : Seg) : Census where
  counts := unitStates.map fun st => s.countOn x fun e => e.state == st
  restrained := s.countOn x fun e => e.decl.cls.isDoorOrRamp && e.state == .live && e.restrained

/-- The QUERY_STATUS reply (R35, R94, R153, R173, R188, R201, R207; log entry 31). DESIGN CHOICE, log entry 37: the number of
owed replies is taken before this reply joins the list, so the reply does not count itself. -/
def State.statusReport (s : State) : StatusReport where
  gapc := s.gapc
  tick := s.tick
  timing := s.timing
  links := perOf s.linkReport
  engine := s.engineReport
  permits := perOf s.permitReport
  device := s.cflu.device
  alertMask := s.cflu.alertMask
  respOpen := s.cflu.respOpen
  alert := s.cflu.alert
  unreported := s.cflu.unreported
  longRequest := s.clnk.long.map fun l => (l.kind, l.tag)
  owed := s.clnk.owed.length
  cfgValid := s.clnk.cfgValid
  saved := s.clnk.saved
  census := perOf s.census

/-- QUERY_STATUS (R35). -/
def execQueryStatus (tag : Byte) (p : List Byte) (s : State) : Host.Outcome State Fault Refusal :=
  .next (s.request 0x30 tag true p (fixedNeed 0 p) fun s => okay s (.statusReport s.statusReport))

/-! ### QUERY_MONITOR (R17) -/

/-- The filtered code of the latest sample, absent after a fill event (R3, R17). -/
def filtered? (w : List Nat) : Option Nat :=
  if w.isEmpty then none else some (filteredCode w)

/-- The QUERY_MONITOR reply (R17). -/
def Monitor.report (m : Monitor) : MonitorReport where
  settings := m.settings
  senseOn := m.senseOn
  line := filtered? m.winLine
  hold := filtered? m.winHold
  sense := perOf fun x => if perGet m.senseOn x then filtered? (perGet m.winSense x) else none
  lineMillivolts := (filtered? m.winLine).map lineMv
  holdMillivolts := (filtered? m.winHold).map holdMv
  lineLost := m.lineLost
  lineBack := m.lineBack
  holdDeep := m.holdDeep
  holdExhausted := m.holdExhausted
  classes := m.classes

/-- QUERY_MONITOR (R17). -/
def execQueryMonitor (tag : Byte) (p : List Byte) (s : State) : Host.Outcome State Fault Refusal :=
  .next (s.request 0x31 tag true p (fixedNeed 0 p) fun s => okay s (.monitorReport s.smon.report))

/-! ### QUERY_UNIT (R77, R111, R153) -/

/-- A record's slot, its place (0 the active record, 1 the top of the stack) and the blocks unit `u` owes (R77). -/
def recordOf (u : UnitIx) (r : StreamRecord × Nat) : Option (SlotIx × Nat × Nat) :=
  (r.1.members.find? fun m => m.unit == u).map fun m => (r.1.slot, r.2, m.owed.length)

/-- The record of which unit `u` is a member (R77). -/
def State.memberOf (s : State) (u : UnitIx) : Option (SlotIx × Nat × Nat) :=
  (s.rsch.active.bind fun r => recordOf u (r, 0)) <|> (s.rsch.stack.zipIdx 1).findSome? (recordOf u)

/-- Where a unit's exchange stands, for the states that have one (R77). -/
def State.exchangePlace (s : State) (u : UnitIx) (e : UnitEntry) : ExchangePlace :=
  match e.state with
  | .probe | .verify | .context => (perGet s.links e.decl.seg).place u
  | _ => .absent

/-- The answer of a participant of the window in flight (R153). -/
def State.answerOf (s : State) (u : UnitIx) : Option PartAnswer :=
  s.seng.bind fun w => (w.participants.find? fun q => q.unit == u).map (·.answer)

/-- The QUERY_UNIT reply for a defined unit (R77, R111, R153). -/
def State.unitReport (s : State) (u : UnitIx) (e : UnitEntry) : UnitReport where
  index := u
  decl := e.decl
  state := e.state
  retry := e.retry
  heldCount := e.heldCount
  heldVersion := e.heldVersion
  window := e.window
  running := e.running
  restrained := e.restrained
  pending := e.pending
  flags := e.flags
  misses := e.misses
  firstWindow := e.firstWindow
  joined := e.joined
  probe := e.probe
  lastBoot := e.lastBoot
  verify := e.verify
  record := s.memberOf u
  exchange := s.exchangePlace u e
  answer := s.answerOf u
  holdsDemand := s.holdsDemand u
  withholdsPermit := e.withholds

/-- QUERY_UNIT (R77): an EMPTY entry is answered OK with state EMPTY. -/
def execQueryUnit (tag : Byte) (p : List Byte) (s : State) : Host.Outcome State Fault Refusal :=
  .next (s.request 0x32 tag true p (fixedNeed 1 p) fun s =>
    match unitIx? (u8 p 0) with
    | none => refuse s (.outOfRange 1)
    | some u => okay s (.unitReport ((s.unit u).map (s.unitReport u))))

/-! ### QUERY_SLOT (R53) -/

/-- A slot's entry without its written set, which is reported as its size (R53). -/
def Slot.summary : Slot → Slot
  | .loading i c _ => .loading i c []
  | v => v

/-- The number of blocks in a slot's written set (R53). -/
def Slot.writtenCount : Slot → Nat
  | .loading _ _ w => w.length
  | _ => 0

/-- The QUERY_SLOT reply (R53). -/
def State.slotReport (s : State) (k : SlotIx) : SlotReport where
  entry := (s.slot k).summary
  written := (s.slot k).writtenCount
  inUse := s.inUse k
  freeBlocks := (List.range Config.blockCount).countP s.free
  longestFree := longestRun s.free

/-- QUERY_SLOT (R53). -/
def execQuerySlot (tag : Byte) (p : List Byte) (s : State) : Host.Outcome State Fault Refusal :=
  .next (s.request 0x33 tag true p (fixedNeed 1 p) fun s =>
    match slotIx? (u8 p 0) with
    | none => refuse s (.outOfRange 1)
    | some k => okay s (.slotReport (s.slotReport k)))

/-! ### QUERY_STREAMS (R135) -/

/-- What is reported of one member: its unit, blocks owed, joined and first-window flags (R135). -/
def State.memberReport (s : State) (m : Member) : UnitIx × Nat × Bool × Bool :=
  (m.unit, m.owed.length, (s.unit m.unit).any (·.joined), (s.unit m.unit).any (·.firstWindow))

/-- What is reported of one record (R135). -/
def State.recordReport (s : State) (r : StreamRecord) : RecordReport where
  slot := r.slot
  level := r.level
  len := r.len
  cursor := r.cursor
  w := r.w
  members := r.members.map s.memberReport

/-- The QUERY_STREAMS reply (R135). -/
def State.streamsReport (s : State) : StreamsReport where
  active := s.rsch.active.map s.recordReport
  stack := s.rsch.stack.map s.recordReport
  window := s.rsch.active.bind (·.window)
  eligible := s.eligibleOrder.map fun u => (u, s.rsch.marks.contains u)

/-- QUERY_STREAMS (R135). -/
def execQueryStreams (tag : Byte) (p : List Byte) (s : State) : Host.Outcome State Fault Refusal :=
  .next (s.request 0x34 tag true p (fixedNeed 0 p) fun s => okay s (.streamsReport s.streamsReport))

/-! ### QUERY_CONTEXT (R173) -/

/-- The age reported: absent with the age unknown or nothing held (R173). -/
def ContextRecord.reportedAge (r : ContextRecord) (now : Tick) : Option Tick :=
  if r.ageUnknown ∨ r.validity = .empty then none else r.capturedAt.map fun t => now - t

/-- The QUERY_CONTEXT reply for a defined unit (R173). -/
def State.contextReport (s : State) (u : UnitIx) (e : UnitEntry) : ContextReportReply where
  record := s.ctx u
  age := (s.ctx u).reportedAge s.tick
  form := e.form
  exchange := if e.state = .context then s.exchangePlace u e else .absent
  restrained := if e.decl.cls.isDoorOrRamp then some e.restrained else none

/-- QUERY_CONTEXT (R173). -/
def execQueryContext (tag : Byte) (p : List Byte) (s : State) : Host.Outcome State Fault Refusal :=
  .next (s.request 0x35 tag true p (fixedNeed 1 p) fun s =>
    match unitIx? (u8 p 0) with
    | none => refuse s (.outOfRange 1)
    | some u => okay s (.contextReport ((s.unit u).map (s.contextReport u))))

end Sys2Proof.Machine
end

