-- ==== Sys2Proof/Machine/Probe.lean ====
section
/-! DEFINITION. The probe step: the tests on a boot report, the decision, the restart exchange and the probe's conditions
(06). -/

namespace Sys2Proof.Machine

/-! ### Reports -/

/-- The well-formed test: mode, class and window capability take values of R98, a RUN report carries a version, and a BOOT
report carries h in 0..128, with a version where h is above 0 (R98; R99, test 2; log entry 29 for a BOOT report without h
and for fields of the other mode). -/
def reportWellFormed (r : BootReport) : Bool :=
  r.cls.isSome && decide (1 ≤ r.capability ∧ r.capability ≤ 8) &&
    match r.mode with
    | some .run => r.version.isSome
    | some .boot => r.held.any fun h => decide (h ≤ 128) && (h == 0 || r.version.isSome)
    | none => false

/-- How a unit's version stands to the slot's (R102). -/
inductive Comparison where
  | less | equal | greater | unordered
deriving DecidableEq, Repr

/-- Numbers compared, and on equality what follows. -/
def compareField (a b : Nat) (next : Comparison) : Comparison :=
  if a < b then .less else if b < a then .greater else next

/-- Versions compared major, minor, build; no version is UNORDERED (R102). -/
def compareVersion (unit : Option Version) (slot : Version) : Comparison :=
  match unit with
  | none => .unordered
  | some v =>
    compareField v.major.toNat slot.major.toNat
      (compareField v.minor.toNat slot.minor.toNat (compareField v.build.toNat slot.build.toNat .equal))

/-! ### Faults and restarts -/

/-- The repeat of a probe: phase PROBING, p raised by 1, a new probe handed (R100, R105). -/
def State.probeAgain (s : State) (u : UnitIx) (p : Nat) : State :=
  (s.modUnit u fun e => { e with probe := some ⟨.probing, p + 1⟩ }).hand u (.probe u (p + 1))

/-- A fault of a probe or restart (R100, R105). -/
def State.probeFault (s : State) (u : UnitIx) (p : Nat) : State :=
  s.fault u fun s => s.probeAgain u p

/-- A restart begun: phase RESTARTING with its cause, the restart exchange handed (R105). -/
def State.restart (s : State) (u : UnitIx) (p : Nat) (cause : RestartCause) : State :=
  (s.modUnit u fun e => { e with probe := some ⟨.restarting cause, p⟩ }).hand u (.restart u)

/-! ### The decision (R101, R103, R104) -/

/-- The partial image a BOOT report holds: h and its version, or 0 and none for a blank unit (R98, R104). -/
def partialImage (r : BootReport) : Nat × Option Version :=
  match r.held, r.version with
  | some (h + 1), some v => (h + 1, some v)
  | _, _ => (0, none)

/-- The learned fields set from an accepted report before the outcome is made: capability, running version, and the held
count and version of a BOOT report (R104, R73; log entry 15 for the held count where a condition is raised). -/
def UnitEntry.learn (e : UnitEntry) (r : BootReport) (maxWindow : Nat) : UnitEntry :=
  match r.mode with
  | some .run => { e with window := min r.capability maxWindow, running := r.version }
  | _ =>
    { e with
      window := min r.capability maxWindow
      running := none
      heldCount := (partialImage r).1
      heldVersion := (partialImage r).2 }

/-- No partial image is held, as LIVE and CONTEXT outcomes leave it (R104). -/
def State.dropHeld (s : State) (u : UnitIx) : State :=
  s.modUnit u fun e => { e with heldCount := 0, heldVersion := none }

/-- A unit sent to WAIT with the partial image its report shows (R103, R104). -/
def State.waitAsReported (s : State) (u : UnitIx) (r : BootReport) : State :=
  s.enterWait u (partialImage r).1 (partialImage r).2

/-- The outcome with the slot VALID (R103; log entry 29 for a RUN report without the context-intact word). -/
def State.decideVersion (s : State) (u : UnitIx) (p : Nat) (r : BootReport) (slot : SlotInfo) : State :=
  match r.mode, compareVersion r.version slot.version with
  | some .run, .equal => if r.intact = some true then (s.dropHeld u).enterLive u false else (s.dropHeld u).enterContext u
  | some .run, .greater => s.raise u .versionAhead fun s => s.restart u p .ahead
  | some .run, _ => s.restart u p .less
  | _, _ => s.waitAsReported u r

/-- The decision on an accepted report (R101). -/
def State.judgeReport (s : State) (u : UnitIx) (p : Nat) (r : BootReport) : State :=
  match s.unit u with
  | none => s
  | some e =>
    let s := s.modUnit u (·.learn r s.timing.maxWindow)
    if r.cls ≠ some e.decl.cls then s.raise u .classMismatch (·.toFailed u)
    else match s.slot e.decl.slot with
      | .loading .. => if r.mode = some .run then s.restart u p .reload else s.waitAsReported u r
      | .valid i => s.decideVersion u p r i
      | _ => s.raise u .imageUnusable (·.toFailed u)

/-! ### Outcomes -/

/-- The attempt of the probe record, when the unit is in PROBE with its record in the named phase (R59). -/
def State.probing? (s : State) (u : UnitIx) : Option ProbeRecord :=
  (s.unit u).bind fun e => if e.state = .probe then e.probe else none

/-- The last boot report is recorded with its tick (R96, R99). -/
def State.recordBoot (s : State) (u : UnitIx) (r : BootReport) : State :=
  s.modUnit u fun e => { e with lastBoot := some (r, s.tick) }

/-- The outcome of the probe of attempt `sent`: a report, or none (R99). An outcome for a unit not probing is dropped
(R59). -/
def State.probeOutcome (s : State) (u : UnitIx) (sent : Nat) (report : Option BootReport) : State :=
  match s.probing? u with
  | some ⟨.probing, p⟩ =>
    match report with
    | none => s.probeFault u p
    | some r =>
      if !reportWellFormed r then s.probeFault u p
      else if r.echo ≠ probePattern sent then
        (s.recordBoot u r).raise u .linkTest fun s => s.probeFault u p
      else (s.recordBoot u r).judgeReport u p r
  | _ => s

/-- The outcome of a restart: its ACK sends the unit to WAIT with nothing held or running; no answer is a fault, after
which the unit is probed anew (R105). -/
def State.restartOutcome (s : State) (u : UnitIx) (acked : Bool) : State :=
  match s.probing? u with
  | some ⟨.restarting _, p⟩ =>
    if acked then (s.modUnit u fun e => { e with running := none }).enterWait u 0 none else s.probeFault u p
  | _ => s

end Sys2Proof.Machine
end

