-- ==== Sys2Proof/Machine/Verify.lean ====
section
/-! DEFINITION. The verify step: requests, polls, the deadline, and the comparison of the reported CRC (08.5). -/

namespace Sys2Proof.Machine

/-- The verify record of a unit in VERIFY (R148, R59). -/
def State.verifying? (s : State) (u : UnitIx) : Option VerifyRecord :=
  (s.unit u).bind fun e => if e.state = .verify then e.verify else none

/-- Changes the verify record. -/
def State.setVerify (s : State) (u : UnitIx) (v : VerifyRecord) : State :=
  s.modUnit u fun e => { e with verify := some v }

/-- A new verify request handed, the record in REQUESTING with deadline and timer absent (R148, R149). That polls sent keeps
its count there until the next ACK is a DESIGN CHOICE: log entry 41. -/
def State.requestVerify (s : State) (u : UnitIx) (v : VerifyRecord) : State :=
  (s.setVerify u { v with phase := .requesting, pollDue := none }).hand u (.verifyRequest u)

/-- A fault of a verify request, or a verify timeout (R148, R149). -/
def State.verifyFault (s : State) (u : UnitIx) (v : VerifyRecord) : State :=
  s.fault u fun s => s.requestVerify u v

/-- The poll timer set due 5 ms from now (R149). -/
def State.nextPollDue (s : State) : Option Tick :=
  some (s.tick + BitVec.ofNat 32 Config.verifyPollInterval)

/-- The outcome of a verify request (R148). -/
def State.verifyRequestOutcome (s : State) (u : UnitIx) (acked : Bool) : State :=
  match s.verifying? u with
  | some v =>
    if v.phase ≠ .requesting then s
    else if acked then
      s.setVerify u
        { v with
          phase := .polling (s.tick + BitVec.ofNat 32 s.timing.verify)
          pollDue := s.nextPollDue
          polls := 0 }
    else s.verifyFault u v
  | none => s

/-- VERIFY_MISMATCH's default action (R151, R179): a fault; within the limit a return to WAIT with h = 0, or to DARK on a
DOWN segment. -/
def State.mismatchDefault (s : State) (u : UnitIx) : State :=
  s.fault u fun s =>
    if (s.unit u).any fun e => s.usable e.decl.seg then s.enterWait u 0 none
    else s.move u .dark fun e => { e with heldCount := 0, heldVersion := none }

/-- A READY report compared with the slot's CRC (R150, R151). -/
def State.verifyReady (s : State) (u : UnitIx) (v : VerifyRecord) (crc : Crc32) : State :=
  match s.unit u with
  | none => s
  | some e =>
    let s := s.setVerify u { v with lastCrc := some crc }
    match (s.slot e.decl.slot).info? with
    | none => s
    | some i =>
      if crc = i.crc then
        (s.modUnit u fun e =>
          { e with running := some i.version, heldCount := 0, heldVersion := none }).enterContext u
      else s.raise u .verifyMismatch (·.mismatchDefault u)

/-- The outcome of a verify poll: READY, or BUSY, no answer and malformed, which are no faults; past the deadline they
bring the verify timeout (R149). -/
def State.verifyPollOutcome (s : State) (u : UnitIx) (report : Option VerifyReport) : State :=
  match s.verifying? u with
  | some v =>
    match v.phase, report with
    | .polling _, some (.ready crc) => s.verifyReady u v crc
    | .polling deadline, _ =>
      if s.passed deadline then s.verifyFault u v else s.setVerify u { v with pollDue := s.nextPollDue }
    | .requesting, _ => s
  | none => s

/-- Whether a verify poll of `u` is in flight on its link and not cut. -/
def State.pollInFlight (s : State) (u : UnitIx) : Bool :=
  (s.unit u).any fun e => (perGet s.links e.decl.seg).inFlight.any fun f => f.exchange == .verifyPoll u && !f.cut

/-- The verify poll timer comes due before the deadline has passed (R149): absent again, polls sent one more, a verify
poll handed. -/
def State.verifyPollDue (s : State) (u : UnitIx) : State :=
  match s.verifying? u with
  | some v =>
    match v.phase, v.pollDue with
    | .polling deadline, some due =>
      if s.reached due && !s.passed deadline then
        (s.setVerify u { v with pollDue := none, polls := min (v.polls + 1) 255 }).hand u (.verifyPoll u)
      else s
    | _, _ => s
  | none => s

/-- The deadline passes with no READY taken (R149): the timer stops, a queued poll is removed, and the timeout applies at
once unless a poll is in flight. -/
def State.verifyDeadline (s : State) (u : UnitIx) : State :=
  match s.unit u, s.verifying? u with
  | some e, some v =>
    match v.phase with
    | .polling deadline =>
      if s.passed deadline then
        let s := (s.setVerify u { v with pollDue := none }).onLink e.decl.seg (·.dropVerifyPoll u)
        if s.pollInFlight u then s else (s.verifyFault u { v with pollDue := none }).settled
      else s
    | .requesting => s
  | _, _ => s

/-! ### Commands -/

/-- VERIFY_POLL_DUE (R149). -/
def execVerifyPollDue (u : UnitIx) (s : State) : Host.Outcome State Fault Refusal :=
  .next (if s.running then (s.verifyPollDue u).finish else s)

/-- VERIFY_DEADLINE (R149). -/
def execVerifyDeadline (u : UnitIx) (s : State) : Host.Outcome State Fault Refusal :=
  .next (if s.running then (s.verifyDeadline u).finish else s)

end Sys2Proof.Machine
end

