-- ==== Sys2Proof/Machine/Segment.lean ====
section
/-! DEFINITION. The segment line's commands: frames sent and received, waits that end, the owners' outcomes, and the
context poll with its timer (05). -/

namespace Sys2Proof.Machine

/-! ### The context poll (R64, R88, R89, R158) -/

/-- A poll loss (R64): the unit goes to DARK and on to PROBE by the entry rule, its record frozen and aged (R161). -/
def State.pollLoss (s : State) (u : UnitIx) : State :=
  ((s.move u .dark id).freezeAndAge u).enterProbe u

/-- The poll timer started one period from now (R88). -/
def State.pollRestart (s : State) : Option Tick :=
  some (s.tick + BitVec.ofNat 32 s.timing.pollPeriod)

/-- The outcome of a context poll (R64, R89, R158). -/
def State.pollOutcome (s : State) (u : UnitIx) (report : Option ContextReport) : State :=
  match s.unit u with
  | none => s
  | some e =>
    if e.state ≠ .live then s
    else match report with
      | some (.running fields) =>
        (s.modUnit u fun e => { e with misses := 0, pollDue := s.pollRestart }).putCtx u
          ((s.ctx u).capture e.decl.cls s.tick fields)
      | some .bootMode => s.pollLoss u
      | none =>
        if 2 ≤ e.misses then s.pollLoss u
        else s.modUnit u fun e => { e with misses := e.misses + 1, pollDue := s.pollRestart }

/-- A poll timer comes due on a running link (R88). -/
def State.pollTimerDue (s : State) (u : UnitIx) : State :=
  match s.unit u with
  | none => s
  | some e =>
    if e.state = .live ∧ !(perGet s.links e.decl.seg).halted ∧ e.pollDue.any s.reached then s.pollDueNow u else s

/-! ### Outcomes handed to their owners (R81, R84) -/

/-- A boot report, if the answer is one. -/
def bootReport? : AnswerBody → Option BootReport
  | .bootReport r => some r
  | _ => none

/-- A window answer, or no answer. -/
def windowAnswer : Option AnswerBody → PartAnswer
  | some (.windowAnswer w) => .answered w
  | _ => .noAnswer

/-- A verify report, if the answer is one. -/
def verifyReport? : AnswerBody → Option VerifyReport
  | .verifyReport r => some r
  | _ => none

/-- A context acknowledgement, if the answer is one. -/
def contextAck? : AnswerBody → Option ContextAck
  | .contextAck a => some a
  | _ => none

/-- A context report, if the answer is one. -/
def contextReport? : AnswerBody → Option ContextReport
  | .contextReport r => some r
  | _ => none

/-- The outcome of an exchange of one frame goes to its owner (R81). -/
def State.unitOutcome (s : State) (ex : Exchange) (a : Option AnswerBody) : State :=
  match ex with
  | .probe u p => s.probeOutcome u p (a.bind bootReport?)
  | .restart u => s.restartOutcome u a.isSome
  | .join u keep => s.joinOutcome u keep a.isSome
  | .verifyRequest u => s.verifyRequestOutcome u a.isSome
  | .verifyPoll u => s.verifyPollOutcome u (a.bind verifyReport?)
  | .contextPoll u => s.pollOutcome u (a.bind contextReport?)
  | .window _ | .contextSequence _ => s

/-- The wait for a member's answer within a window part ends: the outcome is recorded, and the next ANSWER_REQ is sent
or the part ends (R141). -/
def State.partAnswer (s : State) (x : Seg) (f : InFlight) (a : Option AnswerBody) : State :=
  let record (w : Window) : Window := match f.frame.unit with
    | some u => w.record u (windowAnswer a)
    | none => w
  let s := { s with seng := s.seng.map record }
  match f.todo with
  | o :: rest => s.onLink x (·.send f.exchange o rest)
  | [] => ((s.onLink x (·.endExchange)).endPart x).settled

/-- The wait for a frame's answer within a context sequence ends: an ACK sends the next frame, COMMIT's answer or no
answer ends the sequence (R85). -/
def State.sequenceAnswer (s : State) (x : Seg) (f : InFlight) (u : UnitIx) (a : Option AnswerBody) : State :=
  match a, f.todo with
  | some .ack, o :: rest => s.onLink x (·.send f.exchange o rest)
  | _, _ => ((s.onLink x (·.endExchange)).contextOutcome u (a.bind contextAck?)).settled

/-- The wait for the frame in flight on segment `x` ends with an answer or none (R80, R84): a cut exchange ends with
nothing handed on (R90), a marked sequence whose COMMIT has not been sent is abandoned unevaluated (R86). -/
def State.waitEnded (s : State) (x : Seg) (a : Option AnswerBody) : State :=
  match (perGet s.links x).inFlight with
  | none => s
  | some f =>
    if f.cut then s.onLink x (·.endExchange)
    else if f.abandons then s.onLink x (·.abandon f.exchange)
    else match f.exchange with
      | .window _ => s.partAnswer x f a
      | .contextSequence u => s.sequenceAnswer x f u a
      | ex => ((s.onLink x (·.endExchange)).unitOutcome ex a).settled

/-! ### Frames -/

/-- The last byte of the frame in flight has been sent: an answered frame begins its wait with the answer timeout in
force; after a BLOCK frame the next frame follows, or the part ends (R80, R140). -/
def State.frameSent (s : State) (x : Seg) : State :=
  match (perGet s.links x).inFlight with
  | none => s
  | some f =>
    if f.phase ≠ .sending then s
    else if f.frame.body.wantsAnswer then
      s.onLink x fun l =>
        { l with inFlight := some { f with phase := .waiting s.tick s.timing.answer } }
    else match f.todo with
      | o :: rest => s.onLink x (·.send f.exchange o rest)
      | [] => ((s.onLink x (·.endExchange)).endPart x).settled

/-- Bytes received so far are discarded: at a byte pause, and where the answer has been taken, since what came after it came
while no frame awaited one (R79). -/
def State.clearSegRx (s : State) (x : Seg) : State :=
  s.onLink x fun l => { l with rx := [] }

/-- The link waits, and its answer timeout has passed (R80). -/
def State.timedOut (s : State) (x : Seg) : Bool :=
  (perGet s.links x).wait?.any fun w => decide (w.2 ≤ s.since w.1)

/-- A frame is being received: its first byte arrived before the answer timeout passed, so it is received to its end (R80). -/
def State.hears (s : State) (x : Seg) : Bool :=
  !(perGet s.links x).rx.isEmpty

/-- A received frame has been discarded, at its end where it fails a test or at a byte pause, and the wait goes on; it ends
with no answer if the timeout has passed and no further frame was begun before it did (R79, R80; log entry 34 for the pause).
The frame's last byte has emptied the receive buffer in `State.hearSegmentByte`, so that what the buffer holds is of the next
frame (log entry 3). -/
def State.frameDiscarded (s : State) (x : Seg) : State :=
  if s.timedOut x && !s.hears x then s.waitEnded x none else s

/-! ### Commands -/

/-- SEGMENT_FRAME_SENT (R81). -/
def execSegmentFrameSent (x : Seg) (s : State) : Host.Outcome State Fault Refusal :=
  .next (if s.running then (s.frameSent x).finish else s)

/-- SEGMENT_ANSWER (R79): a frame that meets the tests ends the wait; any other is discarded. -/
def execSegmentAnswer (x : Seg) (a : AnswerFrame) (s : State) : Host.Outcome State Fault Refusal :=
  .next
    (if !s.running then s
    else if (perGet s.links x).accepts a then ((s.clearSegRx x).waitEnded x (some a.body)).finish
    else (s.frameDiscarded x).finish)

/-- ANSWER_TIMEOUT (R80): taken where a wait has lasted its timeout and no frame is being received; a frame begun decides
the wait at its end. -/
def execAnswerTimeout (x : Seg) (s : State) : Host.Outcome State Fault Refusal :=
  .next (if s.running && s.timedOut x && !s.hears x then (s.waitEnded x none).finish else s)

/-- SEGMENT_BYTE_PAUSE (R79, R80; log entry 34). -/
def execSegmentBytePause (x : Seg) (s : State) : Host.Outcome State Fault Refusal :=
  .next (if s.running then ((s.clearSegRx x).frameDiscarded x).finish else s)

/-- POLL_TIMER_DUE (R88). -/
def execPollTimerDue (u : UnitIx) (s : State) : Host.Outcome State Fault Refusal :=
  .next (if s.running then (s.pollTimerDue u).finish else s)

/-- SEGMENT_FRAME_DISCARDED (R79). -/
def execSegmentFrameDiscarded (x : Seg) (s : State) : Host.Outcome State Fault Refusal :=
  .next (if s.running then (s.frameDiscarded x).finish else s)

end Sys2Proof.Machine
end

