-- ==== Sys2Proof/Machine/UnitRequests.lean ====
section
/-! DEFINITION. The requests that name units: DEFINE_UNIT, REMOVE_UNIT, FORCE_RESTORE, ISOLATE, ADMIT, RESOLVE,
RELEASE_UNIT (04, R168, R178, R179). -/

namespace Sys2Proof.Machine

/-! ### DEFINE_UNIT (R56, R57) -/

/-- What a definition carries, once its coded fields are read (R56). -/
structure Definition where
  unit : UnitIx
  decl : UnitDef
deriving DecidableEq, Repr

/-- The level: a number, or the class default for DEFAULT (R55). -/
def levelOf? (c : UnitClass) (n : Nat) : Option Nat :=
  if n = wordByte then some c.defaultLevel else if n ≤ 7 then some n else none

/-- The field checks 1 to 6: the definition, or the number of the first field that fails (R56). -/
def definitionOf (p : List Byte) : Except Nat Definition :=
  match unitIx? (u8 p 0), seg? (u8 p 1), class? (u8 p 3), slotIx? (u8 p 4) with
  | none, _, _, _ => .error 1
  | _, none, _, _ => .error 2
  | some u, some x, c?, k? =>
    if !(decide (1 ≤ u8 p 2 ∧ u8 p 2 ≤ 30)) then .error 3
    else match c?, k? with
      | none, _ => .error 4
      | _, none => .error 5
      | some c, some k =>
        match levelOf? c (u8 p 5) with
        | none => .error 6
        | some l => .ok ⟨u, ⟨x, u8 p 2, c, k, l⟩⟩

/-- The other defined units of segment `x`. -/
def State.othersOn (s : State) (u : UnitIx) (x : Seg) : List UnitIx :=
  allUnits.filter fun v => v != u && (s.unit v).any fun e => e.decl.seg == x

/-- Another unit of the segment has the address (R56, check 8). -/
def State.addressTaken (s : State) (d : Definition) : Bool :=
  (s.othersOn d.unit d.decl.seg).any fun v => (s.unit v).any fun e => e.decl.addr == d.decl.addr

/-- The entry is EMPTY, ISOLATED or FAILED (R56, check 7). -/
def State.definable (s : State) (u : UnitIx) : Bool :=
  (s.unit u).all fun e => e.state == .isolated || e.state == .failed

/-- An accepted definition: the entry DARK and fresh, its flags out of the unreported set, its context record EMPTY, and
PROBE entered where the entry rule allows (R57, R61). -/
def State.define (s : State) (d : Definition) : State :=
  State.enterProbe
    { s with
      units := s.units.set d.unit.val (some (.fresh d.decl s.timing.maxWindow))
      ctxs := s.ctxs.set d.unit.val .blank
      cflu := s.cflu.forgetUnit d.unit (BitVec.allOnes 13) } d.unit

/-- DEFINE_UNIT's own work (R56, R57). -/
def State.defineWork (s : State) (p : List Byte) : Answer :=
  match definitionOf p with
  | .error n => refuse s (.outOfRange n)
  | .ok d =>
    if !s.definable d.unit then refuse s (s.stateRefusal (some d.unit))
    else if s.addressTaken d then refuse s .inUse
    else if 12 ≤ (s.othersOn d.unit d.decl.seg).length then
      refuse s (.full (s.othersOn d.unit d.decl.seg).length)
    else match (s.slot d.decl.slot).info? with
      | some i =>
        if i.cls ≠ d.decl.cls then refuse s (.mismatch (.slotClass i.cls))
        else okay (s.define d).settled (.level d.decl.level)
      | none => okay (s.define d).settled (.level d.decl.level)

/-- DEFINE_UNIT (R56). -/
def execDefineUnit (tag : Byte) (p : List Byte) (s : State) : Host.Outcome State Fault Refusal :=
  .next (s.request 0x06 tag false p (fixedNeed 6 p) fun s => s.defineWork p)

/-! ### REMOVE_UNIT (R58) -/

/-- The unit withdrawn, its entry and its context record EMPTY (R58, R65). -/
def State.remove (s : State) (u : UnitIx) : State :=
  let t := s.withdraw u
  { t with
    units := t.units.set u.val none
    ctxs := t.ctxs.set u.val .blank
    rsch := { t.rsch with marks := t.rsch.marks.filter (· != u) }
    cflu := t.cflu.forgetUnit u (BitVec.allOnes 13) }

/-- REMOVE_UNIT (R58). -/
def execRemoveUnit (tag : Byte) (p : List Byte) (s : State) : Host.Outcome State Fault Refusal :=
  .next (s.request 0x07 tag false p (fixedNeed 1 p) fun s =>
    s.onUnit p fun u _ => okay (s.remove u).settled .nothing)

/-! ### FORCE_RESTORE, ISOLATE, ADMIT (R66 to R68, R161) -/

/-- FORCE_RESTORE acts on units in LIVE, FAILED and HELD (R68). -/
def UnitState.forcible : UnitState → Bool
  | .live | .failed | .held => true
  | _ => false

/-- The record of a unit forced out of LIVE is frozen and aged (R161). -/
def State.freezeIfLive (s : State) (u : UnitIx) : State :=
  if s.unitIn u .live then s.freezeAndAge u else s

/-- One unit forced: withdrawn, retry count 0, running version absent, and PROBE entered by the entry rule (R68). -/
def State.force (s : State) (u : UnitIx) : State :=
  (((s.withdraw u).freezeIfLive u).modUnit u fun e => { e with retry := 0, running := none }).enterProbe u

/-- The units FORCE_RESTORE ALL acts on, in rising order (R68). -/
def State.forcibleUnits (s : State) : List UnitIx :=
  allUnits.filter fun u => (s.unit u).any fun e => e.state.forcible

/-- FORCE_RESTORE's own work (R68). -/
def State.forceWork (s : State) (p : List Byte) : Answer :=
  if u8 p 0 = wordByte then
    okay (s.forcibleUnits.foldl State.force s).settled (.acted s.forcibleUnits.length)
  else s.onUnit p fun u e =>
    if e.state.forcible then okay (s.force u).settled .nothing else refuse s (s.stateRefusal (some u))

/-- FORCE_RESTORE (R68). -/
def execForceRestore (tag : Byte) (p : List Byte) (s : State) : Host.Outcome State Fault Refusal :=
  .next (s.request 0x20 tag false p (fixedNeed 1 p) fun s => s.forceWork p)

/-- ISOLATE's own work (R66). -/
def State.isolateWork (s : State) (p : List Byte) : Answer :=
  s.onUnit p fun u e =>
    if e.state = .isolated then refuse s (s.stateRefusal (some u))
    else okay ((s.withdraw u).move u .isolated id).settled .nothing

/-- ISOLATE (R66). -/
def execIsolate (tag : Byte) (p : List Byte) (s : State) : Host.Outcome State Fault Refusal :=
  .next (s.request 0x21 tag false p (fixedNeed 1 p) fun s => s.isolateWork p)

/-- An ISOLATED unit admitted: DARK with retry count 0, its record frozen and aged, and PROBE entered by the entry rule
(R67, R161). That an ADMIT taken in GAP or SETTLE freezes and ages at once too is DEDUCED: log entry 42. -/
def State.readmit (s : State) (u : UnitIx) : State :=
  ((s.move u .dark fun e => { e with retry := 0 }).freezeAndAge u).enterProbe u

/-- ADMIT's own work (R67). -/
def State.admitWork (s : State) (p : List Byte) : Answer :=
  s.onUnit p fun u e =>
    if e.state = .isolated then okay (s.readmit u).settled .nothing else refuse s (s.stateRefusal (some u))

/-- ADMIT (R67). -/
def execAdmit (tag : Byte) (p : List Byte) (s : State) : Host.Outcome State Fault Refusal :=
  .next (s.request 0x22 tag false p (fixedNeed 1 p) fun s => s.admitWork p)

/-! ### RESOLVE (R178, R179) -/

/-- A HELD unit's way into WAIT or CONTEXT by `go`; on a DOWN segment it goes to DARK instead (R179). -/
def State.unlessDown (s : State) (u : UnitIx) (e : UnitEntry) (go : State → State) : State :=
  if s.usable e.decl.seg then go s else s.move u .dark id

/-- PROCEED makes the pending condition's default action (R179). -/
def State.proceed (s : State) (u : UnitIx) (e : UnitEntry) : State :=
  match e.pending with
  | none => s
  | some .linkTest =>
    let p := e.linkTestAttempt.getD 0 + 1
    s.fault u fun s => s.enterProbeWith u ⟨.probing, p⟩ (.probe u p)
  | some .classMismatch | some .imageUnusable | some .retryExhausted => s.toFailed u
  | some .versionAhead => s.enterProbeWith u ⟨.restarting .ahead, 0⟩ (.restart u)
  | some .stackFull =>
    s.unlessDown u e fun s =>
      let t := s.move u .wait id
      ({ t with rsch := { t.rsch with marks := t.rsch.marks ++ [u] } } : State).join u
  | some .verifyMismatch => s.mismatchDefault u
  | some .contextUnknown => s.unlessDown u e fun s => (s.move u .context id).queueForm u .unknown
  | some .contextRefused => s.unlessDown u e fun s => (s.move u .context id).queueForm u (fallbackForm e.decl.cls)

/-- The action of a RESOLVE on a HELD unit (R178). -/
def State.resolveAs (s : State) (u : UnitIx) (e : UnitEntry) : ResolveAction → State
  | .proceed => s.proceed u e
  | .retry => (s.modUnit u fun e => { e with retry := 0 }).enterProbe u
  | .fail => s.toFailed u

/-- The unit's state for a reply; an entry that no longer is defined never occurs here. -/
def State.stateOf (s : State) (u : UnitIx) : UnitState :=
  ((s.unit u).map (·.state)).getD .dark

/-- RESOLVE's own work (R178; log entry 14): the reply carries the unit's state after the action. -/
def State.resolveWork (s : State) (p : List Byte) : Answer :=
  s.onUnit p fun u e =>
    if e.state ≠ .held then refuse s (s.stateRefusal (some u))
    else match action? (u8 p 1) with
      | none => refuse s (.outOfRange 2)
      | some a =>
        let t := (s.resolveAs u e a).settled
        okay t (.unitState (t.stateOf u))

/-- RESOLVE (R178). -/
def execResolve (tag : Byte) (p : List Byte) (s : State) : Host.Outcome State Fault Refusal :=
  .next (s.request 0x23 tag false p (fixedNeed 2 p) fun s => s.resolveWork p)

/-! ### RELEASE_UNIT (R69, R168) -/

/-- RELEASE_UNIT's own work (R168). -/
def State.releaseWork (s : State) (p : List Byte) : Answer :=
  s.onUnit p fun u e =>
    if e.state = .live ∧ e.restrained then okay (s.modUnit u fun e => { e with restrained := false }) .nothing
    else refuse s (s.stateRefusal (some u))

/-- RELEASE_UNIT (R168). -/
def execReleaseUnit (tag : Byte) (p : List Byte) (s : State) : Host.Outcome State Fault Refusal :=
  .next (s.request 0x24 tag false p (fixedNeed 1 p) fun s => s.releaseWork p)

end Sys2Proof.Machine
end

