-- ==== Sys2Proof/Machine/Dispatch.lean ====
section
/-! DEFINITION. Which meaning each command has: one arm per row of spec/opcode_table.json. -/

namespace Sys2Proof.Machine

def exec (i : Instr) (s : State) : Host.Outcome State Fault Refusal :=
  match i with
  | .powerApplied => Sys2Proof.Machine.execPowerApplied s
  | .resetLineAsserted => Sys2Proof.Machine.execResetLineAsserted s
  | .resetLineReleased => Sys2Proof.Machine.execResetLineReleased s
  | .monitorSample line hold a b c => Sys2Proof.Machine.execMonitorSample line hold a b c s
  | .lineComparatorSample line => Sys2Proof.Machine.execLineComparatorSample line s
  | .tick => Sys2Proof.Machine.execTick s
  | .settleExpiry => Sys2Proof.Machine.execSettleExpiry s
  | .segmentFrameSent x => Sys2Proof.Machine.execSegmentFrameSent x s
  | .segmentAnswer x frame => Sys2Proof.Machine.execSegmentAnswer x frame s
  | .answerTimeout x => Sys2Proof.Machine.execAnswerTimeout x s
  | .segmentBytePause x => Sys2Proof.Machine.execSegmentBytePause x s
  | .pollTimerDue u => Sys2Proof.Machine.execPollTimerDue u s
  | .verifyPollDue u => Sys2Proof.Machine.execVerifyPollDue u s
  | .verifyDeadline u => Sys2Proof.Machine.execVerifyDeadline u s
  | .arrayAccessDone => Sys2Proof.Machine.execArrayAccessDone s
  | .controlBytePause => Sys2Proof.Machine.execControlBytePause s
  | .controlFrameBad => Sys2Proof.Machine.execControlFrameBad s
  | .unknownKind kind tag => Sys2Proof.Machine.execUnknownKind kind tag s
  | .transmitDone => Sys2Proof.Machine.execTransmitDone s
  | .setMonitor tag p => Sys2Proof.Machine.execSetMonitor tag p s
  | .setTiming tag p => Sys2Proof.Machine.execSetTiming tag p s
  | .setMasks tag p => Sys2Proof.Machine.execSetMasks tag p s
  | .setPermitEnable tag p => Sys2Proof.Machine.execSetPermitEnable tag p s
  | .setSegment tag p => Sys2Proof.Machine.execSetSegment tag p s
  | .defineUnit tag p => Sys2Proof.Machine.execDefineUnit tag p s
  | .removeUnit tag p => Sys2Proof.Machine.execRemoveUnit tag p s
  | .saveConfig tag p => Sys2Proof.Machine.execSaveConfig tag p s
  | .imageOpen tag p => Sys2Proof.Machine.execImageOpen tag p s
  | .imageData tag p => Sys2Proof.Machine.execImageData tag p s
  | .imageClose tag p => Sys2Proof.Machine.execImageClose tag p s
  | .imageErase tag p => Sys2Proof.Machine.execImageErase tag p s
  | .forceRestore tag p => Sys2Proof.Machine.execForceRestore tag p s
  | .isolate tag p => Sys2Proof.Machine.execIsolate tag p s
  | .admitUnit tag p => Sys2Proof.Machine.execAdmit tag p s
  | .resolve tag p => Sys2Proof.Machine.execResolve tag p s
  | .releaseUnit tag p => Sys2Proof.Machine.execReleaseUnit tag p s
  | .contextWrite tag p => Sys2Proof.Machine.execContextWrite tag p s
  | .clearFlags tag p => Sys2Proof.Machine.execClearFlags tag p s
  | .reset tag p => Sys2Proof.Machine.execReset tag p s
  | .queryStatus tag p => Sys2Proof.Machine.execQueryStatus tag p s
  | .queryMonitor tag p => Sys2Proof.Machine.execQueryMonitor tag p s
  | .queryUnit tag p => Sys2Proof.Machine.execQueryUnit tag p s
  | .querySlot tag p => Sys2Proof.Machine.execQuerySlot tag p s
  | .queryStreams tag p => Sys2Proof.Machine.execQueryStreams tag p s
  | .queryContext tag p => Sys2Proof.Machine.execQueryContext tag p s
  | .powerLoss => Sys2Proof.Machine.execPowerLoss s
  | .segmentFrameDiscarded x => Sys2Proof.Machine.execSegmentFrameDiscarded x s
  | .replyKindFrameDiscarded kind tag => Sys2Proof.Machine.execReplyKindFrameDiscarded kind tag s

end Sys2Proof.Machine
end

