-- ==== Sys2Proof/Machine/Frames.lean ====
section
/-! DEFINITION. Frames byte by byte: how received bytes are assembled and tested on the control link and on a segment line,
the command that a whole frame comes as, and the bytes of the frames the part sends (R79, R190, R193, R203 to R206). -/

namespace Sys2Proof.Config

/-- Free value: the bytes after the status of a reply, for the statuses whose bytes the spec names without width or code
(R193; log entry 28). -/
opaque replyDetail : Machine.Status → List Byte

end Sys2Proof.Config

namespace Sys2Proof.Machine

/-! ### Assembly (R79, R190) -/

/-- What tells one link's frames from the other's: the sync byte, the number of bytes before the payload, the offset of the
two length bytes, and the largest payload length. -/
structure FrameLayout where
  sync : Byte
  header : Nat
  lengthAt : Nat
  limit : Nat
deriving DecidableEq, Repr

/-- A control link frame: sync, length, kind, tag, payload, CRC-16 (R203). -/
def controlLayout : FrameLayout where
  sync := 0xA5
  header := 5
  lengthAt := 1
  limit := 1060

/-- A segment frame: sync, address, kind, sequence, length, payload, CRC-16 (R205). -/
def segmentLayout : FrameLayout where
  sync := 0xC3
  header := 6
  lengthAt := 4
  limit := 1025

/-- What a received byte leads to: the frame goes on, ends as bad, or is whole with a correct CRC-16. -/
inductive Received where
  | waiting
  | bad
  | whole (frame : List Byte)
deriving DecidableEq, Repr

/-- The payload of a frame's bytes. -/
def FrameLayout.payload (l : FrameLayout) (frame : List Byte) : List Byte :=
  (frame.drop l.header).take (u16 frame l.lengthAt)

/-- The CRC-16 over everything between the sync byte and the CRC equals the last two bytes, high byte first (R203,
R205). -/
def FrameLayout.crcAgrees (l : FrameLayout) (frame : List Byte) : Bool :=
  let ends := l.header + u16 frame l.lengthAt
  be16 (crc16 ((frame.take ends).drop 1)) == frame.drop ends

/-- A byte received after the sync byte: the bytes so far with it, which may end the frame (R190). That a segment frame with
a length above 1,025 ends as bad at its length bytes, as R190 says of a control frame, is a DESIGN CHOICE: log entry 39. -/
def FrameLayout.extend (l : FrameLayout) (frame : List Byte) : List Byte × Received :=
  if frame.length < l.lengthAt + 2 then (frame, .waiting)
  else if l.limit < u16 frame l.lengthAt then ([], .bad)
  else if frame.length < l.header + u16 frame l.lengthAt + 2 then (frame, .waiting)
  else ([], if l.crcAgrees frame then .whole frame else .bad)

/-- One byte taken into a receive buffer: hunting for the sync byte with the buffer empty, then length, the further header
bytes and the payload, and the CRC (R190; R79 and R205 for a segment; log entry 3). -/
def FrameLayout.receive (l : FrameLayout) (rx : List Byte) (b : Byte) : List Byte × Received :=
  match rx with
  | [] => (if b = l.sync then [b] else [], .waiting)
  | _ :: _ => l.extend (rx ++ [b])

/-! ### The control link's frames as commands (R191, R206) -/

/-- The command that a whole frame of the control link comes as, by its kind: a request of the table of 11.3, a kind that
names none, or a kind of 0x80 or above (R191, checks 3 and 4). -/
def controlCommand (kind tag : Byte) (p : List Byte) : Instr :=
  match kind.toNat with
  | 0x01 => .setMonitor tag p
  | 0x02 => .setTiming tag p
  | 0x03 => .setMasks tag p
  | 0x04 => .setPermitEnable tag p
  | 0x05 => .setSegment tag p
  | 0x06 => .defineUnit tag p
  | 0x07 => .removeUnit tag p
  | 0x08 => .saveConfig tag p
  | 0x10 => .imageOpen tag p
  | 0x11 => .imageData tag p
  | 0x12 => .imageClose tag p
  | 0x13 => .imageErase tag p
  | 0x20 => .forceRestore tag p
  | 0x21 => .isolate tag p
  | 0x22 => .admitUnit tag p
  | 0x23 => .resolve tag p
  | 0x24 => .releaseUnit tag p
  | 0x25 => .contextWrite tag p
  | 0x26 => .clearFlags tag p
  | 0x27 => .reset tag p
  | 0x30 => .queryStatus tag p
  | 0x31 => .queryMonitor tag p
  | 0x32 => .queryUnit tag p
  | 0x33 => .querySlot tag p
  | 0x34 => .queryStreams tag p
  | 0x35 => .queryContext tag p
  | n => if n < 0x80 then .unknownKind kind tag else .replyKindFrameDiscarded kind tag

/-- The commands a received byte of the control link leads to. -/
def Received.controlCommands : Received → List Instr
  | .waiting => []
  | .bad => [.controlFrameBad]
  | .whole f => [controlCommand (f.getD 3 0) (f.getD 4 0) (controlLayout.payload f)]

/-- One byte arrives on LRX: it joins the receive buffer, and a frame it ends comes as a command at the end of the queue, with
the buffer empty for the very next byte; with the link off it is lost (R29, R190, R201; log entry 3). -/
def State.hearByte (s : State) (b : Byte) : State :=
  if s.linkOn then
    let r := controlLayout.receive s.clnk.rx b
    { s with clnk := { s.clnk with rx := r.1 }, pending := s.pending ++ r.2.controlCommands }
  else s

/-- Bytes arrive on LRX one after another. -/
def State.hearBytes (s : State) (bytes : List Byte) : State :=
  bytes.foldl State.hearByte s

/-! ### A segment line's frames as commands (R79, R205, R206) -/

/-- What a unit's frame carries, by its kind and payload: ACK, and WINDOW_ANSWER as R205 lays it out; the layout of the
others is not given, so their content is free but for its kind, and a kind that is none of a unit's carries nothing (R206;
log entry 28). DESIGN CHOICE, log entry 40: the other bits of a WINDOW_ANSWER's flag byte and the payload of an ACK are not
read, and a WINDOW_ANSWER of another length than three bytes has free content. -/
def answerBody? (kind : Byte) (p : List Byte) : Option AnswerBody :=
  match kind.toNat, p with
  | 0x80, _ => some .ack
  | 0x82, [start, flags, count] =>
    some (.windowAnswer
      { start := start, err := flags.getLsbD 0, busy := flags.getLsbD 1, noburst := flags.getLsbD 2, count := count })
  | _, p => (Config.reportContent kind p).filter fun b => answerKind b == kind

/-- The commands a received byte of segment `x` leads to: a whole frame is tested against the frame that awaits an answer by
SEGMENT_ANSWER, and one whose kind is no unit's is discarded (R79, R206). -/
def Received.segmentCommands (x : Seg) : Received → List Instr
  | .waiting => []
  | .bad => [.segmentFrameDiscarded x]
  | .whole f =>
    match answerBody? (f.getD 2 0) (segmentLayout.payload f) with
    | some body => [.segmentAnswer x ⟨f.getD 1 0, f.getD 3 0, body⟩]
    | none => [.segmentFrameDiscarded x]

/-- One byte arrives on SRX_x: discarded while no frame awaits an answer, and where none is being received when the answer
timeout has passed; else taken into the segment's receive buffer (R79, R80; log entry 3). -/
def State.hearSegmentByte (s : State) (x : Seg) (b : Byte) : State :=
  let l := perGet s.links x
  if s.running && l.wait?.isSome && (s.hears x || !s.timedOut x) then
    let r := segmentLayout.receive l.rx b
    { s with links := perSet s.links x { l with rx := r.1 }, pending := s.pending ++ r.2.segmentCommands x }
  else s

/-! ### The bytes the part sends (R193, R203) -/

/-- The bytes after the status in a reply, as the status fixes them: none for an OK reply whose request has no result. Those
of STATE, FULL, MISMATCH and of an OK reply's result have no stated width or code: free bytes, at most the 1,059 that a payload
of 1,060 leaves after the status (R193, R203; log entry 28). -/
def Status.detail : Status → List Byte
  | .busy kind tag => [kind, tag]
  | .unknownKind | .inUse | .ok .nothing => []
  | .badLength need => be16 need
  | .outOfRange field => [BitVec.ofNat 8 field]
  | .notDefined u => [BitVec.ofNat 8 u.val]
  | st => (Config.replyDetail st).take 1059

/-- A reply's payload: the status is its first byte (R191, R203). -/
def Reply.payload (r : Reply) : List Byte :=
  r.status.code :: r.status.detail

/-- A reply's frame: the request's kind plus 0x80, its tag unchanged, the payload (R191, R203, R206). -/
def Reply.frame (r : Reply) : List Byte :=
  controlFrame r.frameKind r.tag r.payload

/-- The frame that the transmitter is sending on LTX (R194). -/
def State.sending? (s : State) : Option (List Byte) :=
  match s.clnk.tx with
  | none => none
  | some .reply => s.clnk.owed.head?.map Reply.frame
  | some (.notice device units) => some (noticeFrame device units)

end Sys2Proof.Machine
end

