-- ==== Sys2Proof/WellFormed.lean ====
section
/-! DEFINITION. The checks a command meets before it can be what its row says it is. -/

namespace Sys2Proof

/-- A frame's payload is at most 1,060 bytes; a longer one ends the frame as bad (R190). -/
def Instr.payloadFits (i : Instr) : Bool :=
  decide (i.payload.length ≤ 1060)

/-- UNKNOWN_KIND stands for a kind below 0x80 that names no request, REPLY_KIND_FRAME_DISCARDED for a kind of 0x80 or
above (R191). -/
def Instr.kindFits : Instr → Bool
  | .unknownKind kind _ => decide (kind.toNat < 0x80) && !requestKinds.contains kind
  | .replyKindFrameDiscarded kind _ => decide (0x80 ≤ kind.toNat)
  | _ => true

/-- A command is well formed when its payload and its kind byte fit its row. -/
def Instr.wellFormed (i : Instr) : Bool :=
  i.payloadFits && i.kindFits

end Sys2Proof
end

