-- ==== Sys2Proof/Safety.lean ====
section
/-! DEFINITION. What counts as a safe state of the part: the laws of the device that every step keeps; what a link that
takes requests is; when a link holds an exchange; and the two frames within which commands stay. In the terms that claims use. -/

namespace Sys2Proof

/-! ### Requests as commands -/

/-- The tag a request carries (R191). -/
def Instr.tag : Instr → Byte
  | .setMonitor g _ | .setTiming g _ | .setMasks g _ | .setPermitEnable g _ | .setSegment g _ | .defineUnit g _
  | .removeUnit g _ | .saveConfig g _ | .imageOpen g _ | .imageData g _ | .imageClose g _ | .imageErase g _
  | .forceRestore g _ | .isolate g _ | .admitUnit g _ | .resolve g _ | .releaseUnit g _ | .contextWrite g _
  | .clearFlags g _ | .reset g _ | .queryStatus g _ | .queryMonitor g _ | .queryUnit g _ | .querySlot g _
  | .queryStreams g _ | .queryContext g _ => g
  | .unknownKind _ g | .replyKindFrameDiscarded _ g => g
  | _ => 0

/-- The six queries (table of 11.3). -/
def Instr.isQuery : Instr → Bool
  | .queryStatus .. | .queryMonitor .. | .queryUnit .. | .querySlot .. | .queryStreams .. | .queryContext .. => true
  | _ => false

/-- The payload length of the request kinds whose length is fixed (R204). -/
def Instr.fixedLength? : Instr → Option Nat
  | .setMonitor .. => some 20
  | .setTiming .. => some 13
  | .setMasks .. => some 5
  | .setPermitEnable .. => some 2
  | .setSegment .. => some 3
  | .defineUnit .. => some 6
  | .removeUnit .. => some 1
  | .saveConfig .. => some 0
  | .imageOpen .. => some 11
  | .imageClose .. => some 1
  | .imageErase .. => some 1
  | .forceRestore .. => some 1
  | .isolate .. => some 1
  | .admitUnit .. => some 1
  | .resolve .. => some 2
  | .releaseUnit .. => some 1
  | .reset .. => some 0
  | .queryStatus .. => some 0
  | .queryMonitor .. => some 0
  | .queryUnit .. => some 1
  | .querySlot .. => some 1
  | .queryStreams .. => some 0
  | .queryContext .. => some 1
  | _ => none

end Sys2Proof

namespace Sys2Proof.Machine

/-! ### Laws -/

/-- The image array's contents are in their one canonical form (R38). -/
def State.MemoryLaw (s : State) : Prop :=
  Memory.wf s.ims.mem

/-- Every sample in every filter window lies in 0..4,095 (R2, R3). -/
def State.WindowLaw (s : State) : Prop :=
  (∀ v ∈ s.smon.winLine, v ≤ 4095) ∧ (∀ v ∈ s.smon.winHold, v ≤ 4095) ∧
    ∀ x, ∀ v ∈ perGet s.smon.winSense x, v ≤ 4095

/-- The conditions under which segment `x`'s permit output may be energized (R170): SUPPLIED or RESTORE, the enable on,
and every DOOR or RAMP unit of the segment ISOLATED or LIVE without restraint. -/
def State.PermitConditions (s : State) (x : Seg) : Prop :=
  (s.gapc.state = .supplied ∨ s.gapc.state = .restore) ∧ perGet s.perm.enable x = true ∧
    ∀ u e, s.unit u = some e → e.decl.seg = x → (e.decl.cls = .door ∨ e.decl.cls = .ramp) →
      e.state = .isolated ∨ (e.state = .live ∧ e.restrained = false)

/-- A permit output is energized exactly while the part has power, the RESET line is not held low, and the output's
conditions hold (R37, R170). -/
def State.PermitLaw (s : State) : Prop :=
  ∀ x, perGet s.perm.output x = true ↔ s.powered = true ∧ s.resetLow = false ∧ s.PermitConditions x

/-- ALERT is asserted exactly while CFLU runs and some set device flag is enabled in the ALERT mask (R19, R185). -/
def State.AlertLaw (s : State) : Prop :=
  s.cflu.alert = true ↔
    s.powered = true ∧ s.resetLow = false ∧ s.gapc.state ≠ .lost ∧
      ∃ i, i < 17 ∧ s.cflu.device.getLsbD i = true ∧ s.cflu.alertMask.getLsbD i = true

/-- The stream records: the active one, then the suspended ones from the top of the stack (R113). -/
def State.records (s : State) : List StreamRecord :=
  s.rsch.active.toList ++ s.rsch.stack

/-- The suspension stack holds at most 4 records, and no two records, active or suspended, have one slot (R113). -/
def State.StackLaw (s : State) : Prop :=
  s.rsch.stack.length ≤ 4 ∧ (s.records.map (·.slot)).Nodup

/-- At most 4 replies are owed (R194). -/
def State.OwedLaw (s : State) : Prop :=
  s.clnk.owed.length ≤ 4

/-- A link that is not HALTED has its segment usable and the gap controller in SUPPLIED or RESTORE (R78). -/
def State.LinkLaw (s : State) : Prop :=
  ∀ x, (perGet s.links x).halted = false →
    s.usable x = true ∧ (s.gapc.state = .supplied ∨ s.gapc.state = .restore)

/-- The slot of a stream record is VALID with the record's length (R41, R133), and every block a member owes is below that
length (R114). -/
def State.StreamLaw (s : State) : Prop :=
  ∀ r ∈ s.records, ∃ i, s.slot r.slot = .valid i ∧ r.len = i.len ∧ ∀ m ∈ r.members, ∀ b ∈ m.owed, b < r.len

/-- A slot that is not EMPTY has a length of 1..128 blocks and its run inside the array, and no block belongs to two slots
(R38, R39). -/
def State.AllocationLaw (s : State) : Prop :=
  (∀ k i, (s.slot k).info? = some i → 1 ≤ i.len ∧ i.len ≤ 128 ∧ i.first + i.len ≤ 512) ∧
    ∀ j k i i', (s.slot j).info? = some i → (s.slot k).info? = some i' → j ≠ k →
      i.first + i.len ≤ i'.first ∨ i'.first + i'.len ≤ i.first

/-- The units that are members of the active record. -/
def State.activeUnits (s : State) : List UnitIx :=
  (s.rsch.active.toList.flatMap (·.members)).map (·.unit)

/-- The units that are members of suspended records. -/
def State.suspendedUnits (s : State) : List UnitIx :=
  (s.rsch.stack.flatMap (·.members)).map (·.unit)

/-- A unit is a member of the active record exactly in STREAM and of a suspended one exactly in SUSPENDED, of at most one
record and once (R112); outside SUPPLIED and RESTORE there is no record (R113). -/
def State.MembershipLaw (s : State) : Prop :=
  (s.activeUnits ++ s.suspendedUnits).Nodup ∧
    (∀ u, u ∈ s.activeUnits ↔ ∃ e, s.unit u = some e ∧ e.state = .stream) ∧
    (∀ u, u ∈ s.suspendedUnits ↔ ∃ e, s.unit u = some e ∧ e.state = .suspended) ∧
    (s.records ≠ [] → s.gapc.state = .supplied ∨ s.gapc.state = .restore)

/-- A window in flight is the active record's: of its slot, at its start and count; and every participant that is not IGNORED
is a member of that record, defined on the segment the window has it on (R112, R137, R146). -/
def State.FlightLaw (s : State) : Prop :=
  ∀ w, s.seng = some w → ∃ r, s.rsch.active = some r ∧ r.slot = w.slot ∧ r.window = some (w.start, w.count) ∧
    ∀ p ∈ w.participants, p.answer ≠ .ignored →
      (∃ m ∈ r.members, m.unit = p.unit) ∧ ∃ e, s.unit p.unit = some e ∧ e.decl.seg = p.seg

/-- The configured maximum window and every unit's capability lie in 1..8, and so does every record's window size, which no
joined member's capability is below (R54, R120). -/
def State.WidthLaw (s : State) : Prop :=
  (1 ≤ s.timing.maxWindow ∧ s.timing.maxWindow ≤ 8) ∧ (∀ u e, s.unit u = some e → 1 ≤ e.window ∧ e.window ≤ 8) ∧
    ∀ r ∈ s.records, (1 ≤ r.w ∧ r.w ≤ 8) ∧
      ∀ m ∈ r.members, ∀ e, s.unit m.unit = some e → e.joined = true → r.w ≤ e.window

/-- The link carries a part of the window in flight, to be ended with its last answer, or carries something else with a part
of at least one block queued behind it (R83, R139). -/
def Link.Parted (l : Link) : Prop :=
  ∃ f, l.inFlight = some f ∧
    ((∃ p, f.exchange = .window p) ∧ f.cut = false ∧ f.marked = false ∨
      (∃ p, Exchange.window p ∈ l.queue) ∧ ∀ p, Exchange.window p ∈ l.queue → p.blocks ≠ [])

/-- While the part runs: in SUPPLIED and RESTORE the link of a usable segment runs, and a unit in STREAM or SUSPENDED stands
on a usable segment (R78, R92, R115, R131); and a CARRYING window has a part that is not ENDED, and every segment with such a
part has its link running, with an exchange in flight: the part itself or one that the part waits behind (R138, R139, R145). -/
def State.CarryLaw (s : State) : Prop :=
  s.powered = true → s.resetLow = false →
    ((s.gapc.state = .supplied ∨ s.gapc.state = .restore) → ∀ x, s.usable x = true → (perGet s.links x).halted = false) ∧
      (∀ u e, s.unit u = some e → e.state = .stream ∨ e.state = .suspended → s.usable e.decl.seg = true) ∧
      ∀ w, s.seng = some w → w.phase = .carrying →
        (∃ x, perGet w.parts x ≠ .ended) ∧
          ∀ x, perGet w.parts x ≠ .ended → (perGet s.links x).halted = false ∧ (perGet s.links x).Parted

/-! ### Exchanges handed to a link -/

/-- The exchange has been handed to the link and has not ended: it is queued, or in flight and not cut (R82, R83, R90). -/
def Link.Holds (l : Link) (ex : Exchange) : Prop :=
  ex ∈ l.queue ∨ ∃ f, l.inFlight = some f ∧ f.exchange = ex ∧ f.cut = false

/-- Segment `x`'s link in `t` has the exchange that a step from `s` hands it, wherever it was running in `s`: a HALTED link
drops what it is handed (R82). -/
def State.Hands (s t : State) (x : Seg) (ex : Exchange) : Prop :=
  (perGet s.links x).halted = false → (perGet t.links x).Holds ex

/-- The units whose context polls a link holds, in flight first, then queued in the order in which they joined (R82, R88). -/
def Link.polls (l : Link) : List UnitIx :=
  (((l.inFlight.map (·.exchange)).toList ++ l.queue).filter Exchange.isPoll).filterMap Exchange.unit?

/-! ### Requests -/

/-- A complete frame is taken (R19, R191, checks 1 and 2): the link runs, no RESET request has been accepted, and fewer
than 4 replies are owed. -/
def State.Takes (s : State) : Prop :=
  (s.powered = true ∧ s.resetLow = false) ∧
    (s.gapc.state = .supplied ∨ s.gapc.state = .gap ∨ s.gapc.state = .settle ∨ s.gapc.state = .restore) ∧
    s.clnk.resetAccepted = false ∧ s.clnk.owed.length < 4

/-- A request that is no query is not answered BUSY (R191, check 6). -/
def State.TakesWork (s : State) : Prop :=
  s.Takes ∧ s.clnk.long = none

/-- The state with a frame taken and its reply owed (R191). -/
def State.replied (s : State) (kind tag : Byte) (st : Status) : State :=
  { s with clnk := { s.clnk with owed := s.clnk.owed ++ [⟨kind, tag, st⟩] } }

/-! ### After a reset -/

/-- Command `c` performs a reset at `s`: power applied; the RESET line released; the RESET reply's last byte sent; entry to
DEEP with a RESET accepted; and the way out of LOST (R32, R36, R37, R197). -/
def State.Resets (s : State) (c : Instr) : Prop :=
  c = .powerApplied ∨ (c = .resetLineReleased ∧ s.powered = true ∧ s.resetLow = true) ∨
    (c = .transmitDone ∧ s.clnk.tx = some .reply ∧ s.clnk.resetAccepted = true ∧ s.clnk.owed.length = 1) ∨
    ((∃ line hold a b d, c = .monitorSample line hold a b d) ∧ s.gapc.state = .gap ∧ s.clnk.resetAccepted = true) ∨
    ((∃ line, c = .lineComparatorSample line) ∧ s.gapc.state = .lost)

/-- The state a reset leaves, of a part with power and the RESET line high, given the gap count, the contexts and the flags
that the kind of reset gives: every block in its state after a reset, the settings and definitions those of the record or
the defaults, and the notice of the flags begun (R18, R36, R37, R52, R76, R95, R136, R154, R174, R184, R189, R201). -/
def State.afterReset (s : State) (count : Nat) (ctxs : Vector ContextRecord 24) (flags : BitVec 17) : State :=
  let c := s.resetConfig
  let link (yieldOn : Bool) : Link :=
    { halted := true, seq := 0, queue := [], inFlight := none, lock := none, yieldOn := yieldOn, rx := [] }
  let normal : ClassState := { current := .normal, candidate := none, count := 0 }
  { s with
    tick := 0
    gapc :=
      { state := .gap, start := 0, durUnknown := true, settleStart := none, settleTime := none, lastDuration := none,
        count := count, demand := false }
    smon :=
      { settings := c.monitor, senseOn := c.senseOn, winLine := [], winHold := [], winSense := ⟨[], [], []⟩, lineLost := 0,
        lineBack := 0, holdDeep := 0, holdExhausted := 0, classes := ⟨normal, normal, normal⟩, cmpRef := none }
    ims :=
      { s.ims with
        slots := Vector.ofFn fun k : SlotIx => match s.slot k with
          | .loading i _ _ => .damaged i .interrupted
          | v => v
        port := none }
    units := s.loadUnits c
    rsch := { active := none, stack := [], marks := [] }
    seng := none
    links := ⟨link c.yieldOn.a, link c.yieldOn.b, link c.yieldOn.c⟩
    ctxs := ctxs
    perm := { enable := c.permitOn, output := ⟨false, false, false⟩ }
    cflu :=
      { respOpen := c.respOpen, alertMask := c.alertMask, device := flags, unrepDevice := 0,
        unrepUnits := Vector.replicate 24 0, alert := flags &&& c.alertMask != 0 }
    clnk :=
      { rx := [], owed := [], tx := some (.notice flags []), long := none, resetAccepted := false,
        cfgValid := s.resetValid, saved := false }
    timing := c.timing }

/-- The contexts a warm reset leaves: of a unit that is loaded again with its class, an EMPTY record as it is and any other
FROZEN with its age unknown, and every other record EMPTY (R174). -/
def State.keptContexts (s : State) : Vector ContextRecord 24 :=
  Vector.ofFn fun u : UnitIx =>
    match s.unit u, (s.loadUnits s.resetConfig)[u.val] with
    | some b, some e =>
      if b.decl.cls ≠ e.decl.cls then .blank
      else if (s.ctx u).validity = .empty then s.ctx u
      else { s.ctx u with validity := .frozen, ageUnknown := true }
    | _, _ => .blank

/-- The device flags a reset sets: the given ones, with CONFIG_DEFAULTED where the record is not valid (R189, R200). -/
def State.resetFlags (s : State) (flags : BitVec 17) : BitVec 17 :=
  if s.resetValid then flags else flags ||| BitVec.twoPow 17 13

/-! ### Frames -/

/-- The flags as an end of a command that leads from `s` to `t` sends them: the device flags of `t`, and of the unreported
set those of `s`, with PERMIT_CHANGE joined where a change of an output set it (R171, R183). -/
def State.reporting (s t : State) : FlagUnit :=
  { t.cflu with
    unrepDevice :=
      if t.perm.output = s.perm.output ∨ s.cflu.device.getLsbD 12 = true then s.cflu.unrepDevice
      else s.cflu.unrepDevice ||| BitVec.twoPow 17 12
    unrepUnits := s.cflu.unrepUnits }

/-- What the end of a command moves, from `s` to `t`, and by which rules: an idle array port is granted to a requester that
waits (R50), each link is `s`'s link after its arbiter's step, which puts an exchange in flight where the link runs and carries
none (R83), the permit outputs and ALERT follow their laws with PERMIT_CHANGE set by a change (R171, R185), and an idle
transmitter of a link that is on begins the first owed reply, or, with none owed, a notice of the unreported set where that is
not empty, and empties it (R184, R194); else the unreported set is `s`'s, with PERMIT_CHANGE joined. Everything else of `t` is
as in `s`. -/
structure State.Ends (s t : State) : Prop where
  same : t =
    { s with
      ims := { s.ims with port := t.ims.port }
      links := t.links
      perm := { s.perm with output := t.perm.output }
      cflu :=
        { s.cflu with
          device := t.cflu.device
          unrepDevice := t.cflu.unrepDevice
          unrepUnits := t.cflu.unrepUnits
          alert := t.cflu.alert }
      clnk := { s.clnk with tx := t.clnk.tx } }
  permits : t.PermitLaw
  alert : t.AlertLaw
  change : t.cflu.device =
    if t.perm.output = s.perm.output then s.cflu.device else s.cflu.device ||| BitVec.twoPow 17 12
  port : s.ims.port ≠ none → t.ims.port = s.ims.port
  granted : s.ims.port = none → ∃ last, t.ims.port = nextRequester s.streamWaits s.longWaits last
  links : ∀ x, perGet t.links x = (perGet s.links x).arbitrate s.framesOf
  transmitter : s.clnk.tx ≠ none ∨ s.linkOn = false → t.clnk.tx = s.clnk.tx
  reply : s.clnk.tx = none → s.linkOn = true → s.clnk.owed ≠ [] → t.clnk.tx = some .reply
  unreported :
    if s.clnk.tx = none ∧ s.linkOn = true ∧ s.clnk.owed = [] ∧ (s.reporting t).allReported = false then
      t.clnk.tx = some (s.reporting t).notice ∧ t.cflu.unrepDevice = 0 ∧ t.cflu.unrepUnits = Vector.replicate 24 0
    else t.cflu.unrepDevice = (s.reporting t).unrepDevice ∧ t.cflu.unrepUnits = s.cflu.unrepUnits
  silent : s.clnk.tx = none → s.clnk.owed = [] → (s.reporting t).allReported = true → t.clnk.tx = none

/-- What a command of the restore band may change, from `s` to `t`: the gap state between SUPPLIED and RESTORE with the
demand as reported, the debounce counters with it, the array port, the unit table, the records, the window in flight, the
links, the contexts, the outputs and flags, the replies owed and the transmitter. Everything else of `t` is as in `s`: among it
the tick, the settings, the masks and enables, the slot table, the image array, the configuration record, the receive buffer
of the control link and the command queue. -/
def State.RestoreFrame (s t : State) : Prop :=
  t =
    { s with
      gapc := { s.gapc with state := t.gapc.state, demand := t.gapc.demand }
      smon :=
        { s.smon with
          lineLost := t.smon.lineLost
          lineBack := t.smon.lineBack
          holdDeep := t.smon.holdDeep
          holdExhausted := t.smon.holdExhausted }
      ims := { s.ims with port := t.ims.port }
      units := t.units
      rsch := t.rsch
      seng := t.seng
      links := t.links
      ctxs := t.ctxs
      perm := { s.perm with output := t.perm.output }
      cflu :=
        { s.cflu with
          device := t.cflu.device
          unrepDevice := t.cflu.unrepDevice
          unrepUnits := t.cflu.unrepUnits
          alert := t.cflu.alert }
      clnk := { s.clnk with owed := t.clnk.owed, tx := t.clnk.tx } }

/-- The scheduler's own work moves units in WAIT, STREAM and SUSPENDED alone (R112 to R129): every other unit but `u` is
the same in `t` as in `s`. -/
def State.SparesOthers (s t : State) (u : UnitIx) : Prop :=
  ∀ v, v ≠ u → (∀ e, s.unit v = some e → e.state ≠ .wait ∧ e.state ≠ .stream ∧ e.state ≠ .suspended) →
    t.unit v = s.unit v

end Sys2Proof.Machine
end

