-- ==== Sys2Proof/Certificates/Slice0/Obligations.lean ====
section
/-! DEFINITION. The statements for the provers: the queue, the laws that every step keeps, the rules of the shared
computations, and for every command where it completes and with what effect. -/

section

open Sys2Proof Sys2Proof.Machine

/-! ### The queue -/

/-- A step runs the command at the front of the queue with the queue's rest, and no command changes the queue, so that the
rest stands after the step (log entry 2). -/
def Obligations.StepRunsTheFrontCommand : Prop :=
  (∀ (c : Instr) (rest : List Instr) (s : State), s.pending = c :: rest → step s = exec c { s with pending := rest }) ∧
    ∀ (c : Instr) (s t : State), exec c s = .next t → t.pending = s.pending

/-! ### Laws that every step keeps -/

/-- The image array keeps its canonical form, and every sample in every filter window stays in 0..4,095 (R2, R3, R38). -/
def Obligations.EveryStepKeepsMemoryAndWindowLaw : Prop :=
  ∀ s t : State, step s = .next t → (s.MemoryLaw → t.MemoryLaw) ∧ (s.WindowLaw → t.WindowLaw)

/-- A permit output stays energized exactly while R170's conditions hold. -/
def Obligations.EveryStepKeepsPermitLaw : Prop :=
  ∀ s t : State, s.PermitLaw → step s = .next t → t.PermitLaw

/-- The suspension stack and the owed-reply list stay within 4, and no two records have one slot (R113, R194). -/
def Obligations.EveryStepKeepsStackAndOwedLaw : Prop :=
  ∀ s t : State, s.StackLaw → s.OwedLaw → step s = .next t → t.StackLaw ∧ t.OwedLaw

/-- ALERT stays asserted exactly while a set device flag is enabled and CFLU runs, and a link that runs keeps its segment
usable and the gap controller in SUPPLIED or RESTORE (R78, R185). -/
def Obligations.EveryStepKeepsAlertAndLinkLaw : Prop :=
  ∀ s t : State, step s = .next t → (s.AlertLaw → t.AlertLaw) ∧ (s.LinkLaw → t.LinkLaw)

/-- A stream record keeps a VALID slot of its length, and its members owe blocks below that length (R41, R114, R133). -/
def Obligations.EveryStepKeepsStreamLaw : Prop :=
  ∀ s t : State, s.StreamLaw → step s = .next t → t.StreamLaw

/-- The slots' runs stay inside the array and apart (R38, R39, R44). -/
def Obligations.EveryStepKeepsAllocationLaw : Prop :=
  ∀ s t : State, s.AllocationLaw → step s = .next t → t.AllocationLaw

/-- With no two records of one slot, STREAM and SUSPENDED units stay exactly the members of the records, each of one; and a
window in flight stays the active record's, its participants that are not IGNORED members of that record. With these, and a
link that runs on a usable segment, the link of a usable segment stays running in SUPPLIED and RESTORE, STREAM and SUSPENDED
units stay on usable segments, and a CARRYING window keeps a part that has not ended, each such part in flight on its link or
behind the exchange in flight there (R78, R112, R113, R137, R138, R139, R146). -/
def Obligations.EveryStepKeepsMembershipFlightAndCarryLaw : Prop :=
  ∀ s t : State, s.StackLaw → s.MembershipLaw → step s = .next t →
    t.MembershipLaw ∧ (s.FlightLaw → t.FlightLaw ∧ (s.LinkLaw → s.CarryLaw → t.CarryLaw))

/-- A record's window size stays between 1 and 8 and no more than its joined members' capabilities (R120). -/
def Obligations.EveryStepKeepsWidthLaw : Prop :=
  ∀ s t : State, s.WidthLaw → step s = .next t → t.WidthLaw

/-- The state after the first cold start meets every law (log entry 20). -/
def Obligations.ResetMeetsTheLaws : Prop :=
  State.reset.MemoryLaw ∧ State.reset.WindowLaw ∧ State.reset.PermitLaw ∧ State.reset.AlertLaw ∧ State.reset.StackLaw ∧
    State.reset.OwedLaw ∧ State.reset.LinkLaw ∧ State.reset.StreamLaw ∧ State.reset.AllocationLaw ∧
    State.reset.MembershipLaw ∧ State.reset.FlightLaw ∧ State.reset.CarryLaw ∧ State.reset.WidthLaw

/-! ### Rules over all commands -/

/-- TICK adds 1 to the counter, wrapping, in SUPPLIED, GAP, SETTLE and RESTORE and changes nothing else; in DEEP and LOST,
and while the part does not run, it changes nothing; and no other command moves the counter, but for one that performs a reset,
which sets it to 0 (R20). -/
def Obligations.OnlyTickAdvancesTheCounter : Prop :=
  (∀ s : State, s.powered = true → s.resetLow = false →
      (s.gapc.state = .supplied ∨ s.gapc.state = .gap ∨ s.gapc.state = .settle ∨ s.gapc.state = .restore) →
      exec .tick s = .next { s with tick := s.tick + 1 }) ∧
    (∀ s : State, s.powered = false ∨ s.resetLow = true ∨ s.gapc.state = .deep ∨ s.gapc.state = .lost →
      exec .tick s = .next s) ∧
    ∀ (c : Instr) (s t : State), exec c s = .next t → c ≠ .tick →
      t.tick = s.tick ∨ s.Resets c ∧ t.tick = 0 ∧ t.gapc = GapCtl.initial t.gapc.count

/-- While no access of a long request is in progress, no command changes the image array or the configuration record
(R50, R51, R199). -/
def Obligations.ArrayAndRecordChangeOnlyByLongAccesses : Prop :=
  ∀ (c : Instr) (s t : State), exec c s = .next t → s.ims.port ≠ some .longRequest →
    t.ims.mem = s.ims.mem ∧ t.cfgr = s.cfgr

/-- Each setting changes by its own request alone, or by a command that performs a reset (R14, R15, R87, R171, R186,
R195). -/
def Obligations.SettingsChangeOnlyByTheirRequests : Prop :=
  ∀ (c : Instr) (s t : State), exec c s = .next t →
    s.Resets c ∧ t.tick = 0 ∧ t.gapc = GapCtl.initial t.gapc.count ∨
      (t.smon.settings = s.smon.settings ∨ ∃ tag p, c = .setMonitor tag p) ∧
        (t.timing = s.timing ∨ ∃ tag p, c = .setTiming tag p) ∧
        (t.cflu.respOpen = s.cflu.respOpen ∧ t.cflu.alertMask = s.cflu.alertMask ∨ ∃ tag p, c = .setMasks tag p) ∧
        (t.perm.enable = s.perm.enable ∨ ∃ tag p, c = .setPermitEnable tag p) ∧
        (t.smon.senseOn = s.smon.senseOn ∧ (∀ x, (perGet t.links x).yieldOn = (perGet s.links x).yieldOn) ∨
          ∃ tag p, c = .setSegment tag p)

/-! ### Shared computations -/

/-- The offset stage saturates the sum to 0..4,095, so that a window of corrected samples never holds another value, and a
channel whose corrected input sits at a limit reads that limit after filtering (R2). -/
def Obligations.OffsetStageSaturates : Prop :=
  (∀ (raw : Code) (off : Int),
      ((raw.toNat : Int) + off < 0 → corrected raw off = 0) ∧
        (4095 < (raw.toNat : Int) + off → corrected raw off = 4095) ∧
        (0 ≤ (raw.toNat : Int) + off ∧ (raw.toNat : Int) + off ≤ 4095 →
          (corrected raw off : Int) = (raw.toNat : Int) + off)) ∧
    corrected 4050 100 = 4095 ∧ corrected 20 (-50) = 0 ∧
    (∀ (n : Nat) (w : List Nat) (raw : Code) (off : Int), (∀ v ∈ w, v ≤ 4095) →
      (∀ v ∈ pushSample n w (corrected raw off), v ≤ 4095) ∧ filteredCode (pushSample n w (corrected raw off)) ≤ 4095) ∧
    ∀ (n : Nat) (raw : Code) (off : Int), 0 < n →
      (4095 ≤ (raw.toNat : Int) + off →
        filteredCode (pushSample n [] (corrected raw off)) = 4095 ∧
          filteredCode (pushSample n (List.replicate n 4095) (corrected raw off)) = 4095) ∧
        ((raw.toNat : Int) + off ≤ 0 →
          filteredCode (pushSample n [] (corrected raw off)) = 0 ∧
            filteredCode (pushSample n (List.replicate n 0) (corrected raw off)) = 0)

/-- Versions are compared major, minor, build, each unsigned, the first field that differs deciding; no version is
UNORDERED, and among well-formed reports only a blank BOOT unit's has none; with the six examples (R102). -/
def Obligations.VersionsCompareFieldByField : Prop :=
  (∀ v w : Version,
      (compareVersion (some v) w = .less ↔
        v.major < w.major ∨ v.major = w.major ∧ (v.minor < w.minor ∨ v.minor = w.minor ∧ v.build < w.build)) ∧
        (compareVersion (some v) w = .greater ↔
          w.major < v.major ∨ v.major = w.major ∧ (w.minor < v.minor ∨ v.minor = w.minor ∧ w.build < v.build)) ∧
        (compareVersion (some v) w = .equal ↔ v.major = w.major ∧ v.minor = w.minor ∧ v.build = w.build)) ∧
    (∀ (v : Option Version) (w : Version), compareVersion v w = .unordered ↔ v = none) ∧
    (∀ r : BootReport, reportWellFormed r = true → r.version = none → r.mode = some .boot ∧ r.held = some 0) ∧
    compareVersion (some ⟨2, 4, 310⟩) ⟨2, 4, 310⟩ = .equal ∧ compareVersion (some ⟨2, 4, 309⟩) ⟨2, 4, 310⟩ = .less ∧
    compareVersion (some ⟨2, 10, 0⟩) ⟨2, 4, 310⟩ = .greater ∧ compareVersion (some ⟨1, 255, 65535⟩) ⟨2, 4, 310⟩ = .less ∧
    compareVersion (some ⟨3, 0, 0⟩) ⟨2, 4, 310⟩ = .greater ∧ compareVersion none ⟨2, 4, 310⟩ = .unordered

/-- Placing the cursor from p: the smallest owed block at or above p, else the smallest owed block, else as it stands; and
nothing else of the record changes (R121). -/
def Obligations.CursorPlacement : Prop :=
  ∀ (r : StreamRecord) (p : Nat),
    let owed (b : Nat) : Prop := ∃ m ∈ r.members, b ∈ m.owed
    r.place p = { r with cursor := (r.place p).cursor } ∧
      (∀ b, owed b → p ≤ b → (∀ c, owed c → p ≤ c → b ≤ c) → (r.place p).cursor = b) ∧
      (∀ b, owed b → (∀ c, owed c → c < p) → (∀ c, owed c → b ≤ c) → (r.place p).cursor = b) ∧
      ((∀ b, ¬owed b) → (r.place p).cursor = r.cursor)

/-- An answer to the window [c, c + n) is read by the first line of R142's table that fits: no answer or malformed, ERR,
BUSY, NOBURST, count. -/
def Obligations.WindowAnswersAreReadInOrder : Prop :=
  (∀ (c n : Nat) (first : Bool), readAnswer c n first .noAnswer = ⟨0, true, false⟩) ∧
    ∀ (c n : Nat) (first : Bool) (a : WindowAnswer),
      (a.start.toNat ≠ c ∨ n < a.count.toNat → readAnswer c n first (.answered a) = ⟨0, true, false⟩) ∧
        (a.start.toNat = c → a.count.toNat ≤ n →
          (a.err = true → readAnswer c n first (.answered a) = ⟨0, true, false⟩) ∧
            (a.err = false → a.busy = true → readAnswer c n first (.answered a) = ⟨0, !first, false⟩) ∧
            (a.err = false → a.busy = false → a.noburst = true →
              readAnswer c n first (.answered a) = ⟨0, !first, first⟩) ∧
            (a.err = false → a.busy = false → a.noburst = false → 1 ≤ a.count.toNat →
              readAnswer c n first (.answered a) = ⟨a.count.toNat, false, false⟩) ∧
            (a.err = false → a.busy = false → a.noburst = false → a.count.toNat = 0 →
              readAnswer c n first (.answered a) = ⟨0, true, false⟩))

/-- First fit: f is the lowest block number from which L blocks in a row are available inside the array; and the FULL
reply's number is the length of the longest run of available blocks (R44). -/
def Obligations.FirstFitTakesTheLowestRun : Prop :=
  ∀ ok : Nat → Bool,
    let run (f len : Nat) : Prop := f + len ≤ 512 ∧ ∀ b, f ≤ b → b < f + len → ok b = true
    (∀ len f : Nat, 1 ≤ len → (firstFit ok len = some f ↔ run f len ∧ ∀ g, g < f → ¬run g len)) ∧
      (∀ len : Nat, 1 ≤ len → (firstFit ok len = none ↔ ∀ f, ¬run f len)) ∧
      ∀ n : Nat, n ≤ longestRun ok ↔ ∃ f, run f n

/-- What a capture stores. Of a reported list the first occurrences in order, and of these the first four; a position a
little above the stroke as the stroke; the stroke first, and position and obstruction position against the stroke then
stored; a field out of range keeps the stored value. The range flag is set exactly where a field failed, or a list lost a
number (R156, R157, R159; log entry 16 for a reversal count out of range where no obstruction part is stored). -/
def Obligations.CaptureStoresCheckedFields : Prop :=
  (∃ firsts : List (BitVec 16) → List (BitVec 16), firsts [] = [] ∧
      (∀ l n, firsts (l ++ [n]) = if n ∈ l then firsts l else firsts l ++ [n]) ∧
      ∀ l, storedList l = ((firsts l).take 4, decide (firsts l ≠ l ∨ 4 < (firsts l).length))) ∧
    storedList [7, 7, 12, 3, 9, 12, 40] = ([7, 12, 3, 9], true) ∧
    (∀ (stroke p : Nat) (old : Option Nat),
      storedPosition stroke none old = (none, false) ∧
        (p ≤ stroke → storedPosition stroke (some p) old = (some p, false)) ∧
        (stroke < p → p ≤ stroke + stroke / 64 → storedPosition stroke (some p) old = (some stroke, false)) ∧
        (stroke + stroke / 64 < p → storedPosition stroke (some p) old = (old, true))) ∧
    (∀ (c : DoorContent) (leaf : Option Leaf) (position : Option Nat) (stroke cycles : Nat) (part : Option (Nat × Nat)),
      let strokeOk : Prop := 1 ≤ stroke ∧ stroke ≤ 65535
      ∃ (c' : DoorContent) (flag : Bool),
        Content.store (.door c) (.door leaf position stroke cycles part) = (.door c', flag) ∧
          (strokeOk → c'.stroke = stroke) ∧ (¬strokeOk → c'.stroke = c.stroke) ∧ c'.leaf = leaf.getD c.leaf ∧
          c'.position = (storedPosition c'.stroke position c.position).1 ∧
          c'.cycles = (if cycles ≤ 16777215 then cycles else c.cycles) ∧ (part = none → c'.obstruction = none) ∧
          (∀ p n, part = some (p, n) →
            (c'.stroke < p → c'.obstruction = c.obstruction) ∧
              (p ≤ c'.stroke → n ≤ 15 → c'.obstruction = some ⟨p, n⟩) ∧
              (p ≤ c'.stroke → 15 < n → c'.obstruction = c.obstruction.map fun o => ⟨p, o.reversals⟩)) ∧
          (flag = true ↔
            leaf = none ∨ ¬strokeOk ∨ (storedPosition c'.stroke position c.position).2 = true ∨ 16777215 < cycles ∨
              ∃ p n, part = some (p, n) ∧ (c'.stroke < p ∨ 15 < n))) ∧
    (∀ (c : DisplayContent) (page route nextStop brightness : Nat) (l : List (BitVec 16)),
      Content.store (.display c) (.display page route nextStop brightness l) =
        (.display
          { page := if page ≤ 255 then page else c.page
            route := if route ≤ 9999 then route else c.route
            nextStop := if nextStop ≤ 127 then nextStop else c.nextStop
            brightness := if brightness ≤ 15 then brightness else c.brightness
            messages := (storedList l).1 },
         decide (255 < page ∨ 9999 < route ∨ 127 < nextStop ∨ 15 < brightness ∨ (storedList l).2 = true))) ∧
    ∀ (c : AnnounceContent) (volume : Nat) (l : List (BitVec 16)),
      Content.store (.announce c) (.announce volume l) =
        (.announce { volume := if volume ≤ 31 then volume else c.volume, queue := (storedList l).1 },
         decide (31 < volume ∨ (storedList l).2 = true))

/-- The arbiter of a running idle link takes the first entry in the order window part, context sequence, unit service,
poll, oldest first; it leaves the queue, and the sequence counter numbers its first frame. An exchange in flight is not
displaced (R79, R83, R85). -/
def Obligations.ArbiterTakesTheFirstInOrder : Prop :=
  ∀ (l : Link) (frames : Exchange → List OutFrame),
    (l.halted = true ∨ l.inFlight ≠ none ∨ l.queue = [] → l.arbitrate frames = l) ∧
      ∀ (before after : List Exchange) (ex : Exchange) (o : OutFrame) (rest : List OutFrame),
        l.halted = false → l.inFlight = none → l.queue = before ++ ex :: after → frames ex = o :: rest →
          (∀ q ∈ before, q ≠ ex ∧ q.isWindow = false) →
          (ex.isWindow = true ∨
            (∀ q ∈ l.queue, q.isWindow = false) ∧
              (ex.isSequence = true ∧ (∀ q ∈ before, q.isSequence = false) ∨
                (∀ q ∈ l.queue, q.isSequence = false) ∧
                  (ex.isService = true ∧ (∀ q ∈ before, q.isService = false) ∨
                    (∀ q ∈ l.queue, q.isService = false) ∧ before = []))) →
          l.arbitrate frames =
            { l with
              queue := before ++ after
              lock := if ex.isSequence then ex.unit? else l.lock
              seq := l.seq + 1
              inFlight := some
                { exchange := ex, frame := o, seq := l.seq, todo := rest, phase := .sending, cut := false,
                  marked := false } }

/-! ### Power, RESET line and resets -/

/-- The three resets' results while no array access of a long request is cut off: POWER_APPLIED is a cold start with
COLD_START; releasing RESET is a warm reset with WARM_RESET, which keeps the gap count and the contexts of units loaded
again, or, out of LOST, a cold start with CONTEXT_LOST (R32, R36, R37, R174, R189; log entries 19 and 22). -/
def Obligations.PowerAndResetLineRebuildThePart : Prop :=
  (∀ s : State, s.resetLow = false → s.ims.port ≠ some .longRequest →
      exec .powerApplied s =
        .next (({ s with powered := true } : State).afterReset 0 (Vector.replicate 24 ContextRecord.blank)
          (s.resetFlags 0x4000))) ∧
    (∀ s : State, s.powered = true → s.resetLow = true → s.ims.port ≠ some .longRequest → s.gapc.state ≠ .lost →
      exec .resetLineReleased s =
        .next (({ s with resetLow := false } : State).afterReset s.gapc.count s.keptContexts (s.resetFlags 0x8000))) ∧
    ∀ s : State, s.powered = true → s.resetLow = true → s.ims.port ≠ some .longRequest → s.gapc.state = .lost →
      exec .resetLineReleased s =
        .next (({ s with resetLow := false } : State).afterReset 0 (Vector.replicate 24 ContextRecord.blank)
          (s.resetFlags 0x4008))

/-- RESET held low, and the loss of power: the permit outputs, ALERT, the transmitter and the segment links fall; a loss of
power also ends the access in progress, the long request and a LOST (R32, R37, R95, R170, R185, R201). While a block write
of an IMAGE_DATA is in progress a loss of power leaves every byte outside that block as it was, and while a save's erase is in
progress it leaves a record that is not valid (R52, R199, R200). -/
def Obligations.OutputsFallWithoutPowerOrUnderReset : Prop :=
  (∀ s : State, exec .resetLineAsserted s = .next
      { s with
        resetLow := true
        perm := { s.perm with output := ⟨false, false, false⟩ }
        cflu := { s.cflu with alert := false }
        clnk := { s.clnk with tx := none, rx := [] }
        links := ⟨s.links.a.halt, s.links.b.halt, s.links.c.halt⟩ }) ∧
    (∀ s : State, s.ims.port ≠ some .longRequest → exec .powerLoss s = .next
      { s with
        powered := false
        gapc := { s.gapc with state := if s.gapc.state = .lost then .gap else s.gapc.state }
        ims := { s.ims with port := none }
        perm := { s.perm with output := ⟨false, false, false⟩ }
        cflu := { s.cflu with alert := false }
        clnk := { s.clnk with tx := none, rx := [], long := none }
        links := ⟨s.links.a.halt, s.links.b.halt, s.links.c.halt⟩ }) ∧
    (∀ (s : State) (kind tag : Byte) (muted : Bool) (c : ConfigData), s.ims.port = some .longRequest →
      s.clnk.long = some ⟨kind, tag, .saveErase c, muted⟩ →
      ∃ s', exec .powerLoss s = .next s' ∧ s'.resetValid = false ∧ s'.clnk.long = none ∧ s'.ims.mem = s.ims.mem) ∧
    ∀ (s : State) (kind tag : Byte) (muted : Bool) (k : SlotIx) (t : Nat) (data : List Byte) (i : SlotInfo),
      s.ims.port = some .longRequest → s.clnk.long = some ⟨kind, tag, .imageData k t data, muted⟩ →
        (s.slot k).info? = some i →
        ∃ s', exec .powerLoss s = .next s' ∧ s'.powered = false ∧ s'.clnk.long = none ∧ s'.cfgr = s.cfgr ∧
          s'.ims.slots = s.ims.slots ∧
          ∀ a, a < 1024 * (i.first + t) ∨ 1024 * (i.first + t) + 1024 ≤ a →
            Memory.read s'.ims.mem a = Memory.read s.ims.mem a

/-! ### Supply monitor and gap cycle -/

/-- A sample enters the LINE and HOLD windows, and the window of a SENSE channel whose enable is on and whose line is idle,
except in DEEP; the counter and the settings stand (R1, R2, R3, R12). -/
def Obligations.MonitorSampleFillsTheWindows : Prop :=
  ∀ (s : State) (line hold a b c : Code), s.powered = true → s.resetLow = false → s.gapc.state ≠ .lost →
    s.clnk.resetAccepted = false →
    let sense (x : Seg) : Code := match x with
      | .a => a
      | .b => b
      | .c => c
    let m := s.smon
    ∃ t, exec (.monitorSample line hold a b c) s = .next t ∧
      t.smon.winLine = pushSample m.settings.n m.winLine (corrected line m.settings.offLine) ∧
      t.smon.winHold = pushSample m.settings.n m.winHold (corrected hold m.settings.offHold) ∧
      (∀ x, perGet m.senseOn x = true → s.gapc.state ≠ .deep → (perGet s.links x).inFlight = none →
        perGet t.smon.winSense x =
          pushSample m.settings.n (perGet m.winSense x) (corrected (sense x) (perGet m.settings.offSense x))) ∧
      (∀ x, perGet m.senseOn x = false ∨ s.gapc.state = .deep ∨ (perGet s.links x).inFlight ≠ none →
        perGet t.smon.winSense x = perGet m.winSense x) ∧
      t.smon.settings = m.settings ∧ t.smon.senseOn = m.senseOn ∧ t.tick = s.tick

/-- A line class that changes after D samples. One that becomes unusable takes the segment DOWN: its link halts, SEG_DOWN is
set, and its units at work in the restore go to DARK. One that becomes usable takes it out of DOWN: in SUPPLIED and RESTORE,
with the line not lost by the same sample, its link runs, its LIVE units' polls are handed to it in rising order of unit index
and its DARK units enter PROBE with their probes handed to the link; in GAP and SETTLE nothing of its units and its link
changes (R11, R13, R61, R62, R63, R82, R88, R92, R96; that a poll due at once joins the queue in the same step is log entry
23). -/
def Obligations.ClassChangesMoveTheSegment : Prop :=
  ∀ (s : State) (line hold a b c : Code) (x : Seg) (k : LineClass), s.powered = true → s.resetLow = false →
    s.clnk.resetAccepted = false → s.StackLaw → s.MembershipLaw → s.FlightLaw → s.CarryLaw →
    s.gapc.state = .supplied ∨ s.gapc.state = .gap ∨ s.gapc.state = .settle ∨ s.gapc.state = .restore →
    let raw : Code := match x with
      | .a => a
      | .b => b
      | .c => c
    let m := s.smon
    let old := perGet m.classes x
    perGet m.senseOn x = true → (perGet s.links x).inFlight = none →
    k = classOf (filteredCode
      (pushSample m.settings.n (perGet m.winSense x) (corrected raw (perGet m.settings.offSense x)))) →
    m.settings.d ≤ (if old.candidate = some k then old.count + 1 else 1) →
    (old.current = .normal ∨ old.current = .openLine → k = .shortLow ∨ k = .shortHigh →
      ∃ t, exec (.monitorSample line hold a b c) s = .next t ∧
        perGet t.smon.classes x = { current := k, candidate := none, count := 0 } ∧
        (perGet t.links x).halted = true ∧ t.cflu.device.getLsbD (DeviceFlag.segDown x).bit = true ∧
        ∀ u e, s.unit u = some e → e.decl.seg = x →
          e.state = .probe ∨ e.state = .wait ∨ e.state = .stream ∨ e.state = .suspended ∨ e.state = .verify ∨
            e.state = .context →
          ∃ e', t.unit u = some e' ∧ e'.state = .dark ∧ e'.decl = e.decl) ∧
      (old.current = .shortLow ∨ old.current = .shortHigh → k = .normal ∨ k = .openLine →
        (s.gapc.state = .supplied ∨ s.gapc.state = .restore →
          m.settings.gapEnter ≤ 10 * filteredCode (pushSample m.settings.n m.winLine (corrected line m.settings.offLine)) ∨
            m.lineLost + 1 < m.settings.d →
          ∃ t, exec (.monitorSample line hold a b c) s = .next t ∧
            perGet t.smon.classes x = { current := k, candidate := none, count := 0 } ∧
            (perGet t.links x).halted = false ∧
            (k = .openLine → t.cflu.device.getLsbD (DeviceFlag.segOpen x).bit = true) ∧
            (∀ u e, s.unit u = some e → e.decl.seg = x → e.state = .live →
              t.unit u = some { e with pollDue := none } ∧ (perGet t.links x).Holds (.contextPoll u)) ∧
            (perGet t.links x).polls.Pairwise (· < ·) ∧
            ∀ u e, s.unit u = some e → e.decl.seg = x → e.state = .dark →
              (perGet t.links x).Holds (.probe u 0) ∧
                ∃ e', t.unit u = some e' ∧ e'.decl = e.decl ∧ e'.state = .probe ∧ e'.probe = some ⟨.probing, 0⟩ ∧
                  e'.retry = e.retry) ∧
          (s.gapc.state = .gap ∨ s.gapc.state = .settle →
            ∃ t, exec (.monitorSample line hold a b c) s = .next t ∧
              perGet t.smon.classes x = { current := k, candidate := none, count := 0 } ∧
              (perGet t.links x).halted = (perGet s.links x).halted ∧
              (k = .openLine → t.cflu.device.getLsbD (DeviceFlag.segOpen x).bit = true) ∧
              ∀ u e, s.unit u = some e → e.decl.seg = x → t.unit u = some e))

/-- The D-th sample in a row of LINE below gap_enter in SUPPLIED or RESTORE begins a gap: gap start is the tick, GAP_BEGIN
is set, every unit but the ISOLATED goes to DARK, the records, the window and the links' work are given up, the permits
fall, and no record stays CURRENT or WRITTEN (R5, R7, R22, R60, R91, R132, R160, R170). -/
def Obligations.LineLostBeginsTheGap : Prop :=
  ∀ (s : State) (line hold a b c : Code), s.powered = true → s.resetLow = false → s.StackLaw → s.MembershipLaw →
    s.FlightLaw → s.gapc.state = .supplied ∨ s.gapc.state = .restore →
    let m := s.smon
    10 * filteredCode (pushSample m.settings.n m.winLine (corrected line m.settings.offLine)) < m.settings.gapEnter →
    m.settings.d ≤ m.lineLost + 1 →
    ∃ t, exec (.monitorSample line hold a b c) s = .next t ∧
      t.gapc =
        { s.gapc with state := .gap, start := s.tick, durUnknown := false, demand := t.gapc.demand } ∧
      t.cflu.device.getLsbD DeviceFlag.gapBegin.bit = true ∧ t.rsch = { active := none, stack := [], marks := [] } ∧
      t.seng = none ∧ (∀ x, (perGet t.links x).halted = true ∧ (perGet t.links x).queue = [] ∧
        (perGet t.links x).inFlight = none ∧ (perGet t.links x).lock = none) ∧
      t.perm.output = ⟨false, false, false⟩ ∧
      (∀ u, (t.ctx u).validity ≠ .current ∧ (t.ctx u).validity ≠ .written) ∧
      (∀ u, s.unit u = none → t.unit u = none) ∧
      ∀ u e, s.unit u = some e → ∃ e', t.unit u = some e' ∧ e'.decl = e.decl ∧
        e'.state = if e.state = .isolated then .isolated else .dark

/-- The D-th sample in a row of LINE at or above gap_exit in GAP or DEEP starts a settle with the settle time in force,
while HOLD is above its thresholds; gap start and the duration-unknown flag are kept (R5, R8, R24, R30). -/
def Obligations.LineBackStartsTheSettle : Prop :=
  ∀ (s : State) (line hold a b c : Code), s.powered = true → s.resetLow = false →
    s.gapc.state = .gap ∨ s.gapc.state = .deep →
    let m := s.smon
    m.settings.gapExit ≤ 10 * filteredCode (pushSample m.settings.n m.winLine (corrected line m.settings.offLine)) →
    m.settings.holdDeep ≤ 5 * filteredCode (pushSample m.settings.n m.winHold (corrected hold m.settings.offHold)) →
    m.settings.holdRetain ≤ m.settings.holdDeep → m.settings.d ≤ m.lineBack + 1 →
    ∃ t, exec (.monitorSample line hold a b c) s = .next t ∧
      t.gapc =
        { s.gapc with
          state := .settle, settleStart := some s.tick, settleTime := some s.timing.settle,
          demand := t.gapc.demand } ∧
      t.smon.lineLost = 0 ∧ t.smon.lineBack = 0 ∧ t.smon.holdDeep = 0 ∧ t.tick = s.tick

/-- With LINE still low, the D-th low sample of HOLD takes GAP into DEEP: the duration becomes unknown, DEEP_ENTERED is set,
the control link goes off with its owed replies dropped, a long request at work runs on with its reply muted, and FROZEN
records lose their age; and takes DEEP into LOST: the contexts and the unit table are given up, and the comparator takes its
reference (R5, R8, R9, R10, R28, R29, R31, R160; log entries 24 and 25). -/
def Obligations.HoldRunsLeadToDeepAndLost : Prop :=
  ∀ (s : State) (line hold a b c : Code), s.powered = true → s.resetLow = false → s.clnk.resetAccepted = false →
    let m := s.smon
    10 * filteredCode (pushSample m.settings.n m.winLine (corrected line m.settings.offLine)) < m.settings.gapExit →
    let h := 5 * filteredCode (pushSample m.settings.n m.winHold (corrected hold m.settings.offHold))
    (s.gapc.state = .gap → h < m.settings.holdDeep → m.settings.d ≤ m.holdDeep + 1 →
      ∃ t, exec (.monitorSample line hold a b c) s = .next t ∧
        t.gapc = { s.gapc with state := .deep, durUnknown := true, demand := t.gapc.demand } ∧
        t.cflu.device.getLsbD DeviceFlag.deepEntered.bit = true ∧ t.clnk.owed = [] ∧ t.clnk.rx = [] ∧
        t.clnk.tx = none ∧ t.tick = s.tick ∧
        (∀ l, s.clnk.long = some l → (∀ st, l.work ≠ .finished st) → t.clnk.long = some { l with muted := true }) ∧
        (∀ l st, s.clnk.long = some l → l.work = .finished st → t.clnk.long = none) ∧
        (s.clnk.long = none → t.clnk.long = none) ∧
        ∀ u, t.ctx u = if (s.ctx u).validity = .frozen then { s.ctx u with ageUnknown := true } else s.ctx u) ∧
      (s.gapc.state = .deep → h < m.settings.holdRetain → m.settings.d ≤ m.holdExhausted + 1 →
        ∃ t, exec (.monitorSample line hold a b c) s = .next t ∧ t.gapc = { s.gapc with state := .lost } ∧
          (∀ u, t.unit u = none ∧ t.ctx u = ContextRecord.blank) ∧
          t.smon.cmpRef = some ((m.settings.gapExit + 9) / 10) ∧ t.smon.lineBack = 0 ∧ t.clnk.long = none ∧
          t.perm.output = ⟨false, false, false⟩ ∧ t.cflu.alert = false)

/-- In LOST a comparison below the reference sets the counter to 0, one at or above it adds 1, and at D the cold start that
sets CONTEXT_LOST is performed (R8, R32). -/
def Obligations.ComparatorLeavesLost : Prop :=
  ∀ (s : State) (line : Code) (ref : Nat), s.powered = true → s.resetLow = false → s.gapc.state = .lost →
    s.smon.cmpRef = some ref →
    (corrected line s.smon.settings.offLine < ref →
      exec (.lineComparatorSample line) s = .next { s with smon := { s.smon with lineBack := 0 } }) ∧
      (ref ≤ corrected line s.smon.settings.offLine → s.smon.lineBack + 1 < s.smon.settings.d →
        exec (.lineComparatorSample line) s =
          .next { s with smon := { s.smon with lineBack := s.smon.lineBack + 1 } }) ∧
      (ref ≤ corrected line s.smon.settings.offLine → s.smon.settings.d ≤ s.smon.lineBack + 1 →
        s.ims.port ≠ some .longRequest →
        exec (.lineComparatorSample line) s =
          .next (s.afterReset 0 (Vector.replicate 24 ContextRecord.blank) (s.resetFlags 0x4008)))

/-- The settle expiry enters RESTORE: gap count and duration, GAP_END, retry counts 0, the usable segments' links run and
their DARK units are in PROBE with their probes handed to the links; with no demand the gap controller goes straight on to
SUPPLIED with RESTORE_DONE. Of a DOOR or RAMP unit's FROZEN record with a known position, leaf state and position become
INDEFINITE where its age is unknown or above the limit of its class, an age equal to the limit being within it; every other
record stands (R21, R25, R26, R27, R61, R78, R96, R162). -/
def Obligations.SettleExpiryEntersRestore : Prop :=
  ∀ (s : State) (b : Tick) (n : Nat), s.powered = true → s.resetLow = false → s.gapc.state = .settle →
    s.gapc.settleStart = some b → s.gapc.settleTime = some n → n ≤ (s.tick - b).toNat →
    let demand : Prop := ∃ u e, s.unit u = some e ∧ s.usable e.decl.seg = true ∧
      (e.state = .dark ∨ e.state = .probe ∨ e.state = .wait ∨ e.state = .stream ∨ e.state = .suspended ∨
        e.state = .verify ∨ e.state = .context)
    ∃ t, exec .settleExpiry s = .next t ∧
      t.gapc =
        { s.gapc with
          state := t.gapc.state, settleStart := none, settleTime := none,
          lastDuration := if s.gapc.durUnknown then none else some (b - s.gapc.start),
          count := min (s.gapc.count + 1) 65535, demand := t.gapc.demand } ∧
      (demand → t.gapc.state = .restore ∧ t.gapc.demand = true) ∧
      (¬demand → t.gapc.state = .supplied ∧ t.gapc.demand = false ∧
        t.cflu.device.getLsbD DeviceFlag.restoreDone.bit = true) ∧
      t.cflu.device.getLsbD DeviceFlag.gapEnd.bit = true ∧ t.tick = s.tick ∧ t.PermitLaw ∧
      (∀ x, s.usable x = true → (perGet t.links x).halted = false) ∧
      (∀ u, s.unit u = none → t.unit u = none ∧ t.ctx u = s.ctx u) ∧
      (∀ u e limit, s.unit u = some e →
        let r := s.ctx u
        let old : Prop := r.ageUnknown = true ∨ ∃ captured, r.capturedAt = some captured ∧ limit < (s.tick - captured).toNat
        e.decl.cls = .door ∧ limit = s.timing.ageDoor ∨ e.decl.cls = .ramp ∧ limit = s.timing.ageRamp →
        (∀ c p, r.validity = .frozen → r.content = some (.door c) → c.position = some p → old →
          t.ctx u = { r with content := some (.door { c with leaf := .indefinite, position := none }) }) ∧
          (r.validity ≠ .frozen ∨ ¬old ∨ (∀ c p, r.content = some (.door c) → c.position ≠ some p) → t.ctx u = r)) ∧
      (∀ u e, s.unit u = some e → e.decl.cls ≠ .door → e.decl.cls ≠ .ramp → t.ctx u = s.ctx u) ∧
      ∀ u e, s.unit u = some e → ∃ e', t.unit u = some e' ∧ e'.decl = e.decl ∧ e'.retry = 0 ∧
        (e'.state = if e.state = .dark ∧ s.usable e.decl.seg = true then .probe else e.state) ∧
        (e.state = .dark → s.usable e.decl.seg = true →
          e'.probe = some ⟨.probing, 0⟩ ∧ (perGet t.links e.decl.seg).Holds (.probe u 0))

/-! ### Segment lines -/

/-- While a frame is being sent, its bytes on the line are the sync byte, address, kind, sequence number, length, payload and
CRC-16, with a BLOCK's payload its index and its data (the payload of the other frames is the model's choice: none where the
spec gives no field, log entry 45, and free bytes elsewhere, log entry 28). When it has been sent, a frame that calls for an
answer begins its wait with the answer timeout in force, and after a BLOCK frame the next frame follows with the next sequence
number (R79, R80, R81, R140, R205, R206). -/
def Obligations.FrameSentBeginsTheWaitOrTheNextFrame : Prop :=
  ∀ (s : State) (x : Seg) (f : InFlight), s.powered = true → s.resetLow = false →
    (perGet s.links x).inFlight = some f → f.phase = .sending →
    (∃ payload : List Byte,
      let body : List Byte :=
        [f.frame.dest, f.frame.body.kind, f.seq] ++ be16 (BitVec.ofNat 16 payload.length) ++ payload
      (perGet s.links x).sending? = some (0xC3 :: body ++ be16 (crc16 body)) ∧
        (∀ i d, f.frame.body = .block i d → f.frame.body.kind = 0x04 ∧ payload = BitVec.ofNat 8 i :: d) ∧
        ((∀ i d, f.frame.body ≠ .block i d) → payload.length ≤ 1025)) ∧
    ((∀ i d, f.frame.body ≠ .block i d) →
      ∃ t, exec (.segmentFrameSent x) s = .next t ∧ State.Ends
        { s with
          links := perSet s.links x
            { perGet s.links x with
              inFlight := some { f with phase := .waiting s.tick s.timing.answer } } } t) ∧
      ∀ (i : Nat) (d : List Byte) (o : OutFrame) (rest : List OutFrame), f.frame.body = .block i d → f.todo = o :: rest →
        ∃ t, exec (.segmentFrameSent x) s = .next t ∧ State.Ends
          { s with
            links := perSet s.links x
              { perGet s.links x with
                seq := (perGet s.links x).seq + 1
                inFlight := some
                  { exchange := f.exchange, frame := o, seq := (perGet s.links x).seq, todo := rest, phase := .sending,
                    cut := false, marked := false } } } t

/-- The probe decision. A report that is not well formed is a fault that repeats the probe within the limit and is not
recorded; any other is recorded as the last boot report. A wrong echo is LINK_TEST: masked, a fault that repeats the probe
within the limit and past it is RETRY_EXHAUSTED, FAILED where that is masked; open, the unit is HELD with its attempt kept;
nothing is learned. With the right echo the window capability and the running version are learned, and the first test that
fits decides: another class is CLASS_MISMATCH; a LOADING slot restarts a RUN unit and lets a BOOT unit wait; an EMPTY or
DAMAGED one is IMAGE_UNUSABLE; both are FAILED where masked and HELD where open. With a VALID slot, a RUN unit of its version
goes to LIVE unrestrained where its context is intact, its poll timer started, and else to CONTEXT, or to CONTEXT_UNKNOWN; one
of a lower version is restarted; of a higher one it is VERSION_AHEAD: restarted where masked, HELD where open; and a BOOT unit
goes to WAIT or its slot's record with the count and version it reports. Each exchange that follows is handed to the running
link (R73, R79, R88, R96, R99 to R108, R163, R175, R181; log entries 15 and 29). The model's choices in it: a BOOT report
without h is not well formed, and an h that a RUN report carries is ignored (log entry 29); through a restart the held count
and version stand (log entry 15). Left out: a report that is not well formed, past the limit; a wrong echo past it with
RETRY_EXHAUSTED open; a RUN report of its slot's version without the context-intact word (log entry 29); the held count and
version where CLASS_MISMATCH, IMAGE_UNUSABLE or an open VERSION_AHEAD ends the probe. -/
def Obligations.ProbeReportsAreDecided : Prop :=
  ∀ (s : State) (x : Seg) (u : UnitIx) (e : UnitEntry) (p n : Nat) (t0 : Tick) (f : InFlight) (r : BootReport),
    s.powered = true → s.resetLow = false → s.StackLaw → s.MembershipLaw →
    (perGet s.links x).inFlight = some f → f.exchange = .probe u p → f.frame.body = .probe p (probePattern p) →
    f.phase = .waiting t0 n → f.cut = false → f.marked = false →
    s.unit u = some e → e.state = .probe → e.probe = some ⟨.probing, p⟩ →
    let decided (good : State → UnitEntry → Prop) : Prop :=
      ∃ t e', exec (.segmentAnswer x ⟨f.frame.dest, f.seq, .bootReport r⟩) s = .next t ∧ s.RestoreFrame t ∧
        s.SparesOthers t u ∧ t.PermitLaw ∧ t.AlertLaw ∧ t.ctxs = s.ctxs ∧ t.unit u = some e' ∧ e'.decl = e.decl ∧ good t e'
    let isOpen (k : Condition) : Prop := s.cflu.respOpen.getLsbD k.index = true
    let flag (k : UnitFlag) : BitVec 13 := BitVec.twoPow 13 k.bit
    let raised (k : Condition) (e' : UnitEntry) (more : UnitFlag) : Prop :=
      e'.flags = e.flags ||| flag (.condition k) ||| flag more ∧ e'.probe = none
    let wellFormed : Prop := (∃ c, r.cls = some c) ∧ 1 ≤ r.capability ∧ r.capability ≤ 8 ∧
      (r.mode = some .run ∧ r.version ≠ none ∨
        r.mode = some .boot ∧ ∃ h, r.held = some h ∧ h ≤ 128 ∧ (h = 0 ∨ r.version ≠ none))
    let again (t : State) (e' : UnitEntry) : Prop :=
      e'.state = .probe ∧ e'.probe = some ⟨.probing, p + 1⟩ ∧ e'.retry = e.retry + 1 ∧
        s.Hands t e.decl.seg (.probe u (p + 1))
    let unlearned (e' : UnitEntry) : Prop :=
      e'.window = e.window ∧ e'.running = e.running ∧ e'.heldCount = e.heldCount ∧ e'.heldVersion = e.heldVersion
    let learned (e' : UnitEntry) : Prop :=
      e'.lastBoot = some (r, s.tick) ∧ e'.window = min r.capability s.timing.maxWindow ∧ e'.retry = e.retry ∧
        (r.mode = some .run → e'.running = r.version) ∧ (r.mode = some .boot → e'.running = none)
    let asReported (e' : UnitEntry) : Prop :=
      (∀ h v, r.held = some (h + 1) → r.version = some v → e'.heldCount = h + 1 ∧ e'.heldVersion = some v) ∧
        (r.held = some 0 → e'.heldCount = 0 ∧ e'.heldVersion = none)
    let restarted (cause : RestartCause) (flags : BitVec 13) : Prop := decided fun t e' =>
      learned e' ∧ e'.state = .probe ∧ e'.probe = some ⟨.restarting cause, p⟩ ∧ e'.heldCount = e.heldCount ∧
        e'.heldVersion = e.heldVersion ∧ e'.flags = flags ∧ s.Hands t e.decl.seg (.restart u)
    let refused (k : Condition) : Prop :=
      (¬isOpen k → decided fun _ e' => learned e' ∧ e'.state = .failed ∧ e'.pending = none ∧ raised k e' .failed) ∧
        (isOpen k → decided fun _ e' => learned e' ∧ e'.state = .held ∧ e'.pending = some k ∧ raised k e' .held)
    (¬wellFormed → e.retry + 1 ≤ s.timing.retryLimit → decided fun t e' =>
      again t e' ∧ unlearned e' ∧ e'.lastBoot = e.lastBoot ∧ e'.flags = e.flags) ∧
      (wellFormed → r.echo ≠ probePattern p →
        (¬isOpen .linkTest → e.retry + 1 ≤ s.timing.retryLimit → decided fun t e' =>
          again t e' ∧ unlearned e' ∧ e'.lastBoot = some (r, s.tick) ∧
            e'.flags = e.flags ||| flag (.condition .linkTest)) ∧
          (¬isOpen .linkTest → s.timing.retryLimit < e.retry + 1 → ¬isOpen .retryExhausted → decided fun _ e' =>
            e'.state = .failed ∧ e'.retry = e.retry + 1 ∧ unlearned e' ∧ e'.lastBoot = some (r, s.tick) ∧
              e'.flags = e.flags ||| flag (.condition .linkTest) ||| flag (.condition .retryExhausted) ||| flag .failed) ∧
          (isOpen .linkTest → decided fun _ e' =>
            e'.state = .held ∧ e'.pending = some .linkTest ∧ e'.linkTestAttempt = some p ∧ e'.retry = e.retry ∧
              unlearned e' ∧ e'.lastBoot = some (r, s.tick) ∧ raised .linkTest e' .held)) ∧
      (wellFormed → r.echo = probePattern p →
        (r.cls ≠ some e.decl.cls → refused .classMismatch) ∧
        (r.cls = some e.decl.cls → (s.slot e.decl.slot = .empty ∨ ∃ i c, s.slot e.decl.slot = .damaged i c) →
          refused .imageUnusable) ∧
        (∀ i cursor written, r.cls = some e.decl.cls → s.slot e.decl.slot = .loading i cursor written →
          (r.mode = some .run → restarted .reload e.flags) ∧
            (r.mode = some .boot → decided fun _ e' =>
              learned e' ∧ asReported e' ∧ e'.state = .wait ∧ e'.probe = none ∧ e'.flags = e.flags)) ∧
        ∀ i, r.cls = some e.decl.cls → s.slot e.decl.slot = .valid i →
          (r.mode = some .boot → decided fun _ e' =>
            learned e' ∧ asReported e' ∧ (e'.state = .wait ∨ e'.state = .stream ∨ e'.state = .suspended) ∧
              e'.probe = none ∧ e'.flags = e.flags) ∧
            (r.mode = some .run → compareVersion r.version i.version = .less → restarted .less e.flags) ∧
            (r.mode = some .run → compareVersion r.version i.version = .greater →
              (¬isOpen .versionAhead → restarted .ahead (e.flags ||| flag (.condition .versionAhead))) ∧
                (isOpen .versionAhead → decided fun _ e' =>
                  learned e' ∧ e'.state = .held ∧ e'.pending = some .versionAhead ∧ raised .versionAhead e' .held)) ∧
            (r.mode = some .run → r.version = some i.version → r.intact = some true → decided fun t e' =>
              learned e' ∧ e'.state = .live ∧ e'.restrained = false ∧ e'.running = some i.version ∧ e'.heldCount = 0 ∧
                e'.heldVersion = none ∧ e'.probe = none ∧
                e'.pollDue = some (s.tick + BitVec.ofNat 32 s.timing.pollPeriod) ∧
                e'.flags = e.flags ||| flag .liveReached ∧
                (e.flags.getLsbD UnitFlag.liveReached.bit = false →
                  t.cflu.device.getLsbD DeviceFlag.unitEvent.bit = true)) ∧
            (r.mode = some .run → r.version = some i.version → r.intact = some false →
              let rises : Prop := e.decl.cls = .door ∨ e.decl.cls = .ramp
              let known : Prop := ∃ c q, (s.ctx u).content = some (.door c) ∧ c.position = some q
              let current (e' : UnitEntry) : Prop :=
                learned e' ∧ e'.running = some i.version ∧ e'.heldCount = 0 ∧ e'.heldVersion = none ∧ e'.probe = none
              (¬rises ∨ known → decided fun t e' =>
                current e' ∧ e'.state = .context ∧ e'.flags = e.flags ∧ s.Hands t e.decl.seg (.contextSequence u) ∧
                  (rises ∨ (s.ctx u).validity ≠ .empty → e'.form = some .record) ∧
                  (¬rises → (s.ctx u).validity = .empty → e'.form = some .empty)) ∧
                (rises → ¬known → ¬isOpen .contextUnknown → decided fun t e' =>
                  current e' ∧ e'.state = .context ∧ e'.form = some .unknown ∧
                    e'.flags = e.flags ||| flag (.condition .contextUnknown) ∧
                    s.Hands t e.decl.seg (.contextSequence u)) ∧
                (rises → ¬known → isOpen .contextUnknown → decided fun _ e' =>
                  current e' ∧ e'.state = .held ∧ e'.pending = some .contextUnknown ∧
                    raised .contextUnknown e' .held)))

/-- A CONTEXT_REPORT of a running unit answers its poll: the poll misses are 0, the next poll is one period away, and the
context record captures the report (R64, R88, R89, R158). -/
def Obligations.AnsweredPollIsCaptured : Prop :=
  ∀ (s : State) (x : Seg) (u : UnitIx) (e : UnitEntry) (n : Nat) (t0 : Tick) (f : InFlight) (fields : ContextFields),
    s.powered = true → s.resetLow = false → s.MembershipLaw →
    (perGet s.links x).inFlight = some f → f.exchange = .contextPoll u → f.frame.body = .contextPoll →
    f.phase = .waiting t0 n → f.cut = false → f.marked = false → s.unit u = some e → e.state = .live →
    ∃ t, exec (.segmentAnswer x ⟨f.frame.dest, f.seq, .contextReport (.running fields)⟩) s = .next t ∧
      s.RestoreFrame t ∧ s.SparesOthers t u ∧ t.PermitLaw ∧ t.AlertLaw ∧
      t.unit u = some { e with misses := 0, pollDue := some (s.tick + BitVec.ofNat 32 s.timing.pollPeriod) } ∧
      t.ctx u =
        { validity := .current, capturedAt := some s.tick, ageUnknown := false,
          rangeFlag := (s.ctx u).rangeFlag ||
            (Content.store ((s.ctx u).content.getD (Content.blank e.decl.cls)) fields).2,
          content := some (Content.store ((s.ctx u).content.getD (Content.blank e.decl.cls)) fields).1 } ∧
      ∀ v, v ≠ u → t.ctx v = s.ctx v

/-- A poll whose wait times out is a miss, with the next poll one period away; the third miss in a row is a poll loss: the
unit leaves LIVE and is probed where its segment serves, its probe handed to the running link, else DARK, and its record is no
longer CURRENT or WRITTEN (R61, R64, R80, R88, R96, R161; the due test of log entry 6). -/
def Obligations.UnansweredPollsLoseTheUnit : Prop :=
  ∀ (s : State) (x : Seg) (u : UnitIx) (e : UnitEntry) (n : Nat) (t0 : Tick) (f : InFlight), s.powered = true →
    s.resetLow = false → s.MembershipLaw → (perGet s.links x).inFlight = some f → f.exchange = .contextPoll u →
    f.phase = .waiting t0 n → n ≤ (s.tick - t0).toNat → (perGet s.links x).rx = [] → f.cut = false →
    f.marked = false → s.unit u = some e → e.state = .live →
    (e.misses < 2 →
      ∃ t, exec (.answerTimeout x) s = .next t ∧ s.RestoreFrame t ∧ s.SparesOthers t u ∧ t.ctxs = s.ctxs ∧
        t.unit u = some
          { e with
            misses := e.misses + 1, pollDue := some (s.tick + BitVec.ofNat 32 s.timing.pollPeriod) }) ∧
      (2 ≤ e.misses →
        ∃ t, exec (.answerTimeout x) s = .next t ∧ s.RestoreFrame t ∧ s.SparesOthers t u ∧
          (t.ctx u).validity ≠ .current ∧ (t.ctx u).validity ≠ .written ∧ (t.ctx u).capturedAt = (s.ctx u).capturedAt ∧
          ∃ e', t.unit u = some e' ∧ e'.decl = e.decl ∧ e'.retry = e.retry ∧ e'.misses = 0 ∧ e'.running = none ∧
            e'.pollDue = none ∧ e'.flags = e.flags ∧
            (s.serves e.decl.seg = true →
              e'.state = .probe ∧ e'.probe = some ⟨.probing, 0⟩ ∧ s.Hands t e.decl.seg (.probe u 0)) ∧
            (s.serves e.decl.seg = false → e'.state = .dark))

/-- A probe without answer is a fault: within the retry limit the next attempt is handed to the running link, past it
RETRY_EXHAUSTED sends the unit to FAILED when masked and to HELD when open (R72, R100, R105, R175, R176; log entry 6). -/
def Obligations.UnansweredProbeIsRetriedOrExhausted : Prop :=
  ∀ (s : State) (x : Seg) (u : UnitIx) (e : UnitEntry) (p n : Nat) (t0 : Tick) (f : InFlight), s.powered = true →
    s.resetLow = false → s.MembershipLaw → (perGet s.links x).inFlight = some f → f.exchange = .probe u p →
    f.phase = .waiting t0 n → n ≤ (s.tick - t0).toNat → (perGet s.links x).rx = [] → f.cut = false →
    f.marked = false → s.unit u = some e → e.state = .probe → e.probe = some ⟨.probing, p⟩ →
    (e.retry + 1 ≤ s.timing.retryLimit →
      ∃ t, exec (.answerTimeout x) s = .next t ∧ s.RestoreFrame t ∧ s.SparesOthers t u ∧
        t.unit u = some { e with retry := e.retry + 1, probe := some ⟨.probing, p + 1⟩ } ∧
        s.Hands t e.decl.seg (.probe u (p + 1))) ∧
      (s.timing.retryLimit < e.retry + 1 →
        ∃ t, exec (.answerTimeout x) s = .next t ∧ s.RestoreFrame t ∧ s.SparesOthers t u ∧
          (e.flags.getLsbD (UnitFlag.condition .retryExhausted).bit = false →
            t.cflu.device.getLsbD DeviceFlag.unitEvent.bit = true) ∧
          ∃ e', t.unit u = some e' ∧ e'.decl = e.decl ∧ e'.retry = e.retry + 1 ∧ e'.probe = none ∧
            (s.cflu.respOpen.getLsbD Condition.retryExhausted.index = false → e'.state = .failed ∧ e'.pending = none ∧
              e'.flags =
                e.flags ||| BitVec.twoPow 13 (UnitFlag.condition .retryExhausted).bit |||
                  BitVec.twoPow 13 UnitFlag.failed.bit) ∧
            (s.cflu.respOpen.getLsbD Condition.retryExhausted.index = true →
              e'.state = .held ∧ e'.pending = some .retryExhausted ∧
                e'.flags =
                  e.flags ||| BitVec.twoPow 13 (UnitFlag.condition .retryExhausted).bit |||
                    BitVec.twoPow 13 UnitFlag.held.bit))

/-- An ACK moves the restore on. A RESTART acknowledged sends the unit to WAIT with nothing held or running, and at once into
the active record of its slot as a new member that owes every block. A JOIN acknowledged makes the member joined: one that owes
blocks stays and takes part in the window that begins, one that owes none goes to VERIFY, and one of a suspended record waits.
A VERIFY_REQ acknowledged sets the deadline and the first poll (R101, R105, R117, R118, R122, R124, R148, R149). -/
def Obligations.AcknowledgementsMoveTheRestoreOn : Prop :=
  ∀ (s : State) (x : Seg) (u : UnitIx) (e : UnitEntry) (t0 : Tick) (n : Nat) (f : InFlight), s.powered = true →
    s.resetLow = false → s.MembershipLaw → (perGet s.links x).inFlight = some f → f.phase = .waiting t0 n →
    f.frame.body.calls .ack = true → f.cut = false → f.marked = false → s.unit u = some e →
    let acked (good : State → Prop) : Prop :=
      ∃ t, exec (.segmentAnswer x ⟨f.frame.dest, f.seq, .ack⟩) s = .next t ∧ s.RestoreFrame t ∧ s.SparesOthers t u ∧
        t.PermitLaw ∧ t.AlertLaw ∧ t.ctxs = s.ctxs ∧ good t
    (∀ (cause : RestartCause) (p : Nat), f.exchange = .restart u → e.state = .probe →
      e.probe = some ⟨.restarting cause, p⟩ →
      acked (fun t =>
        (∃ e', t.unit u = some e' ∧ e'.decl = e.decl ∧ e'.heldCount = 0 ∧ e'.heldVersion = none ∧ e'.running = none ∧
          e'.retry = e.retry ∧ e'.probe = none ∧ ((s.slot e.decl.slot).valid? = none → e'.state = .wait)) ∧
        ∀ r, s.rsch.active = some r → r.slot = e.decl.slot → (s.slot e.decl.slot).valid?.isSome = true →
          s.usable e.decl.seg = true →
          s.Hands t e.decl.seg (.join u false) ∧
            (∃ e', t.unit u = some e' ∧ e'.state = .stream ∧ e'.firstWindow = true ∧ e'.joined = false) ∧
            ∃ r', t.rsch.active = some r' ∧ r'.slot = r.slot ∧
              r'.members = r.members ++ [{ unit := u, owed := List.range r.len }])) ∧
      (∀ (keep : Bool) (r : StreamRecord) (m : Member), f.exchange = .join u keep → e.state = .stream →
        s.rsch.active = some r → m ∈ r.members → m.unit = u →
        (m.owed ≠ [] ∨ r.window ≠ none →
          acked (fun t => t.unit u = some { e with joined := true } ∧
            (r.window = none → s.seng = none →
              ∃ w, t.seng = some w ∧ w.slot = r.slot ∧ w.start = r.cursor ∧ w.phase = .reading ∧
                { unit := u, seg := e.decl.seg, answer := .pending } ∈ w.participants))) ∧
          (m.owed = [] → r.window = none →
            acked (fun t => ((s.slot e.decl.slot).info? ≠ none → s.Hands t e.decl.seg (.verifyRequest u)) ∧
              ∃ e', t.unit u = some e' ∧ e'.decl = e.decl ∧ e'.state = .verify ∧ e'.joined = false ∧
              e'.firstWindow = false ∧ e'.retry = e.retry ∧
              e'.verify = some { phase := .requesting, pollDue := none, polls := 0, lastCrc := none }))) ∧
      (∀ (keep : Bool) (r : StreamRecord), f.exchange = .join u keep → e.state = .suspended → s.rsch.active = some r →
        r.members ≠ [] ∨ r.window ≠ none → acked (fun t => t.unit u = some { e with joined := true })) ∧
      ∀ v : VerifyRecord, f.exchange = .verifyRequest u → e.state = .verify → e.verify = some v →
        v.phase = .requesting →
        acked (fun t => t.unit u = some
          { e with
            verify := some
              { v with
                phase := .polling (s.tick + BitVec.ofNat 32 s.timing.verify)
                pollDue := some (s.tick + 5)
                polls := 0 } })

/-- A READY report judges the image. A CRC equal to the slot's sends the unit to CONTEXT with the slot's version running and
its write form chosen by its class and record and its sequence handed to the running link, CONTEXT_UNKNOWN raised where a DOOR
or RAMP has no known position. Any other CRC raises VERIFY_MISMATCH: open, the unit is HELD; masked, it is a fault, after
which the unit is back in WAIT with nothing held, or DARK on a DOWN segment (R150, R151, R163, R175, R176, R179). -/
def Obligations.ReadyReportsJudgeTheImage : Prop :=
  ∀ (s : State) (x : Seg) (u : UnitIx) (e : UnitEntry) (v : VerifyRecord) (d t0 : Tick) (n : Nat) (f : InFlight)
    (i : SlotInfo) (crc : Crc32), s.powered = true → s.resetLow = false → s.StackLaw → s.MembershipLaw →
    (perGet s.links x).inFlight = some f → f.exchange = .verifyPoll u → f.frame.body = .verifyPoll →
    f.phase = .waiting t0 n → f.cut = false → f.marked = false → s.unit u = some e → e.state = .verify →
    e.verify = some v → v.phase = .polling d → (s.slot e.decl.slot).info? = some i →
    let reported (good : State → UnitEntry → Prop) : Prop :=
      ∃ t, exec (.segmentAnswer x ⟨f.frame.dest, f.seq, .verifyReport (.ready crc)⟩) s = .next t ∧ s.RestoreFrame t ∧
        s.SparesOthers t u ∧ t.PermitLaw ∧ t.AlertLaw ∧ t.ctxs = s.ctxs ∧
        ∃ e', t.unit u = some e' ∧ e'.decl = e.decl ∧ e'.verify = none ∧ good t e'
    let rises : Prop := e.decl.cls = .door ∨ e.decl.cls = .ramp
    let known : Prop := ∃ c p, (s.ctx u).content = some (.door c) ∧ c.position = some p
    let unknownFlag : BitVec 13 := BitVec.twoPow 13 (UnitFlag.condition .contextUnknown).bit
    let mismatchFlag : BitVec 13 := BitVec.twoPow 13 (UnitFlag.condition .verifyMismatch).bit
    let heldFlag : BitVec 13 := BitVec.twoPow 13 UnitFlag.held.bit
    (crc = i.crc →
      let verified (e' : UnitEntry) : Prop :=
        e'.running = some i.version ∧ e'.heldCount = 0 ∧ e'.heldVersion = none ∧ e'.retry = e.retry
      (rises → known → reported fun t e' =>
        verified e' ∧ e'.state = .context ∧ e'.form = some .record ∧ e'.flags = e.flags ∧
          s.Hands t e.decl.seg (.contextSequence u)) ∧
        (¬rises → reported fun t e' =>
          verified e' ∧ e'.state = .context ∧ e'.flags = e.flags ∧ s.Hands t e.decl.seg (.contextSequence u) ∧
            e'.form = some (if (s.ctx u).validity = .empty then .empty else .record)) ∧
        (rises → ¬known → s.cflu.respOpen.getLsbD Condition.contextUnknown.index = false → reported fun t e' =>
          verified e' ∧ e'.state = .context ∧ e'.form = some .unknown ∧ e'.flags = e.flags ||| unknownFlag ∧
            s.Hands t e.decl.seg (.contextSequence u)) ∧
        (rises → ¬known → s.cflu.respOpen.getLsbD Condition.contextUnknown.index = true → reported fun _ e' =>
          verified e' ∧ e'.state = .held ∧ e'.pending = some .contextUnknown ∧
            e'.flags = e.flags ||| unknownFlag ||| heldFlag)) ∧
      (crc ≠ i.crc →
        (s.cflu.respOpen.getLsbD Condition.verifyMismatch.index = true → reported fun _ e' =>
          e'.state = .held ∧ e'.pending = some .verifyMismatch ∧ e'.retry = e.retry ∧
            e'.flags = e.flags ||| mismatchFlag ||| heldFlag) ∧
          (s.cflu.respOpen.getLsbD Condition.verifyMismatch.index = false → e.retry + 1 ≤ s.timing.retryLimit →
            reported fun _ e' =>
              e'.retry = e.retry + 1 ∧ e'.heldCount = 0 ∧ e'.heldVersion = none ∧ e'.flags = e.flags ||| mismatchFlag ∧
                (s.usable e.decl.seg = true → e'.state = .wait ∨ e'.state = .stream ∨ e'.state = .suspended) ∧
                (s.usable e.decl.seg = false → e'.state = .dark)))

/-- A window's answers. An answer received within a part is recorded, and the next answer request is sent; after the last the
part is ended, and the window stays in flight while another part has not ended. With the last part the window ends: a member's
good count takes its blocks out of what it owes, one that then owes nothing goes to VERIFY, one that still owes stays a
member, and a fault leaves what it owes and counts on its retry count; with no unit of a higher level in WAIT and a joined
member still owing, the next window begins at the cursor placed from c + n (R120, R121, R122, R123, R124, R128, R141, R142,
R145). -/
def Obligations.WindowAnswersEndTheWindow : Prop :=
  ∀ (s : State) (x : Seg) (u : UnitIx) (e : UnitEntry) (t0 : Tick) (n : Nat) (f : InFlight) (part : WindowPart)
    (a : WindowAnswer) (w : Window) (r : StreamRecord) (m : Member), s.powered = true → s.resetLow = false →
    s.MembershipLaw → (perGet s.links x).inFlight = some f → f.exchange = .window part → f.frame.unit = some u →
    f.frame.body.calls (.windowAnswer a) = true → f.phase = .waiting t0 n → f.cut = false → f.marked = false →
    s.unit u = some e → s.seng = some w → w.phase = .carrying → s.rsch.active = some r →
    r.window = some (w.start, w.count) → m ∈ r.members → m.unit = u → (w.participants.map (·.unit)).Nodup →
    { unit := u, seg := x, answer := .pending } ∈ w.participants →
    let answer : Instr := .segmentAnswer x ⟨f.frame.dest, f.seq, .windowAnswer a⟩
    let recorded : Window :=
      { w with
        participants := w.participants.map fun q =>
          if q.unit = u ∧ q.answer = .pending then { q with answer := .answered a } else q }
    let counts : Prop := a.start.toNat = w.start ∧ 1 ≤ a.count.toNat ∧ a.count.toNat ≤ w.count ∧ a.err = false ∧
      a.busy = false ∧ a.noburst = false
    let faults : Prop := a.start.toNat ≠ w.start ∨ w.count < a.count.toNat ∨ a.err = true
    let left : List Nat := m.owed.filter fun b => !(decide (w.start ≤ b) && decide (b < w.start + a.count.toNat))
    (∀ o rest, f.todo = o :: rest →
      ∃ t, exec answer s = .next t ∧ State.Ends
        { s with
          seng := some recorded
          links := perSet s.links x
            { perGet s.links x with
              rx := []
              seq := (perGet s.links x).seq + 1
              inFlight := some
                { exchange := f.exchange, frame := o, seq := (perGet s.links x).seq, todo := rest, phase := .sending,
                  cut := false, marked := false } } } t) ∧
      (∀ y, f.todo = [] → y ≠ x → perGet w.parts y ≠ .ended →
        ∃ t, exec answer s = .next t ∧ s.RestoreFrame t ∧ t.units = s.units ∧ t.ctxs = s.ctxs ∧ t.PermitLaw ∧
          t.seng = some { recorded with parts := perSet w.parts x .ended }) ∧
      (f.todo = [] → (∀ y, y ≠ x → perGet w.parts y = .ended) →
        (counts → left = [] → e.joined = true →
          ∃ t e', exec answer s = .next t ∧ s.RestoreFrame t ∧ t.ctxs = s.ctxs ∧ t.PermitLaw ∧ t.unit u = some e' ∧
            e'.decl = e.decl ∧ e'.state = .verify ∧ e'.retry = e.retry ∧ u ∉ t.activeUnits ∧ u ∉ t.suspendedUnits ∧
            ((s.slot e.decl.slot).info? ≠ none → s.Hands t e.decl.seg (.verifyRequest u)) ∧
            e'.verify = some { phase := .requesting, pollDue := none, polls := 0, lastCrc := none }) ∧
        (counts → left ≠ [] →
          ∃ t e', exec answer s = .next t ∧ s.RestoreFrame t ∧ t.ctxs = s.ctxs ∧ t.PermitLaw ∧ t.unit u = some e' ∧
            e'.decl = e.decl ∧ (e'.state = .stream ∨ e'.state = .suspended) ∧ e'.retry = e.retry ∧
            e'.firstWindow = false ∧ e'.joined = e.joined ∧
            (∃ q ∈ t.records, { unit := u, owed := left } ∈ q.members) ∧
            (e.joined = true → (∀ v d, s.unit v = some d → d.state = .wait → d.decl.level ≤ r.level) →
              ∃ q w', t.rsch.active = some q ∧ q.slot = r.slot ∧ t.seng = some w' ∧ w'.slot = r.slot ∧
                w'.start = q.cursor ∧ q.window = some (w'.start, w'.count) ∧ w'.phase = .reading ∧
                (∃ p ∈ q.members, q.cursor ∈ p.owed) ∧
                ∀ p ∈ q.members, ∀ b ∈ p.owed,
                  (w.start + w.count ≤ b → w.start + w.count ≤ q.cursor ∧ q.cursor ≤ b) ∧
                    (q.cursor < w.start + w.count → q.cursor ≤ b))) ∧
        (faults → m.owed ≠ [] → e.retry + 1 ≤ s.timing.retryLimit →
          ∃ t e', exec answer s = .next t ∧ s.RestoreFrame t ∧ t.ctxs = s.ctxs ∧ t.PermitLaw ∧ t.unit u = some e' ∧
            e'.decl = e.decl ∧ (e'.state = .stream ∨ e'.state = .suspended) ∧ e'.retry = e.retry + 1 ∧
            e'.firstWindow = false ∧ ∃ q ∈ t.records, { unit := u, owed := m.owed } ∈ q.members))

/-- The context sequence with its lock and yield. A frame's ACK sends the next frame with the lock kept. A level-7 window
part handed to the link under yield marks the sequence holding the lock, one of another level or with yield off does not; yield
turned on with such a part waiting marks it, and turned off clears the mark. At the next answer or timeout a marked sequence
whose COMMIT is not in flight is abandoned unevaluated: the lock is free, the sequence first of its kind in the queue, and the
window part goes next. With COMMIT in flight the mark abandons nothing: APPLIED makes the unit LIVE, restrained after an UNKNOWN
write, and a timeout is a fault after which a new sequence is handed. Of an applied write, an EMPTY record stays EMPTY; a FROZEN
one is WRITTEN after form RECORD, WRITTEN with leaf state and position INDEFINITE after form UNKNOWN, and EMPTY after form EMPTY
(R85, R86, R87, R93, R163, R165; log entries 6 and 17). -/
def Obligations.ContextSequencesKeepTheLockOrYield : Prop :=
  (∀ (l : Link) (f : InFlight) (part : WindowPart), l.halted = false → l.inFlight = some f → f.exchange.isSequence = true →
      f.cut = false →
      let queue : List Exchange := (l.queue.filter fun q => !q.isWindow) ++ [.window part]
      (part.level = 7 → l.yieldOn = true →
        l.handPart part = { l with queue := queue, inFlight := some { f with marked := true } }) ∧
        (part.level ≠ 7 ∨ l.yieldOn = false → l.handPart part = { l with queue := queue }) ∧
        (l.yieldOn = false → .window part ∈ l.queue → part.level = 7 →
          l.setYield true = { l with yieldOn := true, inFlight := some { f with marked := true } }) ∧
        (l.yieldOn = true → l.setYield false = { l with yieldOn := false, inFlight := some { f with marked := false } }) ∧
        l.setYield l.yieldOn = l) ∧
    ∀ (s : State) (x : Seg) (u : UnitIx) (e : UnitEntry) (t0 : Tick) (n : Nat) (f : InFlight), s.powered = true →
      s.resetLow = false → s.MembershipLaw → (perGet s.links x).inFlight = some f → f.exchange = .contextSequence u →
      f.phase = .waiting t0 n → f.cut = false → s.unit u = some e → e.state = .context →
      let link : Link := perGet s.links x
      let answered (b : AnswerBody) (good : State → Prop) : Prop :=
        ∃ t, exec (.segmentAnswer x ⟨f.frame.dest, f.seq, b⟩) s = .next t ∧ good t
      let abandoned (t : State) (l : Link) : Prop :=
        State.Ends
          { s with
            links := perSet s.links x
              { l with inFlight := none, lock := none, queue := .contextSequence u :: link.queue } } t ∧
          ∀ part, link.halted = false → link.queue.find? Exchange.isWindow = some (.window part) →
            s.partFrames part ≠ [] →
            (perGet t.links x).lock = none ∧ (perGet t.links x).queue.head? = some (.contextSequence u) ∧
              ∃ f', (perGet t.links x).inFlight = some f' ∧ f'.exchange = .window part
      (∀ o rest, f.todo = o :: rest → f.marked = false → f.frame.body.calls .ack = true →
        answered .ack fun t => State.Ends
          { s with
            links := perSet s.links x
              { link with
                rx := []
                seq := link.seq + 1
                inFlight := some
                  { exchange := f.exchange, frame := o, seq := link.seq, todo := rest, phase := .sending, cut := false,
                    marked := false } } } t) ∧
        (f.marked = true → f.frame.body ≠ .contextCommit →
          (∀ b, f.frame.body.calls b = true → answered b fun t => abandoned t { link with rx := [] }) ∧
            (n ≤ (s.tick - t0).toNat → link.rx = [] → ∃ t, exec (.answerTimeout x) s = .next t ∧ abandoned t link)) ∧
        (∀ form, f.frame.body = .contextCommit → f.todo = [] → e.form = some form →
          (answered (.contextAck .applied) fun t =>
            s.RestoreFrame t ∧ s.SparesOthers t u ∧ t.PermitLaw ∧ (∀ v, v ≠ u → t.ctx v = s.ctx v) ∧
              ((s.ctx u).validity = .empty → t.ctx u = s.ctx u) ∧
              ((s.ctx u).validity ≠ .empty → form = .record → t.ctx u = { s.ctx u with validity := .written }) ∧
              (∀ c, (s.ctx u).validity = .frozen → form = .unknown → (s.ctx u).content = some (.door c) →
                t.ctx u =
                  { s.ctx u with
                    validity := .written
                    content := some (.door { c with leaf := .indefinite, position := none }) }) ∧
              ((s.ctx u).validity = .frozen → form = .empty → t.ctx u = ContextRecord.blank) ∧
              ∃ e', t.unit u = some e' ∧ e'.decl = e.decl ∧ e'.state = .live ∧ e'.form = none ∧ e'.retry = e.retry ∧
                (e'.restrained = true ↔ form = .unknown) ∧
                e'.pollDue = some (s.tick + BitVec.ofNat 32 s.timing.pollPeriod)) ∧
            (n ≤ (s.tick - t0).toNat → link.rx = [] → e.retry + 1 ≤ s.timing.retryLimit →
              ∃ t, exec (.answerTimeout x) s = .next t ∧ s.RestoreFrame t ∧ s.SparesOthers t u ∧ t.ctxs = s.ctxs ∧
                t.unit u = some { e with retry := e.retry + 1 } ∧
                s.Hands t e.decl.seg (.contextSequence u)))

/-- A poll timer that comes due hands its exchange to the running link as the newest of the queue, in place of one for the
same unit, and on an idle link it goes on the line as the arbiter chooses: the context poll of a LIVE unit, and, before the
deadline, the verify poll of a unit in VERIFY, which counts one poll more (R82, R83, R88, R149; the due tests of log entry 6). -/
def Obligations.TimersHandTheirPolls : Prop :=
  ∀ (s : State) (u : UnitIx) (e : UnitEntry) (d : Tick), s.powered = true → s.resetLow = false → s.unit u = some e →
    let x := e.decl.seg
    let queued (ex : Exchange) : PerSeg Link := perSet s.links x
      { perGet s.links x with
        queue := ((perGet s.links x).queue.filter fun q => !(some u == q.unit?)) ++ [ex] }
    (perGet s.links x).halted = false → (s.tick - d).toNat < 2 ^ 31 →
    (e.state = .live → e.pollDue = some d →
      ∃ t, exec (.pollTimerDue u) s = .next t ∧ State.Ends
        { s with units := s.units.set u.val (some { e with pollDue := none }), links := queued (.contextPoll u) } t ∧
        (perGet t.links x).Holds (.contextPoll u)) ∧
      ∀ (v : VerifyRecord) (deadline : Tick), e.state = .verify → e.verify = some v → v.phase = .polling deadline →
        v.pollDue = some d → 2 ^ 31 ≤ (s.tick - (deadline + 1)).toNat →
        ∃ t, exec (.verifyPollDue u) s = .next t ∧ State.Ends
          { s with
            units := s.units.set u.val
              (some { e with verify := some { v with pollDue := none, polls := min (v.polls + 1) 255 } })
            links := queued (.verifyPoll u) } t ∧
          (perGet t.links x).Holds (.verifyPoll u)

/-- The verify deadline passes: with a poll in flight the timer stops and the poll is waited for; with none the timeout is a
fault, and within the retry limit the verify request is made again, handed to the running link where the slot declares an
image to ask for, polls sent keeping its count (R72, R148, R149; log entries 6 and 41). -/
def Obligations.VerifyDeadlineIsAFault : Prop :=
  ∀ (s : State) (u : UnitIx) (e : UnitEntry) (v : VerifyRecord) (deadline : Tick), s.powered = true →
    s.resetLow = false → s.MembershipLaw → s.unit u = some e → e.state = .verify → e.verify = some v →
    v.phase = .polling deadline → (s.tick - (deadline + 1)).toNat < 2 ^ 31 →
    (∀ f, (perGet s.links e.decl.seg).inFlight = some f → f.exchange = .verifyPoll u → f.cut = false →
      ∃ t, exec (.verifyDeadline u) s = .next t ∧ State.Ends
        { s with
          units := s.units.set u.val (some { e with verify := some { v with pollDue := none } })
          links := perSet s.links e.decl.seg
            { perGet s.links e.decl.seg with
              queue := (perGet s.links e.decl.seg).queue.filter fun q => q != .verifyPoll u } } t) ∧
      ((∀ f, (perGet s.links e.decl.seg).inFlight = some f → f.exchange ≠ .verifyPoll u) →
        e.retry + 1 ≤ s.timing.retryLimit →
        ∃ t, exec (.verifyDeadline u) s = .next t ∧ s.RestoreFrame t ∧ s.SparesOthers t u ∧
          t.unit u = some
            { e with retry := e.retry + 1, verify := some { v with phase := .requesting, pollDue := none } } ∧
          ((s.slot e.decl.slot).info? ≠ none → s.Hands t e.decl.seg (.verifyRequest u)))

/-! ### Image array -/

/-- One block written, and one block read. The write of an IMAGE_DATA ends: the block holds the bytes and every other byte
reads as before, t joins the written set and the cursor follows it, and the reply becomes owed; in DEEP no reply does, nor for
a request that a DEEP entry has muted. A window's read ends: the block of the slot that follows those read joins the buffer;
with the last one the window moves to CARRYING, and each segment that has a participant not IGNORED is handed its part with
the blocks and those participants in order, every other part being ENDED at once; where every participant is IGNORED the
window ends with no results (R29, R46, R50, R138, R139, R145, R194; log entry 24 for a muted request that ends after DEEP). -/
def Obligations.BlockWritesAndReadsEnd : Prop :=
  (∀ (s : State) (kind tag : Byte) (k : SlotIx) (t : Nat) (data : List Byte) (i : SlotInfo) (cursor : Nat)
      (written : List Nat) (muted : Bool), s.powered = true → s.resetLow = false → s.ims.port = some .longRequest →
      s.clnk.long = some ⟨kind, tag, .imageData k t data, muted⟩ → s.slot k = .loading i cursor written →
      i.first + t < 512 → data.length = 1024 → s.gapc.state ≠ .lost →
      let set := written.filter (fun b => decide (b < t)) ++ t :: written.filter (fun b => decide (t < b))
      let ims : ImageStore :=
        { slots := s.ims.slots.set k.val (.loading i (t + 1) set)
          mem := Memory.writeBlock s.ims.mem (i.first + t) data
          port := none }
      (∀ j, j < 1024 → Memory.read ims.mem (1024 * (i.first + t) + j) = data.getD j 0) ∧
      (∀ a, a < 1024 * (i.first + t) ∨ 1024 * (i.first + t) + 1024 ≤ a →
        Memory.read ims.mem a = Memory.read s.ims.mem a) ∧
      (s.gapc.state ≠ .deep → muted = false → s.clnk.owed.length < 4 →
        ∃ s', exec .arrayAccessDone s = .next s' ∧ State.Ends
          { s with
            ims := ims
            clnk :=
              { s.clnk with
                long := none
                owed := s.clnk.owed ++ [⟨kind, tag, .ok (.written (t + 1) set.length)⟩] } } s') ∧
      (s.gapc.state = .deep ∨ muted = true →
        ∃ s', exec .arrayAccessDone s = .next s' ∧
          State.Ends { s with ims := ims, clnk := { s.clnk with long := none } } s')) ∧
    ∀ (s : State) (w : Window) (i : SlotInfo), s.powered = true → s.resetLow = false → s.ims.port = some .stream →
      s.seng = some w → w.phase = .reading → w.buffer.length < w.count → (s.slot w.slot).info? = some i →
      i.first + w.start + w.buffer.length < 512 →
      let block : List Byte :=
        (List.range 1024).map fun j => Memory.read s.ims.mem (1024 * (i.first + w.start + w.buffer.length) + j)
      let read : Window := { w with buffer := w.buffer ++ [block] }
      let live (x : Seg) : List UnitIx :=
        (w.participants.filter fun q => decide (q.seg = x ∧ q.answer ≠ .ignored)).map (·.unit)
      let part (x : Seg) : WindowPart :=
        { slot := w.slot, level := w.level, start := w.start, blocks := read.buffer, members := live x }
      (w.buffer.length + 1 < w.count →
        ∃ t, exec .arrayAccessDone s = .next t ∧
          State.Ends { s with ims := { s.ims with port := none }, seng := some read } t) ∧
        (w.buffer.length + 1 = w.count → s.FlightLaw → (∃ x, live x ≠ []) →
          ∃ t, exec .arrayAccessDone s = .next t ∧ s.RestoreFrame t ∧ t.units = s.units ∧ t.ctxs = s.ctxs ∧ t.PermitLaw ∧
            t.seng = some
              { read with
                phase := .carrying, parts := perOf fun x => if live x = [] then .ended else .carrying } ∧
            ∀ x, (live x = [] → perGet t.links x = (perGet s.links x).arbitrate s.framesOf) ∧
              (live x ≠ [] →
                perGet t.links x = ((perGet s.links x).handPart (part x)).arbitrate s.framesOf ∧
                  s.Hands t x (.window (part x)))) ∧
        (w.buffer.length + 1 = w.count → (∀ x, live x = []) →
          ∃ t, exec .arrayAccessDone s = .next t ∧ s.RestoreFrame t ∧
            (∀ v, t.seng = some v → v.phase = .reading ∧ v.buffer = []) ∧
            (∀ u e, s.unit u = some e → ∃ e', t.unit u = some e' ∧ e'.decl = e.decl ∧ e'.retry = e.retry))

/-- IMAGE_CLOSE's accesses: a fill write puts 0xFF in a block that was not written; a scan read carries the CRC on; the last
one answers OK with the slot VALID where the CRC agrees, and MISMATCH with the slot DAMAGED where it does not; a request that
a DEEP entry has muted owes no reply (R29, R47, R49, R194; log entry 24). -/
def Obligations.ImageCloseAccessesEnd : Prop :=
  ∀ (s : State) (kind tag : Byte) (k : SlotIx) (filled scanned : Nat) (crc : Crc32) (i : SlotInfo) (cursor : Nat)
    (written : List Nat) (muted : Bool), s.powered = true → s.resetLow = false → s.ims.port = some .longRequest →
    s.slot k = .loading i cursor written → s.gapc.state ≠ .deep → s.gapc.state ≠ .lost → s.clnk.owed.length < 4 →
    let owed (st : Status) : List Reply := if muted then s.clnk.owed else s.clnk.owed ++ [⟨kind, tag, st⟩]
    (∀ (b : Nat) (rest : List Nat),
      s.clnk.long = some ⟨kind, tag, .imageClose k (b :: rest) filled scanned crc, muted⟩ →
      i.first + b < 512 →
      ∃ t, exec .arrayAccessDone s = .next t ∧ State.Ends
        { s with
          ims := { s.ims with mem := Memory.writeBlock s.ims.mem (i.first + b) (List.replicate 1024 0xFF), port := none }
          clnk := { s.clnk with long := some ⟨kind, tag, .imageClose k rest (filled + 1) scanned crc, muted⟩ } } t) ∧
    (s.clnk.long = some ⟨kind, tag, .imageClose k [] filled scanned crc, muted⟩ → i.first + scanned < 512 →
      let now := crc32Update crc (Memory.readBlock s.ims.mem (i.first + scanned))
      (scanned + 1 < i.len →
        ∃ t, exec .arrayAccessDone s = .next t ∧ State.Ends
          { s with
            ims := { s.ims with port := none }
            clnk := { s.clnk with long := some ⟨kind, tag, .imageClose k [] filled (scanned + 1) now, muted⟩ } } t) ∧
        (i.len ≤ scanned + 1 → ~~~now ≠ i.crc →
          ∃ t, exec .arrayAccessDone s = .next t ∧ State.Ends
            { s with
              ims := { s.ims with slots := s.ims.slots.set k.val (.damaged i .mismatch), port := none }
              clnk := { s.clnk with long := none, owed := owed (.mismatch (.image (~~~now) filled)) } } t) ∧
        (i.len ≤ scanned + 1 → ~~~now = i.crc →
          ∃ t, exec .arrayAccessDone s = .next t ∧ State.RestoreFrame
            { s with
              ims := { s.ims with slots := s.ims.slots.set k.val (.valid i), port := none }
              clnk := { s.clnk with long := none, owed := owed (.ok (.closed i.crc filled)) } } t ∧
            t.clnk.owed = owed (.ok (.closed i.crc filled))))

/-- The slot-table write of IMAGE_ERASE leaves the slot EMPTY, or is turned away where the slot has come into use; the
first access of SAVE_CONFIG erases the record, leaving one that is not valid, and the second writes it with its CRC-32, valid
where its contents are in range; a request that a DEEP entry has muted owes no reply (R29, R48, R198, R199, R200; log entries
9, 11 and 24). -/
def Obligations.EraseAndSaveAccessesEnd : Prop :=
  ∀ (s : State) (kind tag : Byte) (muted : Bool), s.powered = true → s.resetLow = false →
    s.ims.port = some .longRequest → s.gapc.state ≠ .deep → s.gapc.state ≠ .lost → s.clnk.owed.length < 4 →
    let owed (st : Status) : List Reply := if muted then s.clnk.owed else s.clnk.owed ++ [⟨kind, tag, st⟩]
    (∀ k : SlotIx, s.clnk.long = some ⟨kind, tag, .imageErase k, muted⟩ →
      (s.inUse k = false →
        ∃ t, exec .arrayAccessDone s = .next t ∧ State.Ends
          { s with
            ims := { s.ims with slots := s.ims.slots.set k.val .empty, port := none }
            clnk := { s.clnk with long := none, owed := owed (.ok .nothing) } } t) ∧
      (s.inUse k = true →
        ∃ t, exec .arrayAccessDone s = .next t ∧ State.Ends
          { s with
            ims := { s.ims with port := none }
            clnk := { s.clnk with long := none, owed := owed .inUse } } t)) ∧
    ∀ c : ConfigData,
      (s.clnk.long = some ⟨kind, tag, .saveErase c, muted⟩ →
        ∃ t, exec .arrayAccessDone s = .next t ∧ State.Ends
          { s with
            cfgr := t.cfgr
            ims := { s.ims with port := none }
            clnk := { s.clnk with long := some ⟨kind, tag, .saveWrite c, muted⟩ } } t ∧ t.resetValid = false) ∧
      (s.clnk.long = some ⟨kind, tag, .saveWrite c, muted⟩ →
        let crc : Crc32 := ~~~crc32Update 0xFFFFFFFF (Config.recordBytes Config.recordMarker Config.recordFormat c)
        ∃ t, exec .arrayAccessDone s = .next t ∧ State.Ends
          { s with
            cfgr := some { marker := Config.recordMarker, format := Config.recordFormat, data := c, crc := crc }
            ims := { s.ims with port := none }
            clnk := { s.clnk with long := none, saved := true, owed := owed (.ok (.recordCrc crc)) } } t ∧
          t.resetValid = contentsValid c ∧ (contentsValid c = true → t.resetConfig = c))

/-! ### Control link: frames that are no requests, and the transmitter -/

/-- The control link's frames byte by byte. Received with the link on into an empty buffer, the bytes of a request's frame
queue that request alone and leave the buffer empty, so that the very next byte may begin a frame; with a last byte that is
wrong they queue a bad frame. A byte other than 0xA5 is skipped while hunting, a length above 1,060 ends the frame as bad, and
with the link off a byte is lost. A reply's frame has the request's kind plus 0x80, its tag, and the status as the first
payload byte of at most 1,060, alone where the status is UNKNOWN_KIND or IN_USE or the request has no result; and the CRC-16
has its check value (R29, R190, R191, R193, R203, R206; log entry 3). -/
def Obligations.ControlFramesAreReceivedAndBuilt : Prop :=
  (∀ (s : State) (c : Instr) (kind : Byte), s.powered = true → s.resetLow = false →
      (s.gapc.state = .supplied ∨ s.gapc.state = .gap ∨ s.gapc.state = .settle ∨ s.gapc.state = .restore) →
      s.clnk.rx = [] → c.requestKind? = some kind → c.wellFormed = true →
      let frame : List Byte := controlFrame kind c.tag c.payload
      s.hearBytes frame = { s with pending := s.pending ++ [c] } ∧
        s.hearBytes (frame ++ [0xA5]) =
          { s with clnk := { s.clnk with rx := [0xA5] }, pending := s.pending ++ [c] } ∧
        (∀ b, frame.getLast? ≠ some b →
          s.hearBytes (frame.dropLast ++ [b]) = { s with pending := s.pending ++ [.controlFrameBad] }) ∧
        (∀ b, b ≠ 0xA5 → s.hearBytes (b :: frame) = { s with pending := s.pending ++ [c] }) ∧
        ∀ hi lo : Byte, 1060 < 256 * hi.toNat + lo.toNat →
          s.hearBytes [0xA5, hi, lo] = { s with pending := s.pending ++ [.controlFrameBad] }) ∧
    (∀ (s : State) (b : Byte),
      s.powered = false ∨ s.resetLow = true ∨ s.gapc.state = .deep ∨ s.gapc.state = .lost → s.hearByte b = s) ∧
    (∀ r : Reply, ∃ detail,
      r.frame = controlFrame (r.kind + 0x80) r.tag (r.status.code :: detail) ∧ detail.length ≤ 1059 ∧
        (∀ k g, r.status = .busy k g → detail = [k, g]) ∧
        (r.status = .unknownKind ∨ r.status = .inUse ∨ r.status = .ok .nothing → detail = []) ∧
        (∀ v, r.status = .badLength v → detail = [(v >>> 8).setWidth 8, v.setWidth 8])) ∧
    (∀ (kind tag : Byte) (p : List Byte),
      let body : List Byte := be16 (BitVec.ofNat 16 p.length) ++ [kind, tag] ++ p
      controlFrame kind tag p = 0xA5 :: body ++ be16 (crc16 body)) ∧
    crc16 [0x31, 0x32, 0x33, 0x34, 0x35, 0x36, 0x37, 0x38, 0x39] = 0x29B1

/-- Frames that are discarded. On a segment, a received frame that fails a test of R79 does nothing while no wait has timed
out, and leaves the bytes of a next frame in the receive buffer; a byte pause empties the buffer. A frame begun before the
answer timeout passes is received to its end: while it is, the timeout ends no wait, and where the frame is then discarded, by
a test or a pause, the wait ends as the timeout ends it with the buffer empty; a byte that comes after the timeout with no
frame begun is lost. On the control link, with it on, a byte pause only empties the receive buffer; a bad frame and a frame of
a reply kind change nothing; a kind that names no request is answered UNKNOWN_KIND, and silently dropped after a RESET or with
4 replies owed (R79, R80, R190, R191; log entry 3, and 34 for the byte pause). -/
def Obligations.DiscardedFramesChangeNothing : Prop :=
  (∀ (s : State) (x : Seg), s.powered = true → s.resetLow = false →
    let cleared : State := { s with links := perSet s.links x { perGet s.links x with rx := [] } }
    let fails (c : Instr) : Prop :=
      c = .segmentFrameDiscarded x ∨ ∃ a : AnswerFrame, c = .segmentAnswer x a ∧
        ∀ f, (perGet s.links x).inFlight = some f → a.address ≠ f.frame.dest ∨ a.seq ≠ f.seq
    ((∀ f t0 n, (perGet s.links x).inFlight = some f → f.phase = .waiting t0 n → (s.tick - t0).toNat < n) →
      (∃ t, exec (.segmentBytePause x) s = .next t ∧ State.Ends cleared t) ∧
        ∀ c, fails c → ∃ t, exec c s = .next t ∧ State.Ends s t) ∧
      ((perGet s.links x).rx ≠ [] → exec (.answerTimeout x) s = .next s ∧
        ∀ c, fails c → ∃ t, exec c s = .next t ∧ State.Ends s t) ∧
      ∀ f t0 n, (perGet s.links x).inFlight = some f → f.phase = .waiting t0 n → n ≤ (s.tick - t0).toNat →
        exec (.segmentBytePause x) s = exec (.answerTimeout x) cleared ∧
          ((perGet s.links x).rx = [] → (∀ c, fails c → exec c s = exec (.answerTimeout x) s) ∧
            ∀ b, s.hearSegmentByte x b = s)) ∧
    ∀ s : State, s.powered = true → s.resetLow = false →
      (s.gapc.state = .supplied ∨ s.gapc.state = .gap ∨ s.gapc.state = .settle ∨ s.gapc.state = .restore) →
      exec .controlBytePause s = .next { s with clnk := { s.clnk with rx := [] } } ∧ exec .controlFrameBad s = .next s ∧
        (∀ kind tag : Byte, 0x80 ≤ kind.toNat → exec (.replyKindFrameDiscarded kind tag) s = .next s) ∧
        ∀ kind tag : Byte, (Instr.unknownKind kind tag).wellFormed = true →
          (s.clnk.resetAccepted = true ∨ 4 ≤ s.clnk.owed.length → exec (.unknownKind kind tag) s = .next s) ∧
            (s.clnk.resetAccepted = false → s.clnk.owed.length < 4 →
              ∃ t, exec (.unknownKind kind tag) s = .next t ∧ State.Ends (s.replied kind tag .unknownKind) t)

/-- A reply whose last byte is sent leaves the list, and the waiting reply of a finished long request takes the place come
free; a sent notice frees the transmitter. The next reply goes before a notice, and with no reply owed a set device flag not
yet reported goes out in one, after the last reply as after a notice; after the RESET reply, the last one owed, the warm reset
is performed (R37, R184, R194, R197; log entry 19). -/
def Obligations.TransmitDoneGoesOn : Prop :=
  ∀ s : State, s.powered = true → s.resetLow = false →
    (s.gapc.state = .supplied ∨ s.gapc.state = .gap ∨ s.gapc.state = .settle ∨ s.gapc.state = .restore) →
    let noticed (t : State) : Prop := s.cflu.unrepDevice ≠ 0 → t.cflu.unrepDevice = 0 ∧
      ∃ d l, t.clnk.tx = some (.notice d l) ∧ s.cflu.unrepDevice &&& d = s.cflu.unrepDevice
    (s.clnk.tx = some .reply → s.clnk.resetAccepted = false →
      (∀ l st, s.clnk.long = some l → l.work ≠ .finished st) →
      ∃ t, exec .transmitDone s = .next t ∧
        State.Ends { s with clnk := { s.clnk with tx := none, owed := s.clnk.owed.drop 1 } } t ∧
        (1 < s.clnk.owed.length → t.clnk.tx = some .reply) ∧ (s.clnk.owed.length ≤ 1 → noticed t)) ∧
      (∀ l st, s.clnk.tx = some .reply → s.clnk.resetAccepted = false → s.clnk.long = some l → l.work = .finished st →
        s.clnk.owed.length ≤ 4 →
        ∃ t, exec .transmitDone s = .next t ∧ t.clnk.tx = some .reply ∧
          State.Ends
            { s with
              clnk :=
                { s.clnk with
                  tx := none, long := none, owed := s.clnk.owed.drop 1 ++ [⟨l.kind, l.tag, st⟩] } } t) ∧
      (∀ d l, s.clnk.tx = some (.notice d l) →
        ∃ t, exec .transmitDone s = .next t ∧ State.Ends { s with clnk := { s.clnk with tx := none } } t ∧
          (s.clnk.owed ≠ [] → t.clnk.tx = some .reply) ∧ (s.clnk.owed = [] → noticed t)) ∧
      (s.clnk.tx = some .reply → s.clnk.resetAccepted = true → s.clnk.owed.length = 1 →
        s.ims.port ≠ some .longRequest →
        exec .transmitDone s = .next (s.afterReset s.gapc.count s.keptContexts (s.resetFlags 0x8000)))

/-! ### Requests: the checks of R191 -/

/-- Every request: with the link off its frame is lost; after a RESET or with 4 replies owed it is discarded; of a wrong
length it is answered BAD_LENGTH with the length its kind calls for, or 0 for a count that no layout holds; and while a long
request is in progress, BUSY, unless it is a query (R29, R190, R191, R192, R193, R204; log entry 10 where a payload ends before
its count). -/
def Obligations.RequestsAreCheckedInOrder : Prop :=
  ∀ (c : Instr) (s : State) (kind : Byte), c.requestKind? = some kind → c.wellFormed = true →
    (s.powered = false ∨ s.resetLow = true ∨ s.gapc.state = .deep ∨ s.gapc.state = .lost → exec c s = .next s) ∧
      (s.powered = true → s.resetLow = false →
        (s.gapc.state = .supplied ∨ s.gapc.state = .gap ∨ s.gapc.state = .settle ∨ s.gapc.state = .restore) →
        s.clnk.resetAccepted = true ∨ 4 ≤ s.clnk.owed.length →
        exec c s = .next s) ∧
      (s.Takes →
        let p := c.payload
        let badLength (n : Nat) : Prop :=
          ∃ t, exec c s = .next t ∧ State.Ends (s.replied kind c.tag (.badLength (BitVec.ofNat 16 n))) t
        let long : Prop := ∀ l, s.clnk.long = some l →
          ∃ t, exec c s = .next t ∧ State.Ends (s.replied kind c.tag (.busy l.kind l.tag)) t
        let list (i most width before : Nat) : Prop :=
          (i < p.length → most < u8 p i → badLength 0) ∧
            (i < p.length → u8 p i ≤ most → p.length ≠ before + width * u8 p i → badLength (before + width * u8 p i)) ∧
            (i < p.length → u8 p i ≤ most → p.length = before + width * u8 p i → long) ∧
            (p.length ≤ i → ∃ n, n < 65536 ∧ badLength n)
        (∀ n, c.fixedLength? = some n →
          (p.length ≠ n → badLength n) ∧ (p.length = n → c.isQuery = false → long)) ∧
          (kind = 0x11 →
            (4 ≤ p.length → u16 p 2 ≠ 1024 → badLength 0) ∧
              (p.length < 4 ∨ u16 p 2 = 1024 ∧ p.length ≠ 1028 → badLength 1028) ∧
              (u16 p 2 = 1024 → p.length = 1028 → long)) ∧
          (kind = 0x26 →
            (1 ≤ p.length → 17 < u8 p 0 → badLength 0) ∧
              (p.length = 0 → ∃ n, n < 65536 ∧ badLength n) ∧
              (1 ≤ p.length → u8 p 0 ≤ 17 → list (1 + u8 p 0) 24 3 (2 + u8 p 0))) ∧
          (kind = 0x25 →
            (p.length = 0 → ∃ n, n < 65536 ∧ badLength n) ∧
              (1 ≤ p.length → (∀ u : UnitIx, u8 p 0 = u.val → s.unit u = none) → long) ∧
              ∀ (u : UnitIx) (e : UnitEntry), 1 ≤ p.length → u8 p 0 = u.val → s.unit u = some e →
                (e.decl.cls = .door ∨ e.decl.cls = .ramp →
                  (p.length ≠ 14 → badLength 14) ∧ (p.length = 14 → long)) ∧
                  (e.decl.cls = .dest ∨ e.decl.cls = .saloon → list 6 4 2 7) ∧
                  (e.decl.cls = .announce → list 2 4 2 3)))

/-! ### Setting requests -/

/-- SET_MONITOR with every field in range is answered OK with the settings, D clamped to 1..16; a new N empties every
window, and a new threshold or D sets the counters to 0 and gives up the candidates; N out of range is refused with field 1
(R15, R16). -/
def Obligations.SetMonitorAppliesOrRefuses : Prop :=
  ∀ (s : State) (tag : Byte) (p : List Byte), s.TakesWork → p.length = 20 →
    let m : MonitorSettings :=
      { n := u8 p 0, d := max 1 (min 16 (u8 p 1)), offLine := s16 p 2, offHold := s16 p 4,
        offSense := ⟨s16 p 6, s16 p 8, s16 p 10⟩, gapEnter := u16 p 12, gapExit := u16 p 14, holdDeep := u16 p 16,
        holdRetain := u16 p 18 }
    let inRange (v : Int) : Prop := -128 ≤ v ∧ v ≤ 127
    let refill : Prop := m.n ≠ s.smon.settings.n
    let recount : Prop := m.gapEnter ≠ s.smon.settings.gapEnter ∨ m.gapExit ≠ s.smon.settings.gapExit ∨
      m.holdDeep ≠ s.smon.settings.holdDeep ∨ m.holdRetain ≠ s.smon.settings.holdRetain ∨ m.d ≠ s.smon.settings.d
    ((m.n = 1 ∨ m.n = 2 ∨ m.n = 4 ∨ m.n = 8) → inRange m.offLine → inRange m.offHold → inRange m.offSense.a →
      inRange m.offSense.b → inRange m.offSense.c → 5000 ≤ m.gapEnter → m.gapEnter ≤ 30000 →
      m.gapEnter + 500 ≤ m.gapExit → m.gapExit ≤ 38000 → 3000 ≤ m.holdDeep → m.holdDeep ≤ 18000 →
      2500 ≤ m.holdRetain → m.holdRetain + 500 ≤ m.holdDeep →
      ∃ t, exec (.setMonitor tag p) s = .next t ∧
        State.Ends { s.replied 0x01 tag (.ok (.monitor m)) with smon := t.smon } t ∧ t.smon.settings = m ∧
        t.smon.senseOn = s.smon.senseOn ∧ t.smon.cmpRef = s.smon.cmpRef ∧
        (refill → t.smon.winLine = [] ∧ t.smon.winHold = [] ∧ t.smon.winSense = ⟨[], [], []⟩) ∧
        (¬refill → t.smon.winLine = s.smon.winLine ∧ t.smon.winHold = s.smon.winHold ∧
          t.smon.winSense = s.smon.winSense) ∧
        (recount → t.smon.lineLost = 0 ∧ t.smon.lineBack = 0 ∧ t.smon.holdDeep = 0 ∧ t.smon.holdExhausted = 0 ∧
          ∀ x, perGet t.smon.classes x = { perGet s.smon.classes x with candidate := none, count := 0 }) ∧
        (¬recount → t.smon.lineLost = s.smon.lineLost ∧ t.smon.lineBack = s.smon.lineBack ∧
          t.smon.holdDeep = s.smon.holdDeep ∧ t.smon.holdExhausted = s.smon.holdExhausted ∧
          t.smon.classes = s.smon.classes)) ∧
      (m.n ≠ 1 → m.n ≠ 2 → m.n ≠ 4 → m.n ≠ 8 →
        ∃ t, exec (.setMonitor tag p) s = .next t ∧ State.Ends (s.replied 0x01 tag (.outOfRange 1)) t)

/-- SET_TIMING clamps each of its eight fields into its range, applies them at once and is answered OK with them; a new
maximum window recomputes the window size of every record. SET_MASKS replaces both mask words, bits beyond the ninth and the
seventeenth ignored. SET_PERMIT_ENABLE sets one segment's enable, and the reply carries the output as recomputed (R120, R170,
R171, R186, R195). -/
def Obligations.TimingMasksAndPermitEnablesAreSet : Prop :=
  ∀ (s : State) (tag : Byte) (p : List Byte), s.TakesWork →
    (∀ (x : Seg) (v : Bool),
      ∃ t, exec (.setPermitEnable tag [BitVec.ofNat 8 (segIndex x), if v then 1 else 0]) s = .next t ∧
        State.Ends
          { s.replied 0x04 tag (.ok (.permit (perGet t.perm.output x))) with
            perm := { s.perm with enable := perSet s.perm.enable x v } } t) ∧
    (p.length = 13 →
      let tm : TimingSettings :=
        { settle := max 10 (min 2000 (u16 p 0)), answer := max 2 (min 50 (u8 p 2)), verify := max 50 (min 1000 (u16 p 3)),
          retryLimit := min 7 (u8 p 5), pollPeriod := max 20 (min 1000 (u16 p 6)),
          ageDoor := max 100 (min 10000 (u16 p 8)), ageRamp := max 100 (min 10000 (u16 p 10)),
          maxWindow := max 1 (min 8 (u8 p 12)) }
      let fix (r : StreamRecord) : StreamRecord := { r with w := State.width { s with timing := tm } r }
      (tm.maxWindow = s.timing.maxWindow →
        ∃ t, exec (.setTiming tag p) s = .next t ∧
          State.Ends { s.replied 0x02 tag (.ok (.timing tm)) with timing := tm } t) ∧
        (tm.maxWindow ≠ s.timing.maxWindow →
          ∃ t, exec (.setTiming tag p) s = .next t ∧ State.Ends
            { s.replied 0x02 tag (.ok (.timing tm)) with
              timing := tm
              rsch := { s.rsch with active := s.rsch.active.map fix, stack := s.rsch.stack.map fix } } t)) ∧
      (p.length = 5 →
        let r : BitVec 9 := BitVec.ofNat 9 (u8 p 0 + 256 * u8 p 1)
        let a : BitVec 17 := BitVec.ofNat 17 (u8 p 2 + 256 * u8 p 3 + 65536 * u8 p 4)
        ∃ t, exec (.setMasks tag p) s = .next t ∧ State.Ends
          { s.replied 0x03 tag (.ok (.masks r a)) with cflu := { s.cflu with respOpen := r, alertMask := a } } t)

/-- SET_SEGMENT sets one segment's sense enable and yield and is answered OK with them. Sense turned on leaves its window to
be filled; turned off it makes the class NORMAL, and where that takes the segment out of DOWN in SUPPLIED or RESTORE its link
runs, its LIVE units' polls are handed to it in rising order of unit index and its DARK units enter PROBE; left as it was it
changes nothing (R14, R61, R63, R78, R82, R87, R92, R196; log entry 23). -/
def Obligations.SetSegmentSetsSenseAndYield : Prop :=
  ∀ (s : State) (tag : Byte) (x : Seg) (v y : Bool), s.TakesWork →
    let c : Instr := .setSegment tag [BitVec.ofNat 8 (segIndex x), if v then 1 else 0, if y then 1 else 0]
    let answered : State := s.replied 0x05 tag (.ok (.segment v y))
    let links : PerSeg Link := perSet s.links x ((perGet s.links x).setYield y)
    let off : Monitor :=
      { s.smon with
        senseOn := perSet s.smon.senseOn x false
        classes := perSet s.smon.classes x { current := .normal, candidate := none, count := 0 } }
    (v = perGet s.smon.senseOn x → ∃ t, exec c s = .next t ∧ State.Ends { answered with links := links } t) ∧
      (v = true → perGet s.smon.senseOn x = false →
        ∃ t, exec c s = .next t ∧ State.Ends
          { answered with
            links := links
            smon :=
              { s.smon with
                senseOn := perSet s.smon.senseOn x true, winSense := perSet s.smon.winSense x [] } } t) ∧
      (v = false → perGet s.smon.senseOn x = true → s.usable x = true →
        ∃ t, exec c s = .next t ∧ State.Ends { answered with links := links, smon := off } t) ∧
      (v = false → perGet s.smon.senseOn x = true → s.usable x = false → s.MembershipLaw →
        s.gapc.state = .supplied ∨ s.gapc.state = .restore →
        ∃ t, exec c s = .next t ∧ State.RestoreFrame { answered with smon := off } t ∧
          t.clnk.owed = s.clnk.owed ++ [⟨0x05, tag, .ok (.segment v y)⟩] ∧
          (perGet t.links x).halted = false ∧ (perGet t.links x).yieldOn = y ∧ t.PermitLaw ∧
          (∀ u e, s.unit u = some e → e.decl.seg = x → e.state = .live →
            t.unit u = some { e with pollDue := none } ∧ (perGet t.links x).Holds (.contextPoll u)) ∧
          (perGet t.links x).polls.Pairwise (· < ·) ∧
          ∀ u e, s.unit u = some e → e.decl.seg = x → e.state = .dark →
            (perGet t.links x).Holds (.probe u 0) ∧
              ∃ e', t.unit u = some e' ∧ e'.decl = e.decl ∧ e'.state = .probe ∧ e'.probe = some ⟨.probing, 0⟩)

/-! ### Unit requests -/

/-- DEFINE_UNIT whose eight checks hold leaves a fresh entry that enters PROBE where its segment serves, its probe handed to
the running link, and stays DARK elsewhere, with its context record EMPTY; the reply carries the level in force, the class
default for 0xFF (R54, R55, R56, R57, R61). -/
def Obligations.DefineUnitMakesAFreshEntry : Prop :=
  ∀ (s : State) (tag : Byte) (p : List Byte) (u : UnitIx) (d : UnitDef), s.TakesWork → s.MembershipLaw →
    p.length = 6 → u8 p 0 = u.val → seg? (u8 p 1) = some d.seg → u8 p 2 = d.addr → class? (u8 p 3) = some d.cls →
    u8 p 4 = d.slot.val → (u8 p 5 = d.level ∧ d.level ≤ 7 ∨ u8 p 5 = 0xFF ∧ d.level = d.cls.defaultLevel) →
    1 ≤ d.addr → d.addr ≤ 30 →
    (s.unit u = none ∨ ∃ e, s.unit u = some e ∧ (e.state = .isolated ∨ e.state = .failed)) →
    (∀ v e, v ≠ u → s.unit v = some e → e.decl.seg = d.seg → e.decl.addr ≠ d.addr) →
    (s.othersOn u d.seg).length < 12 → (∀ i, (s.slot d.slot).info? = some i → i.cls = d.cls) →
    ∃ t, exec (.defineUnit tag p) s = .next t ∧ s.RestoreFrame t ∧ s.SparesOthers t u ∧ t.PermitLaw ∧
      (s.serves d.seg = true → s.Hands t d.seg (.probe u 0)) ∧
      t.clnk.owed = s.clnk.owed ++ [⟨0x06, tag, .ok (.level d.level)⟩] ∧
      t.ctx u = ContextRecord.blank ∧ (∀ v, v ≠ u → t.ctx v = s.ctx v) ∧
      t.unit u = some
        { decl := d, state := if s.serves d.seg then .probe else .dark, retry := 0, heldCount := 0, heldVersion := none,
          window := s.timing.maxWindow, running := none, restrained := false, pending := none, flags := 0, misses := 0,
          firstWindow := false, joined := false, probe := if s.serves d.seg then some ⟨.probing, 0⟩ else none,
          lastBoot := none, linkTestAttempt := none, verify := none, form := none, pollDue := none }

/-- REMOVE_UNIT leaves the entry and its context record EMPTY; ISOLATE leaves the unit ISOLATED with its held count, held
version and retry count kept; both take the unit out of every record and cut its exchanges (R58, R65, R66). -/
def Obligations.RemoveAndIsolateWithdrawTheUnit : Prop :=
  ∀ (s : State) (tag b : Byte) (u : UnitIx) (e : UnitEntry), s.TakesWork → s.MembershipLaw → b.toNat = u.val →
    s.unit u = some e →
    (∃ t, exec (.removeUnit tag [b]) s = .next t ∧ s.RestoreFrame t ∧ s.SparesOthers t u ∧ t.PermitLaw ∧
        t.clnk.owed = s.clnk.owed ++ [⟨0x07, tag, .ok .nothing⟩] ∧ t.unit u = none ∧
        t.ctx u = ContextRecord.blank ∧ (∀ v, v ≠ u → t.ctx v = s.ctx v) ∧ u ∉ t.activeUnits ∧ u ∉ t.suspendedUnits ∧
        (perGet t.links e.decl.seg).place u = .absent) ∧
      (e.state ≠ .isolated →
        ∃ t, exec (.isolate tag [b]) s = .next t ∧ s.RestoreFrame t ∧ s.SparesOthers t u ∧ t.PermitLaw ∧
          t.clnk.owed = s.clnk.owed ++ [⟨0x21, tag, .ok .nothing⟩] ∧ t.ctxs = s.ctxs ∧
          u ∉ t.activeUnits ∧ u ∉ t.suspendedUnits ∧ (perGet t.links e.decl.seg).place u = .absent ∧
          t.unit u = some
            { e with
              state := .isolated, running := none, restrained := false, pending := none, misses := 0,
              firstWindow := false, joined := false, probe := none, linkTestAttempt := none, verify := none, form := none,
              pollDue := none })

/-- ADMIT sends an ISOLATED unit, and FORCE_RESTORE one in LIVE, FAILED or HELD, to PROBE where its segment serves, its probe
handed to the running link, and to DARK elsewhere, with retry count 0; FORCE_RESTORE ALL does so with every such unit and
answers with their number (R61, R67, R68, R161; log entry 42 for the record at an ADMIT in GAP or SETTLE). -/
def Obligations.AdmitAndForceRestoreProbeAgain : Prop :=
  ∀ (s : State) (tag : Byte), s.TakesWork → s.MembershipLaw →
    let probed (e e' : UnitEntry) : Prop :=
      e'.decl = e.decl ∧ e'.retry = 0 ∧ e'.running = none ∧ e'.pending = none ∧ e'.restrained = false ∧
        e'.heldCount = e.heldCount ∧ e'.heldVersion = e.heldVersion ∧ e'.flags = e.flags ∧
        (s.serves e.decl.seg = true → e'.state = .probe ∧ e'.probe = some ⟨.probing, 0⟩) ∧
        (s.serves e.decl.seg = false → e'.state = .dark)
    let handed (t : State) (u : UnitIx) (e : UnitEntry) : Prop :=
      s.serves e.decl.seg = true → s.Hands t e.decl.seg (.probe u 0)
    let forcible (e : UnitEntry) : Prop := e.state = .live ∨ e.state = .failed ∨ e.state = .held
    (∀ (b : Byte) (u : UnitIx) (e : UnitEntry), b.toNat = u.val → s.unit u = some e →
      (e.state = .isolated →
        ∃ t, exec (.admitUnit tag [b]) s = .next t ∧ s.RestoreFrame t ∧ s.SparesOthers t u ∧ t.PermitLaw ∧
          t.clnk.owed = s.clnk.owed ++ [⟨0x22, tag, .ok .nothing⟩] ∧
          (t.ctx u).validity ≠ .current ∧ (t.ctx u).validity ≠ .written ∧ handed t u e ∧
          ∃ e', t.unit u = some e' ∧ probed e e') ∧
        (forcible e →
          ∃ t, exec (.forceRestore tag [b]) s = .next t ∧ s.RestoreFrame t ∧ s.SparesOthers t u ∧ t.PermitLaw ∧
            t.clnk.owed = s.clnk.owed ++ [⟨0x20, tag, .ok .nothing⟩] ∧
            (e.state ≠ .live → t.ctxs = s.ctxs) ∧
            (e.state = .live → (t.ctx u).validity ≠ .current ∧ (t.ctx u).validity ≠ .written) ∧
            handed t u e ∧ ∃ e', t.unit u = some e' ∧ probed e e')) ∧
      ∃ t n, exec (.forceRestore tag [0xFF]) s = .next t ∧ s.RestoreFrame t ∧ t.PermitLaw ∧
        t.clnk.owed = s.clnk.owed ++ [⟨0x20, tag, .ok (.acted n)⟩] ∧
        n = ((List.finRange 24).filter fun u => (s.unit u).any fun e => e.state.forcible).length ∧
        ∀ u e, s.unit u = some e →
          (forcible e → handed t u e ∧ ∃ e', t.unit u = some e' ∧ probed e e') ∧
            (e.state = .dark ∨ e.state = .probe ∨ e.state = .verify ∨ e.state = .context ∨ e.state = .isolated →
              t.unit u = some e)

/-- RESOLVE of a HELD unit: RETRY probes it again with retry count 0, FAIL sends it to FAILED, and PROCEED makes the pending
condition's default action, here for IMAGE_UNUSABLE, VERSION_AHEAD and CONTEXT_UNKNOWN on a usable segment; the reply
carries the unit's state after it, and the probe, the restart or the context sequence it takes is handed to the running link
(R61, R178, R179). -/
def Obligations.ResolveActsOnAHeldUnit : Prop :=
  ∀ (s : State) (tag b : Byte) (u : UnitIx) (e : UnitEntry), s.TakesWork → s.MembershipLaw → b.toNat = u.val →
    s.unit u = some e → e.state = .held →
    let acts (action : Byte) (st : UnitState) (handed : Option Exchange) (good : UnitEntry → Prop) : Prop :=
      ∃ t, exec (.resolve tag [b, action]) s = .next t ∧ s.RestoreFrame t ∧ s.SparesOthers t u ∧ t.PermitLaw ∧
        t.ctxs = s.ctxs ∧ t.clnk.owed = s.clnk.owed ++ [⟨0x23, tag, .ok (.unitState st)⟩] ∧
        (∀ ex, handed = some ex → s.Hands t e.decl.seg ex) ∧
        ∃ e', t.unit u = some e' ∧ e'.decl = e.decl ∧ e'.state = st ∧ e'.pending = none ∧ good e'
    acts 1 (if s.serves e.decl.seg then .probe else .dark) (if s.serves e.decl.seg then some (.probe u 0) else none)
        (fun e' => e'.retry = 0 ∧ e'.flags = e.flags) ∧
      acts 2 .failed none (fun e' =>
        e'.retry = e.retry ∧ e'.flags = e.flags ||| BitVec.twoPow 13 UnitFlag.failed.bit) ∧
      (e.pending = some .imageUnusable →
        acts 0 .failed none (fun e' =>
          e'.retry = e.retry ∧ e'.flags = e.flags ||| BitVec.twoPow 13 UnitFlag.failed.bit)) ∧
      (e.pending = some .versionAhead → s.serves e.decl.seg = true →
        acts 0 .probe (some (.restart u)) (fun e' => e'.retry = e.retry ∧ e'.probe = some ⟨.restarting .ahead, 0⟩)) ∧
      (e.pending = some .contextUnknown → s.usable e.decl.seg = true →
        acts 0 .context (some (.contextSequence u)) (fun e' => e'.retry = e.retry ∧ e'.form = some .unknown))

/-- RELEASE_UNIT clears the restraint of a LIVE unit, from which the permit follows; RESET sets the reset flag and makes its
reply owed (R168, R170, R197). -/
def Obligations.ReleaseAndResetAreAnswered : Prop :=
  (∀ (s : State) (tag b : Byte) (u : UnitIx) (e : UnitEntry), s.TakesWork → b.toNat = u.val → s.unit u = some e →
      e.state = .live → e.restrained = true →
      ∃ t, exec (.releaseUnit tag [b]) s = .next t ∧ State.Ends
        { s.replied 0x24 tag (.ok .nothing) with
          units := s.units.set u.val (some { e with restrained := false }) } t) ∧
    ∀ (s : State) (tag : Byte), s.TakesWork →
      ∃ t, exec (.reset tag []) s = .next t ∧ State.Ends
        { s with
          clnk :=
            { s.clnk with
              owed := s.clnk.owed ++ [⟨0x27, tag, .ok .nothing⟩], resetAccepted := true } } t

/-- CONTEXT_WRITE into an EMPTY or FROZEN record of a unit not in CONTEXT leaves the record FROZEN, captured now, with the
content of the unit's class that it carries; a DOOR or RAMP content field by field (R156, R157, R169, R204). -/
def Obligations.ContextWriteFreezesItsContent : Prop :=
  ∀ (s : State) (tag : Byte) (p : List Byte) (u : UnitIx) (e : UnitEntry), s.TakesWork → p.length ≤ 1060 →
    u8 p 0 = u.val → s.unit u = some e → e.state ≠ .context →
    ((s.ctx u).validity = .empty ∨ (s.ctx u).validity = .frozen) → s.contextWriteNeed p = none →
    let written (c : Content) : Prop :=
      ∃ t, exec (.contextWrite tag p) s = .next t ∧ State.Ends
        { s.replied 0x25 tag (.ok .nothing) with
          ctxs := s.ctxs.set u.val
            { validity := .frozen, capturedAt := some s.tick, ageUnknown := false, rangeFlag := false,
              content := some c } } t
    (firstBad (contentChecks e.decl.cls p) = none → written (contentOf e.decl.cls p)) ∧
      ∀ (leaf : Leaf), (e.decl.cls = .door ∨ e.decl.cls = .ramp) → leaf? (u8 p 1) = some leaf → u8 p 2 = 1 →
        u16 p 3 ≤ u16 p 5 → 1 ≤ u16 p 5 → u8 p 10 = 0 →
        written (.door
          { leaf := leaf, position := some (u16 p 3), stroke := u16 p 5, cycles := u24 p 7, obstruction := none })

/-- CLEAR_FLAGS of one device flag, and of one unit's flags by their word or ALL, makes them clear, takes them out of the
unreported set, and answers with the device flags (R182, R183, R192, R204). -/
def Obligations.ClearFlagsClears : Prop :=
  ∀ (s : State) (tag : Byte), s.TakesWork →
    (∀ n : Byte, n.toNat ≤ 16 →
      let kept : BitVec 17 := ~~~BitVec.twoPow 17 n.toNat
      ∃ t, exec (.clearFlags tag [1, n, 0]) s = .next t ∧ State.Ends
        { s.replied 0x26 tag (.ok (.deviceFlags (s.cflu.device &&& kept))) with
          cflu :=
            { s.cflu with device := s.cflu.device &&& kept, unrepDevice := s.cflu.unrepDevice &&& kept } } t) ∧
      ∀ (b high low : Byte) (u : UnitIx) (e : UnitEntry) (mask : BitVec 13), b.toNat = u.val → s.unit u = some e →
        (high = 0xFF ∧ low = 0xFF ∧ mask = BitVec.allOnes 13 ∨
          high.toNat < 32 ∧ mask = BitVec.ofNat 13 (256 * high.toNat + low.toNat)) →
        ∃ t, exec (.clearFlags tag [0, 1, b, high, low]) s = .next t ∧ State.Ends
          { s.replied 0x26 tag (.ok (.deviceFlags s.cflu.device)) with
            units := s.units.set u.val (some { e with flags := e.flags &&& ~~~mask })
            cflu :=
              { s.cflu with
                unrepUnits := s.cflu.unrepUnits.set u.val (s.cflu.unrepUnits[u.val] &&& ~~~mask) } } t

/-! ### Image requests and the other long requests -/

/-- IMAGE_OPEN in SUPPLIED or RESTORE of a slot not in use, to which no unit of another class is bound, makes the slot
LOADING on the first fit, with cursor 0 and nothing written, and answers with the first block; with no fit it is refused
FULL with the longest run and changes no slot (R43, R44). -/
def Obligations.ImageOpenAllocates : Prop :=
  ∀ (s : State) (tag : Byte) (p : List Byte) (k : SlotIx) (c : UnitClass), s.TakesWork → p.length = 11 →
    (s.gapc.state = .supplied ∨ s.gapc.state = .restore) → u8 p 0 = k.val → class? (u8 p 1) = some c →
    1 ≤ u8 p 6 → u8 p 6 ≤ 128 → s.inUse k = false →
    (∀ u e, s.unit u = some e → e.decl.slot = k → e.decl.cls = c) →
    (∀ f, firstFit (s.availableTo k) (u8 p 6) = some f →
      ∃ t, exec (.imageOpen tag p) s = .next t ∧ State.Ends
        { s.replied 0x10 tag (.ok (.firstBlock f)) with
          ims :=
            { s.ims with
              slots := s.ims.slots.set k.val (.loading
                { cls := c
                  version := ⟨BitVec.ofNat 8 (u8 p 2), BitVec.ofNat 8 (u8 p 3), BitVec.ofNat 16 (u16 p 4)⟩
                  len := u8 p 6, first := f, crc := BitVec.ofNat 32 (u32 p 7) } 0 []) } } t) ∧
      (firstFit (s.availableTo k) (u8 p 6) = none →
        ∃ t, exec (.imageOpen tag p) s = .next t ∧
          State.Ends (s.replied 0x10 tag (.full (longestRun (s.availableTo k)))) t)

/-- The four long requests, accepted, are in progress with their work and no reply is owed for them yet: IMAGE_DATA of a
block of a LOADING slot, at its index or at the cursor for 0xFF; IMAGE_CLOSE of a LOADING slot; IMAGE_ERASE of a slot not
in use, and SAVE_CONFIG of everything R198 lists, in SUPPLIED or RESTORE (R45, R47, R48, R194, R198, R199). -/
def Obligations.LongRequestsStart : Prop :=
  ∀ (s : State) (tag : Byte), s.TakesWork →
    let starts (c : Instr) (kind : Byte) (work : LongWork) : Prop :=
      ∃ t, exec c s = .next t ∧
        State.Ends { s with clnk := { s.clnk with long := some ⟨kind, tag, work, false⟩ } } t
    (∀ (k : SlotIx) (i : SlotInfo) (cursor : Nat) (written : List Nat), s.slot k = .loading i cursor written →
      (∀ (b index : Byte) (data : List Byte), b.toNat = k.val → data.length = 1024 →
        let target := if index = 0xFF then cursor else index.toNat
        target < i.len →
          starts (.imageData tag ([b, index, 0x04, 0x00] ++ data)) 0x11 (.imageData k target data)) ∧
        ∀ b : Byte, b.toNat = k.val →
          starts (.imageClose tag [b]) 0x12
            (.imageClose k ((List.range i.len).filter fun t => !written.contains t) 0 0 0xFFFFFFFF)) ∧
      (s.gapc.state = .supplied ∨ s.gapc.state = .restore →
        (∀ (b : Byte) (k : SlotIx), b.toNat = k.val → s.inUse k = false →
          starts (.imageErase tag [b]) 0x13 (.imageErase k)) ∧
          starts (.saveConfig tag []) 0x08 (.saveErase
            { monitor := s.smon.settings, timing := s.timing, senseOn := s.smon.senseOn
              yieldOn := ⟨s.links.a.yieldOn, s.links.b.yieldOn, s.links.c.yieldOn⟩
              permitOn := s.perm.enable, respOpen := s.cflu.respOpen, alertMask := s.cflu.alertMask
              defs := Vector.ofFn fun u : UnitIx => (s.unit u).map (·.decl) }))

/-- The six queries are answered OK with their reports, also while a long request is in progress, and change nothing but the
reply owed, which the number of owed replies that QUERY_STATUS reports does not count (log entry 37); of a link's waits it
reports a cut exchange's alone as a discard wait (log entry 43); an index or slot out of range is refused with field 1, and an
EMPTY entry is reported as such (R17, R35, R53, R77, R135, R173, R188, R191). -/
def Obligations.QueriesReport : Prop :=
  ∀ (s : State) (tag : Byte), s.Takes →
    let answers (c : Instr) (kind : Byte) (st : Status) : Prop :=
      ∃ t, exec c s = .next t ∧ State.Ends (s.replied kind tag st) t
    answers (.queryStatus tag []) 0x30 (.ok (.statusReport s.statusReport)) ∧
      answers (.queryMonitor tag []) 0x31 (.ok (.monitorReport s.smon.report)) ∧
      answers (.queryStreams tag []) 0x34 (.ok (.streamsReport s.streamsReport)) ∧
      (∀ (b : Byte) (u : UnitIx), b.toNat = u.val →
        (s.unit u = none →
          answers (.queryUnit tag [b]) 0x32 (.ok (.unitReport none)) ∧
            answers (.queryContext tag [b]) 0x35 (.ok (.contextReport none))) ∧
          ∀ e, s.unit u = some e →
            answers (.queryUnit tag [b]) 0x32 (.ok (.unitReport (some (s.unitReport u e)))) ∧
              answers (.queryContext tag [b]) 0x35 (.ok (.contextReport (some (s.contextReport u e))))) ∧
      (∀ (b : Byte) (k : SlotIx), b.toNat = k.val →
        answers (.querySlot tag [b]) 0x33 (.ok (.slotReport (s.slotReport k)))) ∧
      ∀ b : Byte, (24 ≤ b.toNat → answers (.queryUnit tag [b]) 0x32 (.outOfRange 1) ∧
        answers (.queryContext tag [b]) 0x35 (.outOfRange 1)) ∧
        (8 ≤ b.toNat → answers (.querySlot tag [b]) 0x33 (.outOfRange 1))

end
end

