-- ==== Sys2Proof/Laws/Ops.lean ====
section
/-! SUPPORT. Laws of the named operations: per-segment values, unit entries, records and slots read after a write, and the
image array's canonical form. -/

namespace Sys2Proof.Machine

/-! ### Per-segment values -/

@[simp] theorem perGet_perSet_self {α : Type} (p : PerSeg α) (x : Seg) (v : α) : perGet (perSet p x v) x = v := by
  cases x <;> rfl

theorem perGet_perSet_ne {α : Type} (p : PerSeg α) {x y : Seg} (v : α) (h : x ≠ y) :
    perGet (perSet p x v) y = perGet p y := by
  cases x <;> cases y <;> first | rfl | exact absurd rfl h

theorem perGet_perSet {α : Type} (p : PerSeg α) (x y : Seg) (v : α) :
    perGet (perSet p x v) y = if x = y then v else perGet p y := by
  cases x <;> cases y <;> rfl

@[simp] theorem perGet_perOf {α : Type} (f : Seg → α) (x : Seg) : perGet (perOf f) x = f x := by
  cases x <;> rfl

theorem perGet_perMod {α : Type} (p : PerSeg α) (x y : Seg) (f : α → α) :
    perGet (perMod p x f) y = if x = y then f (perGet p y) else perGet p y := by
  cases x <;> cases y <;> rfl

@[simp] theorem perGet_mk {α : Type} (f : α → α) (p : PerSeg α) (x : Seg) :
    perGet ⟨f p.a, f p.b, f p.c⟩ x = f (perGet p x) := by
  cases x <;> rfl

theorem mem_allSegs (x : Seg) : x ∈ allSegs := by
  cases x <;> simp [allSegs]

@[simp] theorem mem_allUnits (u : UnitIx) : u ∈ allUnits := by
  simp [allUnits]

@[simp] theorem mem_allSlots (k : SlotIx) : k ∈ allSlots := by
  simp [allSlots]

/-! ### Unit entries, records and slots -/

/-- A write to a vector read at another index, or at its own. -/
theorem getElem_set_ix {α : Type} {n : Nat} (v : Vector α n) (i j : Fin n) (a : α) :
    (v.set i.val a)[j.val] = if i = j then a else v[j.val] := by
  rw [Vector.getElem_set]
  simp only [Fin.ext_iff]

@[simp] theorem getElem_ofFn_ix {α : Type} {n : Nat} (f : Fin n → α) (i : Fin n) : (Vector.ofFn f)[i.val] = f i := by
  simp

theorem State.unit_putUnit (s : State) (u v : UnitIx) (o : Option UnitEntry) :
    (s.putUnit u o).unit v = if u = v then o else s.unit v :=
  getElem_set_ix s.units u v o

theorem State.unit_modUnit (s : State) (u v : UnitIx) (f : UnitEntry → UnitEntry) :
    (s.modUnit u f).unit v = if u = v then (s.unit v).map f else s.unit v := by
  refine (getElem_set_ix s.units u v _).trans ?_
  split
  · next h => subst h; rfl
  · rfl

theorem State.unit_move (s : State) (u v : UnitIx) (st : UnitState) (f : UnitEntry → UnitEntry) :
    (s.move u st f).unit v = if u = v then (s.unit v).map fun e => f (e.goto st) else s.unit v := by
  refine (getElem_set_ix s.units u v _).trans ?_
  split
  · next h => subst h; rfl
  · rfl

theorem State.ctx_putCtx (s : State) (u v : UnitIx) (r : ContextRecord) :
    (s.putCtx u r).ctx v = if u = v then r else s.ctx v :=
  getElem_set_ix s.ctxs u v r

theorem State.slot_putSlot (s : State) (k j : SlotIx) (v : Slot) :
    (s.putSlot k v).slot j = if k = j then v else s.slot j :=
  getElem_set_ix s.ims.slots k j v

/-! ### The image array -/

theorem Memory.mem_cells {c : Host.Cell} {bytes : List Byte} {base : Nat} (h : c ∈ Memory.cells base bytes) :
    base ≤ c.1 ∧ c.1 < base + bytes.length ∧ c.2 ≠ Config.erased := by
  induction bytes generalizing base with
  | nil => simp [Memory.cells] at h
  | cons v rest ih =>
    simp only [Memory.cells] at h
    split at h
    · have := ih h
      exact ⟨by omega, by simp only [List.length_cons]; omega, this.2.2⟩
    · next hv =>
      rcases List.mem_cons.1 h with rfl | h
      · exact ⟨Nat.le_refl _, by simp, hv⟩
      · have := ih h
        exact ⟨by omega, by simp only [List.length_cons]; omega, this.2.2⟩

theorem Memory.cells_rising (bytes : List Byte) (base : Nat) :
    (Memory.cells base bytes).Pairwise fun p q => p.1 < q.1 := by
  induction bytes generalizing base with
  | nil => exact List.Pairwise.nil
  | cons v rest ih =>
    simp only [Memory.cells]
    split
    · exact ih _
    · refine List.pairwise_cons.2 ⟨fun c hc => ?_, ih _⟩
      have := Memory.mem_cells hc
      simp only
      omega

theorem Memory.wf_nil : Memory.wf [] := by
  simp [Memory.wf]

/-- Writing a block of the array keeps the canonical form. -/
theorem Memory.wf_writeBlock {m : List Host.Cell} {b : Nat} (bytes : List Byte) (h : Memory.wf m)
    (hb : b < Config.blockCount) : Memory.wf (Memory.writeBlock m b bytes) := by
  obtain ⟨hp, hm⟩ := h
  have hlen : (bytes.take Config.blockBytes).length ≤ Config.blockBytes := by simp
  have hcell {c : Host.Cell} (hc : c ∈ Memory.cells (b * Config.blockBytes) (bytes.take Config.blockBytes)) :
      b * Config.blockBytes ≤ c.1 ∧ c.1 < b * Config.blockBytes + Config.blockBytes ∧ c.2 ≠ Config.erased := by
    have := Memory.mem_cells hc
    exact ⟨this.1, by omega, this.2.2⟩
  have htop : b * Config.blockBytes + Config.blockBytes ≤ arrayBytes := by
    simp only [arrayBytes, Config.blockCount, Config.blockBytes] at *
    omega
  refine ⟨?_, fun c hc => ?_⟩
  · refine List.pairwise_append.2 ⟨List.pairwise_append.2 ⟨hp.filter _, Memory.cells_rising _ _, ?_⟩, hp.filter _, ?_⟩
    · intro p hp q hq
      have h1 : p.1 < b * Config.blockBytes := by simpa using (List.mem_filter.1 hp).2
      have := hcell hq
      omega
    · intro p hp q hq
      have h2 : b * Config.blockBytes + Config.blockBytes ≤ q.1 := by simpa using (List.mem_filter.1 hq).2
      rcases List.mem_append.1 hp with hp | hp
      · have h1 : p.1 < b * Config.blockBytes := by simpa using (List.mem_filter.1 hp).2
        omega
      · have := hcell hp
        omega
  · rcases List.mem_append.1 hc with hc | hc
    · rcases List.mem_append.1 hc with hc | hc
      · exact hm c (List.mem_filter.1 hc).1
      · have := hcell hc
        exact ⟨by omega, this.2.2⟩
    · exact hm c (List.mem_filter.1 hc).1

theorem Memory.lookup_eq_none_of_lt {m : List Host.Cell} {a : Nat} (h : ∀ c ∈ m, c.1 ≠ a) : m.lookup a = none := by
  rw [List.lookup_eq_none_iff]
  intro c hc
  simpa using (h c hc).symm

/-- Outside the block written, every byte reads as before. -/
theorem Memory.read_writeBlock_ne (m : List Host.Cell) (b a : Nat) (bytes : List Byte)
    (h : a < b * Config.blockBytes ∨ b * Config.blockBytes + Config.blockBytes ≤ a) :
    Memory.read (Memory.writeBlock m b bytes) a = Memory.read m a := by
  have hlen : (bytes.take Config.blockBytes).length ≤ Config.blockBytes := by simp
  have hcells : (Memory.cells (b * Config.blockBytes) (bytes.take Config.blockBytes)).lookup a = none := by
    refine Memory.lookup_eq_none_of_lt fun c hc => ?_
    have := Memory.mem_cells hc
    omega
  have hkeep (p : Host.Cell → Bool) (hp : ∀ v, p (a, v) = true) : (m.filter p).lookup a = m.lookup a := by
    induction m with
    | nil => rfl
    | cons c rest ih =>
      obtain ⟨k, v⟩ := c
      by_cases hk : a = k
      · subst hk
        simp [hp]
      · by_cases hq : p (k, v) = true
        · simp [hq, List.lookup_cons, beq_false_of_ne hk, ih]
        · simp [hq, List.lookup_cons, beq_false_of_ne hk, ih]
  have hdrop (p : Host.Cell → Bool) (hp : ∀ v, p (a, v) = false) : (m.filter p).lookup a = none := by
    refine Memory.lookup_eq_none_of_lt fun c hc hca => ?_
    obtain ⟨k, v⟩ := c
    simp only at hca
    subst hca
    simp [hp v] at hc
  unfold Memory.read Memory.writeBlock
  simp only [List.lookup_append, hcells, Option.or_none]
  rcases h with h | h
  · rw [hkeep _ (by intro v; simpa using h), hdrop _ (by intro v; simp; omega), Option.or_none]
  · rw [hdrop _ (by intro v; simp; omega), hkeep _ (by intro v; simpa using h), Option.none_or]

/-! ### Free choices -/

/-- Everything a free choice can do: it names one of the things, and moves the counter of free values. -/
theorem State.pick_spec (s : State) (n : Nat) (h : 0 < n) :
    (s.pick n).1 < n ∧ ∃ c, (s.pick n).2 = { s with freeCount := c } := by
  unfold State.pick
  split
  · exact ⟨by simpa using h, s.freeCount, rfl⟩
  · exact ⟨Nat.mod_lt _ h, _, rfl⟩

end Sys2Proof.Machine
end

