-- ==== Sys2Proof/Laws/State.lean ====
section
/-! SUPPORT. The small lemmas of the state's updates: for each operation that is one record update, what each field of the
state is after it. -/

namespace Sys2Proof.Machine

variable (s : State) (u : UnitIx) (o : Option UnitEntry) (f : UnitEntry → UnitEntry) (r : ContextRecord) (k : SlotIx)
  (v : Slot) (g : GapState) (d : DeviceFlag) (x : Seg) (h : Link → Link) (st : UnitState) (q : Reply) (b : Nat)
  (bytes : List Byte) (last : Option Requester)

/-! ### putUnit -/

@[simp] theorem State.putUnit_powered : (s.putUnit u o).powered = s.powered := rfl
@[simp] theorem State.putUnit_resetLow : (s.putUnit u o).resetLow = s.resetLow := rfl
@[simp] theorem State.putUnit_tick : (s.putUnit u o).tick = s.tick := rfl
@[simp] theorem State.putUnit_gapc : (s.putUnit u o).gapc = s.gapc := rfl
@[simp] theorem State.putUnit_smon : (s.putUnit u o).smon = s.smon := rfl
@[simp] theorem State.putUnit_ims : (s.putUnit u o).ims = s.ims := rfl
@[simp] theorem State.putUnit_cfgr : (s.putUnit u o).cfgr = s.cfgr := rfl
@[simp] theorem State.putUnit_units : (s.putUnit u o).units = s.units.set u.val o := rfl
@[simp] theorem State.putUnit_rsch : (s.putUnit u o).rsch = s.rsch := rfl
@[simp] theorem State.putUnit_seng : (s.putUnit u o).seng = s.seng := rfl
@[simp] theorem State.putUnit_links : (s.putUnit u o).links = s.links := rfl
@[simp] theorem State.putUnit_ctxs : (s.putUnit u o).ctxs = s.ctxs := rfl
@[simp] theorem State.putUnit_perm : (s.putUnit u o).perm = s.perm := rfl
@[simp] theorem State.putUnit_cflu : (s.putUnit u o).cflu = s.cflu := rfl
@[simp] theorem State.putUnit_clnk : (s.putUnit u o).clnk = s.clnk := rfl
@[simp] theorem State.putUnit_timing : (s.putUnit u o).timing = s.timing := rfl
@[simp] theorem State.putUnit_pending : (s.putUnit u o).pending = s.pending := rfl
@[simp] theorem State.putUnit_freeCount : (s.putUnit u o).freeCount = s.freeCount := rfl

/-! ### modUnit -/

@[simp] theorem State.modUnit_powered : (s.modUnit u f).powered = s.powered := rfl
@[simp] theorem State.modUnit_resetLow : (s.modUnit u f).resetLow = s.resetLow := rfl
@[simp] theorem State.modUnit_tick : (s.modUnit u f).tick = s.tick := rfl
@[simp] theorem State.modUnit_gapc : (s.modUnit u f).gapc = s.gapc := rfl
@[simp] theorem State.modUnit_smon : (s.modUnit u f).smon = s.smon := rfl
@[simp] theorem State.modUnit_ims : (s.modUnit u f).ims = s.ims := rfl
@[simp] theorem State.modUnit_cfgr : (s.modUnit u f).cfgr = s.cfgr := rfl
@[simp] theorem State.modUnit_units : (s.modUnit u f).units = s.units.set u.val (s.units[u.val].map f) := rfl
@[simp] theorem State.modUnit_rsch : (s.modUnit u f).rsch = s.rsch := rfl
@[simp] theorem State.modUnit_seng : (s.modUnit u f).seng = s.seng := rfl
@[simp] theorem State.modUnit_links : (s.modUnit u f).links = s.links := rfl
@[simp] theorem State.modUnit_ctxs : (s.modUnit u f).ctxs = s.ctxs := rfl
@[simp] theorem State.modUnit_perm : (s.modUnit u f).perm = s.perm := rfl
@[simp] theorem State.modUnit_cflu : (s.modUnit u f).cflu = s.cflu := rfl
@[simp] theorem State.modUnit_clnk : (s.modUnit u f).clnk = s.clnk := rfl
@[simp] theorem State.modUnit_timing : (s.modUnit u f).timing = s.timing := rfl
@[simp] theorem State.modUnit_pending : (s.modUnit u f).pending = s.pending := rfl
@[simp] theorem State.modUnit_freeCount : (s.modUnit u f).freeCount = s.freeCount := rfl

/-! ### putCtx -/

@[simp] theorem State.putCtx_powered : (s.putCtx u r).powered = s.powered := rfl
@[simp] theorem State.putCtx_resetLow : (s.putCtx u r).resetLow = s.resetLow := rfl
@[simp] theorem State.putCtx_tick : (s.putCtx u r).tick = s.tick := rfl
@[simp] theorem State.putCtx_gapc : (s.putCtx u r).gapc = s.gapc := rfl
@[simp] theorem State.putCtx_smon : (s.putCtx u r).smon = s.smon := rfl
@[simp] theorem State.putCtx_ims : (s.putCtx u r).ims = s.ims := rfl
@[simp] theorem State.putCtx_cfgr : (s.putCtx u r).cfgr = s.cfgr := rfl
@[simp] theorem State.putCtx_units : (s.putCtx u r).units = s.units := rfl
@[simp] theorem State.putCtx_rsch : (s.putCtx u r).rsch = s.rsch := rfl
@[simp] theorem State.putCtx_seng : (s.putCtx u r).seng = s.seng := rfl
@[simp] theorem State.putCtx_links : (s.putCtx u r).links = s.links := rfl
@[simp] theorem State.putCtx_ctxs : (s.putCtx u r).ctxs = s.ctxs.set u.val r := rfl
@[simp] theorem State.putCtx_perm : (s.putCtx u r).perm = s.perm := rfl
@[simp] theorem State.putCtx_cflu : (s.putCtx u r).cflu = s.cflu := rfl
@[simp] theorem State.putCtx_clnk : (s.putCtx u r).clnk = s.clnk := rfl
@[simp] theorem State.putCtx_timing : (s.putCtx u r).timing = s.timing := rfl
@[simp] theorem State.putCtx_pending : (s.putCtx u r).pending = s.pending := rfl
@[simp] theorem State.putCtx_freeCount : (s.putCtx u r).freeCount = s.freeCount := rfl

/-! ### putSlot -/

@[simp] theorem State.putSlot_powered : (s.putSlot k v).powered = s.powered := rfl
@[simp] theorem State.putSlot_resetLow : (s.putSlot k v).resetLow = s.resetLow := rfl
@[simp] theorem State.putSlot_tick : (s.putSlot k v).tick = s.tick := rfl
@[simp] theorem State.putSlot_gapc : (s.putSlot k v).gapc = s.gapc := rfl
@[simp] theorem State.putSlot_smon : (s.putSlot k v).smon = s.smon := rfl
@[simp] theorem State.putSlot_ims : (s.putSlot k v).ims = { s.ims with slots := s.ims.slots.set k.val v } := rfl
@[simp] theorem State.putSlot_cfgr : (s.putSlot k v).cfgr = s.cfgr := rfl
@[simp] theorem State.putSlot_units : (s.putSlot k v).units = s.units := rfl
@[simp] theorem State.putSlot_rsch : (s.putSlot k v).rsch = s.rsch := rfl
@[simp] theorem State.putSlot_seng : (s.putSlot k v).seng = s.seng := rfl
@[simp] theorem State.putSlot_links : (s.putSlot k v).links = s.links := rfl
@[simp] theorem State.putSlot_ctxs : (s.putSlot k v).ctxs = s.ctxs := rfl
@[simp] theorem State.putSlot_perm : (s.putSlot k v).perm = s.perm := rfl
@[simp] theorem State.putSlot_cflu : (s.putSlot k v).cflu = s.cflu := rfl
@[simp] theorem State.putSlot_clnk : (s.putSlot k v).clnk = s.clnk := rfl
@[simp] theorem State.putSlot_timing : (s.putSlot k v).timing = s.timing := rfl
@[simp] theorem State.putSlot_pending : (s.putSlot k v).pending = s.pending := rfl
@[simp] theorem State.putSlot_freeCount : (s.putSlot k v).freeCount = s.freeCount := rfl

/-! ### setGap -/

@[simp] theorem State.setGap_powered : (s.setGap g).powered = s.powered := rfl
@[simp] theorem State.setGap_resetLow : (s.setGap g).resetLow = s.resetLow := rfl
@[simp] theorem State.setGap_tick : (s.setGap g).tick = s.tick := rfl
@[simp] theorem State.setGap_gapc : (s.setGap g).gapc = { s.gapc with state := g } := rfl
@[simp] theorem State.setGap_smon : (s.setGap g).smon = s.smon.watch g := rfl
@[simp] theorem State.setGap_ims : (s.setGap g).ims = s.ims := rfl
@[simp] theorem State.setGap_cfgr : (s.setGap g).cfgr = s.cfgr := rfl
@[simp] theorem State.setGap_units : (s.setGap g).units = s.units := rfl
@[simp] theorem State.setGap_rsch : (s.setGap g).rsch = s.rsch := rfl
@[simp] theorem State.setGap_seng : (s.setGap g).seng = s.seng := rfl
@[simp] theorem State.setGap_links : (s.setGap g).links = s.links := rfl
@[simp] theorem State.setGap_ctxs : (s.setGap g).ctxs = s.ctxs := rfl
@[simp] theorem State.setGap_perm : (s.setGap g).perm = s.perm := rfl
@[simp] theorem State.setGap_cflu : (s.setGap g).cflu = s.cflu := rfl
@[simp] theorem State.setGap_clnk : (s.setGap g).clnk = s.clnk := rfl
@[simp] theorem State.setGap_timing : (s.setGap g).timing = s.timing := rfl
@[simp] theorem State.setGap_pending : (s.setGap g).pending = s.pending := rfl
@[simp] theorem State.setGap_freeCount : (s.setGap g).freeCount = s.freeCount := rfl

/-! ### setDevice -/

@[simp] theorem State.setDevice_powered : (s.setDevice d).powered = s.powered := rfl
@[simp] theorem State.setDevice_resetLow : (s.setDevice d).resetLow = s.resetLow := rfl
@[simp] theorem State.setDevice_tick : (s.setDevice d).tick = s.tick := rfl
@[simp] theorem State.setDevice_gapc : (s.setDevice d).gapc = s.gapc := rfl
@[simp] theorem State.setDevice_smon : (s.setDevice d).smon = s.smon := rfl
@[simp] theorem State.setDevice_ims : (s.setDevice d).ims = s.ims := rfl
@[simp] theorem State.setDevice_cfgr : (s.setDevice d).cfgr = s.cfgr := rfl
@[simp] theorem State.setDevice_units : (s.setDevice d).units = s.units := rfl
@[simp] theorem State.setDevice_rsch : (s.setDevice d).rsch = s.rsch := rfl
@[simp] theorem State.setDevice_seng : (s.setDevice d).seng = s.seng := rfl
@[simp] theorem State.setDevice_links : (s.setDevice d).links = s.links := rfl
@[simp] theorem State.setDevice_ctxs : (s.setDevice d).ctxs = s.ctxs := rfl
@[simp] theorem State.setDevice_perm : (s.setDevice d).perm = s.perm := rfl
@[simp] theorem State.setDevice_cflu : (s.setDevice d).cflu = s.cflu.setDevice d := rfl
@[simp] theorem State.setDevice_clnk : (s.setDevice d).clnk = s.clnk := rfl
@[simp] theorem State.setDevice_timing : (s.setDevice d).timing = s.timing := rfl
@[simp] theorem State.setDevice_pending : (s.setDevice d).pending = s.pending := rfl
@[simp] theorem State.setDevice_freeCount : (s.setDevice d).freeCount = s.freeCount := rfl

/-! ### onLink -/

@[simp] theorem State.onLink_powered : (s.onLink x h).powered = s.powered := rfl
@[simp] theorem State.onLink_resetLow : (s.onLink x h).resetLow = s.resetLow := rfl
@[simp] theorem State.onLink_tick : (s.onLink x h).tick = s.tick := rfl
@[simp] theorem State.onLink_gapc : (s.onLink x h).gapc = s.gapc := rfl
@[simp] theorem State.onLink_smon : (s.onLink x h).smon = s.smon := rfl
@[simp] theorem State.onLink_ims : (s.onLink x h).ims = s.ims := rfl
@[simp] theorem State.onLink_cfgr : (s.onLink x h).cfgr = s.cfgr := rfl
@[simp] theorem State.onLink_units : (s.onLink x h).units = s.units := rfl
@[simp] theorem State.onLink_rsch : (s.onLink x h).rsch = s.rsch := rfl
@[simp] theorem State.onLink_seng : (s.onLink x h).seng = s.seng := rfl
@[simp] theorem State.onLink_links : (s.onLink x h).links = perMod s.links x h := rfl
@[simp] theorem State.onLink_ctxs : (s.onLink x h).ctxs = s.ctxs := rfl
@[simp] theorem State.onLink_perm : (s.onLink x h).perm = s.perm := rfl
@[simp] theorem State.onLink_cflu : (s.onLink x h).cflu = s.cflu := rfl
@[simp] theorem State.onLink_clnk : (s.onLink x h).clnk = s.clnk := rfl
@[simp] theorem State.onLink_timing : (s.onLink x h).timing = s.timing := rfl
@[simp] theorem State.onLink_pending : (s.onLink x h).pending = s.pending := rfl
@[simp] theorem State.onLink_freeCount : (s.onLink x h).freeCount = s.freeCount := rfl

/-! ### onLinks -/

@[simp] theorem State.onLinks_powered : (s.onLinks h).powered = s.powered := rfl
@[simp] theorem State.onLinks_resetLow : (s.onLinks h).resetLow = s.resetLow := rfl
@[simp] theorem State.onLinks_tick : (s.onLinks h).tick = s.tick := rfl
@[simp] theorem State.onLinks_gapc : (s.onLinks h).gapc = s.gapc := rfl
@[simp] theorem State.onLinks_smon : (s.onLinks h).smon = s.smon := rfl
@[simp] theorem State.onLinks_ims : (s.onLinks h).ims = s.ims := rfl
@[simp] theorem State.onLinks_cfgr : (s.onLinks h).cfgr = s.cfgr := rfl
@[simp] theorem State.onLinks_units : (s.onLinks h).units = s.units := rfl
@[simp] theorem State.onLinks_rsch : (s.onLinks h).rsch = s.rsch := rfl
@[simp] theorem State.onLinks_seng : (s.onLinks h).seng = s.seng := rfl
@[simp] theorem State.onLinks_links : (s.onLinks h).links = ⟨h s.links.a, h s.links.b, h s.links.c⟩ := rfl
@[simp] theorem State.onLinks_ctxs : (s.onLinks h).ctxs = s.ctxs := rfl
@[simp] theorem State.onLinks_perm : (s.onLinks h).perm = s.perm := rfl
@[simp] theorem State.onLinks_cflu : (s.onLinks h).cflu = s.cflu := rfl
@[simp] theorem State.onLinks_clnk : (s.onLinks h).clnk = s.clnk := rfl
@[simp] theorem State.onLinks_timing : (s.onLinks h).timing = s.timing := rfl
@[simp] theorem State.onLinks_pending : (s.onLinks h).pending = s.pending := rfl
@[simp] theorem State.onLinks_freeCount : (s.onLinks h).freeCount = s.freeCount := rfl

/-! ### move -/

@[simp] theorem State.move_powered : (s.move u st f).powered = s.powered := rfl
@[simp] theorem State.move_resetLow : (s.move u st f).resetLow = s.resetLow := rfl
@[simp] theorem State.move_tick : (s.move u st f).tick = s.tick := rfl
@[simp] theorem State.move_gapc : (s.move u st f).gapc = s.gapc := rfl
@[simp] theorem State.move_smon : (s.move u st f).smon = s.smon := rfl
@[simp] theorem State.move_ims : (s.move u st f).ims = s.ims := rfl
@[simp] theorem State.move_cfgr : (s.move u st f).cfgr = s.cfgr := rfl
@[simp] theorem State.move_units :
    (s.move u st f).units = s.units.set u.val (s.units[u.val].map fun e => f (e.goto st)) := rfl
@[simp] theorem State.move_rsch :
    (s.move u st f).rsch = { s.rsch with marks := if st = .wait then s.rsch.marks else s.rsch.marks.filter (· != u) } := rfl
@[simp] theorem State.move_seng : (s.move u st f).seng = s.seng := rfl
@[simp] theorem State.move_links : (s.move u st f).links = s.links := rfl
@[simp] theorem State.move_ctxs : (s.move u st f).ctxs = s.ctxs := rfl
@[simp] theorem State.move_perm : (s.move u st f).perm = s.perm := rfl
@[simp] theorem State.move_cflu : (s.move u st f).cflu = s.cflu := rfl
@[simp] theorem State.move_clnk : (s.move u st f).clnk = s.clnk := rfl
@[simp] theorem State.move_timing : (s.move u st f).timing = s.timing := rfl
@[simp] theorem State.move_pending : (s.move u st f).pending = s.pending := rfl
@[simp] theorem State.move_freeCount : (s.move u st f).freeCount = s.freeCount := rfl

/-! ### freezeAndAge -/

@[simp] theorem State.freezeAndAge_powered : (s.freezeAndAge u).powered = s.powered := rfl
@[simp] theorem State.freezeAndAge_resetLow : (s.freezeAndAge u).resetLow = s.resetLow := rfl
@[simp] theorem State.freezeAndAge_tick : (s.freezeAndAge u).tick = s.tick := rfl
@[simp] theorem State.freezeAndAge_gapc : (s.freezeAndAge u).gapc = s.gapc := rfl
@[simp] theorem State.freezeAndAge_smon : (s.freezeAndAge u).smon = s.smon := rfl
@[simp] theorem State.freezeAndAge_ims : (s.freezeAndAge u).ims = s.ims := rfl
@[simp] theorem State.freezeAndAge_cfgr : (s.freezeAndAge u).cfgr = s.cfgr := rfl
@[simp] theorem State.freezeAndAge_units : (s.freezeAndAge u).units = s.units := rfl
@[simp] theorem State.freezeAndAge_rsch : (s.freezeAndAge u).rsch = s.rsch := rfl
@[simp] theorem State.freezeAndAge_seng : (s.freezeAndAge u).seng = s.seng := rfl
@[simp] theorem State.freezeAndAge_links : (s.freezeAndAge u).links = s.links := rfl
@[simp] theorem State.freezeAndAge_perm : (s.freezeAndAge u).perm = s.perm := rfl
@[simp] theorem State.freezeAndAge_cflu : (s.freezeAndAge u).cflu = s.cflu := rfl
@[simp] theorem State.freezeAndAge_clnk : (s.freezeAndAge u).clnk = s.clnk := rfl
@[simp] theorem State.freezeAndAge_timing : (s.freezeAndAge u).timing = s.timing := rfl
@[simp] theorem State.freezeAndAge_pending : (s.freezeAndAge u).pending = s.pending := rfl
@[simp] theorem State.freezeAndAge_freeCount : (s.freezeAndAge u).freeCount = s.freeCount := rfl

/-! ### ageAll -/

@[simp] theorem State.ageAll_powered : (s.ageAll).powered = s.powered := by unfold State.ageAll; rfl
@[simp] theorem State.ageAll_resetLow : (s.ageAll).resetLow = s.resetLow := by unfold State.ageAll; rfl
@[simp] theorem State.ageAll_tick : (s.ageAll).tick = s.tick := by unfold State.ageAll; rfl
@[simp] theorem State.ageAll_gapc : (s.ageAll).gapc = s.gapc := by unfold State.ageAll; rfl
@[simp] theorem State.ageAll_smon : (s.ageAll).smon = s.smon := by unfold State.ageAll; rfl
@[simp] theorem State.ageAll_ims : (s.ageAll).ims = s.ims := by unfold State.ageAll; rfl
@[simp] theorem State.ageAll_cfgr : (s.ageAll).cfgr = s.cfgr := by unfold State.ageAll; rfl
@[simp] theorem State.ageAll_units : (s.ageAll).units = s.units := by unfold State.ageAll; rfl
@[simp] theorem State.ageAll_rsch : (s.ageAll).rsch = s.rsch := by unfold State.ageAll; rfl
@[simp] theorem State.ageAll_seng : (s.ageAll).seng = s.seng := by unfold State.ageAll; rfl
@[simp] theorem State.ageAll_links : (s.ageAll).links = s.links := by unfold State.ageAll; rfl
@[simp] theorem State.ageAll_perm : (s.ageAll).perm = s.perm := by unfold State.ageAll; rfl
@[simp] theorem State.ageAll_cflu : (s.ageAll).cflu = s.cflu := by unfold State.ageAll; rfl
@[simp] theorem State.ageAll_clnk : (s.ageAll).clnk = s.clnk := by unfold State.ageAll; rfl
@[simp] theorem State.ageAll_timing : (s.ageAll).timing = s.timing := by unfold State.ageAll; rfl
@[simp] theorem State.ageAll_pending : (s.ageAll).pending = s.pending := by unfold State.ageAll; rfl
@[simp] theorem State.ageAll_freeCount : (s.ageAll).freeCount = s.freeCount := by unfold State.ageAll; rfl

/-! ### owe -/

@[simp] theorem State.owe_powered : (s.owe q).powered = s.powered := rfl
@[simp] theorem State.owe_resetLow : (s.owe q).resetLow = s.resetLow := rfl
@[simp] theorem State.owe_tick : (s.owe q).tick = s.tick := rfl
@[simp] theorem State.owe_gapc : (s.owe q).gapc = s.gapc := rfl
@[simp] theorem State.owe_smon : (s.owe q).smon = s.smon := rfl
@[simp] theorem State.owe_ims : (s.owe q).ims = s.ims := rfl
@[simp] theorem State.owe_cfgr : (s.owe q).cfgr = s.cfgr := rfl
@[simp] theorem State.owe_units : (s.owe q).units = s.units := rfl
@[simp] theorem State.owe_rsch : (s.owe q).rsch = s.rsch := rfl
@[simp] theorem State.owe_seng : (s.owe q).seng = s.seng := rfl
@[simp] theorem State.owe_links : (s.owe q).links = s.links := rfl
@[simp] theorem State.owe_ctxs : (s.owe q).ctxs = s.ctxs := rfl
@[simp] theorem State.owe_perm : (s.owe q).perm = s.perm := rfl
@[simp] theorem State.owe_cflu : (s.owe q).cflu = s.cflu := rfl
@[simp] theorem State.owe_clnk : (s.owe q).clnk = { s.clnk with owed := s.clnk.owed ++ [q] } := rfl
@[simp] theorem State.owe_timing : (s.owe q).timing = s.timing := rfl
@[simp] theorem State.owe_pending : (s.owe q).pending = s.pending := rfl
@[simp] theorem State.owe_freeCount : (s.owe q).freeCount = s.freeCount := rfl

/-! ### clearRx -/

@[simp] theorem State.clearRx_powered : (s.clearRx).powered = s.powered := rfl
@[simp] theorem State.clearRx_resetLow : (s.clearRx).resetLow = s.resetLow := rfl
@[simp] theorem State.clearRx_tick : (s.clearRx).tick = s.tick := rfl
@[simp] theorem State.clearRx_gapc : (s.clearRx).gapc = s.gapc := rfl
@[simp] theorem State.clearRx_smon : (s.clearRx).smon = s.smon := rfl
@[simp] theorem State.clearRx_ims : (s.clearRx).ims = s.ims := rfl
@[simp] theorem State.clearRx_cfgr : (s.clearRx).cfgr = s.cfgr := rfl
@[simp] theorem State.clearRx_units : (s.clearRx).units = s.units := rfl
@[simp] theorem State.clearRx_rsch : (s.clearRx).rsch = s.rsch := rfl
@[simp] theorem State.clearRx_seng : (s.clearRx).seng = s.seng := rfl
@[simp] theorem State.clearRx_links : (s.clearRx).links = s.links := rfl
@[simp] theorem State.clearRx_ctxs : (s.clearRx).ctxs = s.ctxs := rfl
@[simp] theorem State.clearRx_perm : (s.clearRx).perm = s.perm := rfl
@[simp] theorem State.clearRx_cflu : (s.clearRx).cflu = s.cflu := rfl
@[simp] theorem State.clearRx_clnk : (s.clearRx).clnk = { s.clnk with rx := [] } := rfl
@[simp] theorem State.clearRx_timing : (s.clearRx).timing = s.timing := rfl
@[simp] theorem State.clearRx_pending : (s.clearRx).pending = s.pending := rfl
@[simp] theorem State.clearRx_freeCount : (s.clearRx).freeCount = s.freeCount := rfl

/-! ### writeBlock -/

@[simp] theorem State.writeBlock_powered : (s.writeBlock b bytes).powered = s.powered := rfl
@[simp] theorem State.writeBlock_resetLow : (s.writeBlock b bytes).resetLow = s.resetLow := rfl
@[simp] theorem State.writeBlock_tick : (s.writeBlock b bytes).tick = s.tick := rfl
@[simp] theorem State.writeBlock_gapc : (s.writeBlock b bytes).gapc = s.gapc := rfl
@[simp] theorem State.writeBlock_smon : (s.writeBlock b bytes).smon = s.smon := rfl
@[simp] theorem State.writeBlock_ims :
    (s.writeBlock b bytes).ims = { s.ims with mem := Memory.writeBlock s.ims.mem b bytes } := rfl
@[simp] theorem State.writeBlock_cfgr : (s.writeBlock b bytes).cfgr = s.cfgr := rfl
@[simp] theorem State.writeBlock_units : (s.writeBlock b bytes).units = s.units := rfl
@[simp] theorem State.writeBlock_rsch : (s.writeBlock b bytes).rsch = s.rsch := rfl
@[simp] theorem State.writeBlock_seng : (s.writeBlock b bytes).seng = s.seng := rfl
@[simp] theorem State.writeBlock_links : (s.writeBlock b bytes).links = s.links := rfl
@[simp] theorem State.writeBlock_ctxs : (s.writeBlock b bytes).ctxs = s.ctxs := rfl
@[simp] theorem State.writeBlock_perm : (s.writeBlock b bytes).perm = s.perm := rfl
@[simp] theorem State.writeBlock_cflu : (s.writeBlock b bytes).cflu = s.cflu := rfl
@[simp] theorem State.writeBlock_clnk : (s.writeBlock b bytes).clnk = s.clnk := rfl
@[simp] theorem State.writeBlock_timing : (s.writeBlock b bytes).timing = s.timing := rfl
@[simp] theorem State.writeBlock_pending : (s.writeBlock b bytes).pending = s.pending := rfl
@[simp] theorem State.writeBlock_freeCount : (s.writeBlock b bytes).freeCount = s.freeCount := rfl

/-! ### grantPort -/

@[simp] theorem State.grantPort_powered : (s.grantPort last).powered = s.powered := rfl
@[simp] theorem State.grantPort_resetLow : (s.grantPort last).resetLow = s.resetLow := rfl
@[simp] theorem State.grantPort_tick : (s.grantPort last).tick = s.tick := rfl
@[simp] theorem State.grantPort_gapc : (s.grantPort last).gapc = s.gapc := rfl
@[simp] theorem State.grantPort_smon : (s.grantPort last).smon = s.smon := rfl
@[simp] theorem State.grantPort_cfgr : (s.grantPort last).cfgr = s.cfgr := rfl
@[simp] theorem State.grantPort_units : (s.grantPort last).units = s.units := rfl
@[simp] theorem State.grantPort_rsch : (s.grantPort last).rsch = s.rsch := rfl
@[simp] theorem State.grantPort_seng : (s.grantPort last).seng = s.seng := rfl
@[simp] theorem State.grantPort_links : (s.grantPort last).links = s.links := rfl
@[simp] theorem State.grantPort_ctxs : (s.grantPort last).ctxs = s.ctxs := rfl
@[simp] theorem State.grantPort_perm : (s.grantPort last).perm = s.perm := rfl
@[simp] theorem State.grantPort_cflu : (s.grantPort last).cflu = s.cflu := rfl
@[simp] theorem State.grantPort_clnk : (s.grantPort last).clnk = s.clnk := rfl
@[simp] theorem State.grantPort_timing : (s.grantPort last).timing = s.timing := rfl
@[simp] theorem State.grantPort_pending : (s.grantPort last).pending = s.pending := rfl
@[simp] theorem State.grantPort_freeCount : (s.grantPort last).freeCount = s.freeCount := rfl

/-! ### arbitrate -/

@[simp] theorem State.arbitrate_powered : (s.arbitrate).powered = s.powered := rfl
@[simp] theorem State.arbitrate_resetLow : (s.arbitrate).resetLow = s.resetLow := rfl
@[simp] theorem State.arbitrate_tick : (s.arbitrate).tick = s.tick := rfl
@[simp] theorem State.arbitrate_gapc : (s.arbitrate).gapc = s.gapc := rfl
@[simp] theorem State.arbitrate_smon : (s.arbitrate).smon = s.smon := rfl
@[simp] theorem State.arbitrate_ims : (s.arbitrate).ims = s.ims := rfl
@[simp] theorem State.arbitrate_cfgr : (s.arbitrate).cfgr = s.cfgr := rfl
@[simp] theorem State.arbitrate_units : (s.arbitrate).units = s.units := rfl
@[simp] theorem State.arbitrate_rsch : (s.arbitrate).rsch = s.rsch := rfl
@[simp] theorem State.arbitrate_seng : (s.arbitrate).seng = s.seng := rfl
@[simp] theorem State.arbitrate_ctxs : (s.arbitrate).ctxs = s.ctxs := rfl
@[simp] theorem State.arbitrate_perm : (s.arbitrate).perm = s.perm := rfl
@[simp] theorem State.arbitrate_cflu : (s.arbitrate).cflu = s.cflu := rfl
@[simp] theorem State.arbitrate_clnk : (s.arbitrate).clnk = s.clnk := rfl
@[simp] theorem State.arbitrate_timing : (s.arbitrate).timing = s.timing := rfl
@[simp] theorem State.arbitrate_pending : (s.arbitrate).pending = s.pending := rfl
@[simp] theorem State.arbitrate_freeCount : (s.arbitrate).freeCount = s.freeCount := rfl

/-! ### recomputePermits -/

@[simp] theorem State.recomputePermits_powered : (s.recomputePermits).powered = s.powered := rfl
@[simp] theorem State.recomputePermits_resetLow : (s.recomputePermits).resetLow = s.resetLow := rfl
@[simp] theorem State.recomputePermits_tick : (s.recomputePermits).tick = s.tick := rfl
@[simp] theorem State.recomputePermits_gapc : (s.recomputePermits).gapc = s.gapc := rfl
@[simp] theorem State.recomputePermits_smon : (s.recomputePermits).smon = s.smon := rfl
@[simp] theorem State.recomputePermits_ims : (s.recomputePermits).ims = s.ims := rfl
@[simp] theorem State.recomputePermits_cfgr : (s.recomputePermits).cfgr = s.cfgr := rfl
@[simp] theorem State.recomputePermits_units : (s.recomputePermits).units = s.units := rfl
@[simp] theorem State.recomputePermits_rsch : (s.recomputePermits).rsch = s.rsch := rfl
@[simp] theorem State.recomputePermits_seng : (s.recomputePermits).seng = s.seng := rfl
@[simp] theorem State.recomputePermits_links : (s.recomputePermits).links = s.links := rfl
@[simp] theorem State.recomputePermits_ctxs : (s.recomputePermits).ctxs = s.ctxs := rfl
@[simp] theorem State.recomputePermits_perm :
    (s.recomputePermits).perm = { s.perm with output := perOf s.permitFor } := rfl
@[simp] theorem State.recomputePermits_clnk : (s.recomputePermits).clnk = s.clnk := rfl
@[simp] theorem State.recomputePermits_timing : (s.recomputePermits).timing = s.timing := rfl
@[simp] theorem State.recomputePermits_pending : (s.recomputePermits).pending = s.pending := rfl
@[simp] theorem State.recomputePermits_freeCount : (s.recomputePermits).freeCount = s.freeCount := rfl

/-! ### recomputeAlert -/

@[simp] theorem State.recomputeAlert_powered : (s.recomputeAlert).powered = s.powered := rfl
@[simp] theorem State.recomputeAlert_resetLow : (s.recomputeAlert).resetLow = s.resetLow := rfl
@[simp] theorem State.recomputeAlert_tick : (s.recomputeAlert).tick = s.tick := rfl
@[simp] theorem State.recomputeAlert_gapc : (s.recomputeAlert).gapc = s.gapc := rfl
@[simp] theorem State.recomputeAlert_smon : (s.recomputeAlert).smon = s.smon := rfl
@[simp] theorem State.recomputeAlert_ims : (s.recomputeAlert).ims = s.ims := rfl
@[simp] theorem State.recomputeAlert_cfgr : (s.recomputeAlert).cfgr = s.cfgr := rfl
@[simp] theorem State.recomputeAlert_units : (s.recomputeAlert).units = s.units := rfl
@[simp] theorem State.recomputeAlert_rsch : (s.recomputeAlert).rsch = s.rsch := rfl
@[simp] theorem State.recomputeAlert_seng : (s.recomputeAlert).seng = s.seng := rfl
@[simp] theorem State.recomputeAlert_links : (s.recomputeAlert).links = s.links := rfl
@[simp] theorem State.recomputeAlert_ctxs : (s.recomputeAlert).ctxs = s.ctxs := rfl
@[simp] theorem State.recomputeAlert_perm : (s.recomputeAlert).perm = s.perm := rfl
@[simp] theorem State.recomputeAlert_cflu : (s.recomputeAlert).cflu = { s.cflu with alert := s.alertLevel } := rfl
@[simp] theorem State.recomputeAlert_clnk : (s.recomputeAlert).clnk = s.clnk := rfl
@[simp] theorem State.recomputeAlert_timing : (s.recomputeAlert).timing = s.timing := rfl
@[simp] theorem State.recomputeAlert_pending : (s.recomputeAlert).pending = s.pending := rfl
@[simp] theorem State.recomputeAlert_freeCount : (s.recomputeAlert).freeCount = s.freeCount := rfl

/-! ### rebuild -/

@[simp] theorem State.rebuild_powered (n : Nat) (ctxs : Vector ContextRecord 24) (l : List DeviceFlag) :
    (s.rebuild n ctxs l).powered = s.powered := rfl
@[simp] theorem State.rebuild_resetLow (n : Nat) (ctxs : Vector ContextRecord 24) (l : List DeviceFlag) :
    (s.rebuild n ctxs l).resetLow = s.resetLow := rfl
@[simp] theorem State.rebuild_cfgr (n : Nat) (ctxs : Vector ContextRecord 24) (l : List DeviceFlag) :
    (s.rebuild n ctxs l).cfgr = s.cfgr := rfl
@[simp] theorem State.rebuild_pending (n : Nat) (ctxs : Vector ContextRecord 24) (l : List DeviceFlag) :
    (s.rebuild n ctxs l).pending = s.pending := rfl
@[simp] theorem State.rebuild_freeCount (n : Nat) (ctxs : Vector ContextRecord 24) (l : List DeviceFlag) :
    (s.rebuild n ctxs l).freeCount = s.freeCount := rfl

/-! ### gapStart -/

@[simp] theorem State.gapStart_powered : (s.gapStart).powered = s.powered := rfl
@[simp] theorem State.gapStart_resetLow : (s.gapStart).resetLow = s.resetLow := rfl
@[simp] theorem State.gapStart_tick : (s.gapStart).tick = s.tick := rfl
@[simp] theorem State.gapStart_cfgr : (s.gapStart).cfgr = s.cfgr := rfl
@[simp] theorem State.gapStart_perm : (s.gapStart).perm = s.perm := rfl
@[simp] theorem State.gapStart_clnk : (s.gapStart).clnk = s.clnk := rfl
@[simp] theorem State.gapStart_timing : (s.gapStart).timing = s.timing := rfl
@[simp] theorem State.gapStart_pending : (s.gapStart).pending = s.pending := rfl
@[simp] theorem State.gapStart_freeCount : (s.gapStart).freeCount = s.freeCount := rfl

/-! ### settleAbort -/

@[simp] theorem State.settleAbort_powered : (s.settleAbort).powered = s.powered := rfl
@[simp] theorem State.settleAbort_resetLow : (s.settleAbort).resetLow = s.resetLow := rfl
@[simp] theorem State.settleAbort_tick : (s.settleAbort).tick = s.tick := rfl
@[simp] theorem State.settleAbort_ims : (s.settleAbort).ims = s.ims := rfl
@[simp] theorem State.settleAbort_cfgr : (s.settleAbort).cfgr = s.cfgr := rfl
@[simp] theorem State.settleAbort_units : (s.settleAbort).units = s.units := rfl
@[simp] theorem State.settleAbort_rsch : (s.settleAbort).rsch = s.rsch := rfl
@[simp] theorem State.settleAbort_seng : (s.settleAbort).seng = s.seng := rfl
@[simp] theorem State.settleAbort_links : (s.settleAbort).links = s.links := rfl
@[simp] theorem State.settleAbort_ctxs : (s.settleAbort).ctxs = s.ctxs := rfl
@[simp] theorem State.settleAbort_perm : (s.settleAbort).perm = s.perm := rfl
@[simp] theorem State.settleAbort_cflu : (s.settleAbort).cflu = s.cflu := rfl
@[simp] theorem State.settleAbort_clnk : (s.settleAbort).clnk = s.clnk := rfl
@[simp] theorem State.settleAbort_timing : (s.settleAbort).timing = s.timing := rfl
@[simp] theorem State.settleAbort_pending : (s.settleAbort).pending = s.pending := rfl
@[simp] theorem State.settleAbort_freeCount : (s.settleAbort).freeCount = s.freeCount := rfl

/-! ### startSettle -/

@[simp] theorem State.startSettle_powered : (s.startSettle).powered = s.powered := rfl
@[simp] theorem State.startSettle_resetLow : (s.startSettle).resetLow = s.resetLow := rfl
@[simp] theorem State.startSettle_tick : (s.startSettle).tick = s.tick := rfl
@[simp] theorem State.startSettle_ims : (s.startSettle).ims = s.ims := rfl
@[simp] theorem State.startSettle_cfgr : (s.startSettle).cfgr = s.cfgr := rfl
@[simp] theorem State.startSettle_units : (s.startSettle).units = s.units := rfl
@[simp] theorem State.startSettle_rsch : (s.startSettle).rsch = s.rsch := rfl
@[simp] theorem State.startSettle_seng : (s.startSettle).seng = s.seng := rfl
@[simp] theorem State.startSettle_links : (s.startSettle).links = s.links := rfl
@[simp] theorem State.startSettle_ctxs : (s.startSettle).ctxs = s.ctxs := rfl
@[simp] theorem State.startSettle_perm : (s.startSettle).perm = s.perm := rfl
@[simp] theorem State.startSettle_cflu : (s.startSettle).cflu = s.cflu := rfl
@[simp] theorem State.startSettle_clnk : (s.startSettle).clnk = s.clnk := rfl
@[simp] theorem State.startSettle_timing : (s.startSettle).timing = s.timing := rfl
@[simp] theorem State.startSettle_pending : (s.startSettle).pending = s.pending := rfl
@[simp] theorem State.startSettle_freeCount : (s.startSettle).freeCount = s.freeCount := rfl

/-! ### enterRestore -/

@[simp] theorem State.enterRestore_powered : (s.enterRestore).powered = s.powered := rfl
@[simp] theorem State.enterRestore_resetLow : (s.enterRestore).resetLow = s.resetLow := rfl
@[simp] theorem State.enterRestore_tick : (s.enterRestore).tick = s.tick := rfl
@[simp] theorem State.enterRestore_ims : (s.enterRestore).ims = s.ims := rfl
@[simp] theorem State.enterRestore_cfgr : (s.enterRestore).cfgr = s.cfgr := rfl
@[simp] theorem State.enterRestore_rsch : (s.enterRestore).rsch = s.rsch := rfl
@[simp] theorem State.enterRestore_seng : (s.enterRestore).seng = s.seng := rfl
@[simp] theorem State.enterRestore_perm : (s.enterRestore).perm = s.perm := rfl
@[simp] theorem State.enterRestore_clnk : (s.enterRestore).clnk = s.clnk := rfl
@[simp] theorem State.enterRestore_timing : (s.enterRestore).timing = s.timing := rfl
@[simp] theorem State.enterRestore_pending : (s.enterRestore).pending = s.pending := rfl
@[simp] theorem State.enterRestore_freeCount : (s.enterRestore).freeCount = s.freeCount := rfl

/-! ### continueLong -/

@[simp] theorem State.continueLong_powered (l : LongRequest) (w : LongWork) :
    (s.continueLong l w).powered = s.powered := rfl
@[simp] theorem State.continueLong_resetLow (l : LongRequest) (w : LongWork) :
    (s.continueLong l w).resetLow = s.resetLow := rfl
@[simp] theorem State.continueLong_tick (l : LongRequest) (w : LongWork) : (s.continueLong l w).tick = s.tick := rfl
@[simp] theorem State.continueLong_gapc (l : LongRequest) (w : LongWork) : (s.continueLong l w).gapc = s.gapc := rfl
@[simp] theorem State.continueLong_smon (l : LongRequest) (w : LongWork) : (s.continueLong l w).smon = s.smon := rfl
@[simp] theorem State.continueLong_ims (l : LongRequest) (w : LongWork) : (s.continueLong l w).ims = s.ims := rfl
@[simp] theorem State.continueLong_cfgr (l : LongRequest) (w : LongWork) : (s.continueLong l w).cfgr = s.cfgr := rfl
@[simp] theorem State.continueLong_units (l : LongRequest) (w : LongWork) :
    (s.continueLong l w).units = s.units := rfl
@[simp] theorem State.continueLong_rsch (l : LongRequest) (w : LongWork) : (s.continueLong l w).rsch = s.rsch := rfl
@[simp] theorem State.continueLong_seng (l : LongRequest) (w : LongWork) : (s.continueLong l w).seng = s.seng := rfl
@[simp] theorem State.continueLong_links (l : LongRequest) (w : LongWork) :
    (s.continueLong l w).links = s.links := rfl
@[simp] theorem State.continueLong_ctxs (l : LongRequest) (w : LongWork) : (s.continueLong l w).ctxs = s.ctxs := rfl
@[simp] theorem State.continueLong_perm (l : LongRequest) (w : LongWork) : (s.continueLong l w).perm = s.perm := rfl
@[simp] theorem State.continueLong_cflu (l : LongRequest) (w : LongWork) : (s.continueLong l w).cflu = s.cflu := rfl
@[simp] theorem State.continueLong_timing (l : LongRequest) (w : LongWork) :
    (s.continueLong l w).timing = s.timing := rfl
@[simp] theorem State.continueLong_pending (l : LongRequest) (w : LongWork) :
    (s.continueLong l w).pending = s.pending := rfl
@[simp] theorem State.continueLong_freeCount (l : LongRequest) (w : LongWork) :
    (s.continueLong l w).freeCount = s.freeCount := rfl

/-! ### completeLong -/

@[simp] theorem State.completeLong_powered (l : LongRequest) (stt : Status) :
    (s.completeLong l stt).powered = s.powered := rfl
@[simp] theorem State.completeLong_resetLow (l : LongRequest) (stt : Status) :
    (s.completeLong l stt).resetLow = s.resetLow := rfl
@[simp] theorem State.completeLong_tick (l : LongRequest) (stt : Status) : (s.completeLong l stt).tick = s.tick := rfl
@[simp] theorem State.completeLong_gapc (l : LongRequest) (stt : Status) : (s.completeLong l stt).gapc = s.gapc := rfl
@[simp] theorem State.completeLong_smon (l : LongRequest) (stt : Status) : (s.completeLong l stt).smon = s.smon := rfl
@[simp] theorem State.completeLong_ims (l : LongRequest) (stt : Status) : (s.completeLong l stt).ims = s.ims := rfl
@[simp] theorem State.completeLong_cfgr (l : LongRequest) (stt : Status) : (s.completeLong l stt).cfgr = s.cfgr := rfl
@[simp] theorem State.completeLong_units (l : LongRequest) (stt : Status) :
    (s.completeLong l stt).units = s.units := rfl
@[simp] theorem State.completeLong_rsch (l : LongRequest) (stt : Status) : (s.completeLong l stt).rsch = s.rsch := rfl
@[simp] theorem State.completeLong_seng (l : LongRequest) (stt : Status) : (s.completeLong l stt).seng = s.seng := rfl
@[simp] theorem State.completeLong_links (l : LongRequest) (stt : Status) :
    (s.completeLong l stt).links = s.links := rfl
@[simp] theorem State.completeLong_ctxs (l : LongRequest) (stt : Status) : (s.completeLong l stt).ctxs = s.ctxs := rfl
@[simp] theorem State.completeLong_perm (l : LongRequest) (stt : Status) : (s.completeLong l stt).perm = s.perm := rfl
@[simp] theorem State.completeLong_cflu (l : LongRequest) (stt : Status) : (s.completeLong l stt).cflu = s.cflu := rfl
@[simp] theorem State.completeLong_timing (l : LongRequest) (stt : Status) :
    (s.completeLong l stt).timing = s.timing := rfl
@[simp] theorem State.completeLong_pending (l : LongRequest) (stt : Status) :
    (s.completeLong l stt).pending = s.pending := rfl
@[simp] theorem State.completeLong_freeCount (l : LongRequest) (stt : Status) :
    (s.completeLong l stt).freeCount = s.freeCount := rfl

/-! ### silence -/

@[simp] theorem State.silence_powered : (s.silence).powered = s.powered := rfl
@[simp] theorem State.silence_resetLow : (s.silence).resetLow = s.resetLow := rfl
@[simp] theorem State.silence_tick : (s.silence).tick = s.tick := rfl
@[simp] theorem State.silence_gapc : (s.silence).gapc = s.gapc := rfl
@[simp] theorem State.silence_smon : (s.silence).smon = s.smon := rfl
@[simp] theorem State.silence_ims : (s.silence).ims = s.ims := rfl
@[simp] theorem State.silence_cfgr : (s.silence).cfgr = s.cfgr := rfl
@[simp] theorem State.silence_units : (s.silence).units = s.units := rfl
@[simp] theorem State.silence_rsch : (s.silence).rsch = s.rsch := rfl
@[simp] theorem State.silence_seng : (s.silence).seng = s.seng := rfl
@[simp] theorem State.silence_ctxs : (s.silence).ctxs = s.ctxs := rfl
@[simp] theorem State.silence_timing : (s.silence).timing = s.timing := rfl
@[simp] theorem State.silence_pending : (s.silence).pending = s.pending := rfl
@[simp] theorem State.silence_freeCount : (s.silence).freeCount = s.freeCount := rfl

end Sys2Proof.Machine
end

