-- ==== Sys2Proof/Laws/Finish.lean ====
section
/-! SUPPORT. What the end of a command does: one lemma for each of its operations, and `State.ends_finishAfter`, which says
everything the whole of it can do. -/

namespace Sys2Proof.Machine

/-! ### Whether a unit withholds a permit (R170) -/

/-- The test a unit entry makes of its segment's permit, in the words of R170. -/
theorem UnitEntry.withholds_eq_false (e : UnitEntry) :
    e.withholds = false ↔
      ((e.decl.cls = .door ∨ e.decl.cls = .ramp) → e.state = .isolated ∨ (e.state = .live ∧ e.restrained = false)) := by
  unfold UnitEntry.withholds UnitClass.isDoorOrRamp
  cases e.decl.cls <;> cases e.state <;> cases e.restrained <;> decide

/-- No unit of the segment withholds its permit, in the words of R170. -/
theorem State.permitWithheld_eq_false (s : State) (x : Seg) :
    s.permitWithheld x = false ↔
      ∀ u e, s.unit u = some e → e.decl.seg = x → (e.decl.cls = .door ∨ e.decl.cls = .ramp) →
        e.state = .isolated ∨ (e.state = .live ∧ e.restrained = false) := by
  unfold State.permitWithheld
  rw [List.any_eq_false]
  constructor
  · intro h u e hu hx hc
    have := h u (mem_allUnits u)
    rw [hu] at this
    have hw : e.withholds = false := by
      simpa [hx] using this
    exact (e.withholds_eq_false.1 hw) hc
  · intro h u _
    cases hu : s.unit u with
    | none => simp
    | some e =>
      by_cases hx : e.decl.seg = x
      · have := e.withholds_eq_false.2 (h u e hu hx)
        simp [this]
      · simp [hx]

/-- The gap states in which links, scheduler and permits run. -/
theorem GapState.carries_iff (g : GapState) : g.carries = true ↔ g = .supplied ∨ g = .restore := by
  cases g <;> decide

/-- The gap states in which the counter counts and the control link runs. -/
theorem GapState.counts_iff (g : GapState) :
    g.counts = true ↔ g = .supplied ∨ g = .gap ∨ g = .settle ∨ g = .restore := by
  cases g <;> decide

/-- What a permit output is to be, in the words of R170 and R37. -/
theorem State.permitFor_iff (s : State) (x : Seg) :
    s.permitFor x = true ↔ s.powered = true ∧ s.resetLow = false ∧ s.PermitConditions x := by
  unfold State.permitFor State.running State.PermitConditions
  rw [← s.permitWithheld_eq_false x, ← GapState.carries_iff]
  cases s.powered <;> cases s.resetLow <;> cases s.gapc.state.carries <;> cases perGet s.perm.enable x <;>
    cases s.permitWithheld x <;> simp

/-- What the ALERT line is to be, in the words of R185 and R19. -/
theorem State.alertLevel_iff (s : State) :
    s.alertLevel = true ↔
      s.powered = true ∧ s.resetLow = false ∧ s.gapc.state ≠ .lost ∧
        ∃ i, i < 17 ∧ s.cflu.device.getLsbD i = true ∧ s.cflu.alertMask.getLsbD i = true := by
  have hbit : (s.cflu.device &&& s.cflu.alertMask) ≠ 0 ↔
      ∃ i, i < 17 ∧ s.cflu.device.getLsbD i = true ∧ s.cflu.alertMask.getLsbD i = true := by
    constructor
    · intro h
      by_contra hn
      apply h
      apply BitVec.eq_of_getLsbD_eq
      intro i hi
      have := fun hd hm => hn ⟨i, hi, hd, hm⟩
      cases hd : s.cflu.device.getLsbD i <;> cases hm : s.cflu.alertMask.getLsbD i <;> simp_all
    · rintro ⟨i, _, hd, hm⟩ h
      have := congrArg (·.getLsbD i) h
      simp [hd, hm] at this
  rw [← hbit]
  unfold State.alertLevel State.running
  cases s.powered <;> cases s.resetLow <;> simp

/-! ### The steps of the end of a command -/

/-- The transmitter's step: it waits for the link, or for a transmission under way; else it begins the first owed reply; else,
with the unreported set empty, nothing; else a notice, emptying the set (R184, R194). -/
theorem State.startTransmit_spec (s : State) :
    (s.clnk.tx ≠ none ∨ s.linkOn = false) ∧ s.startTransmit = s ∨
      s.clnk.tx = none ∧ s.linkOn = true ∧
        (s.clnk.owed ≠ [] ∧ s.startTransmit = { s with clnk := { s.clnk with tx := some .reply } } ∨
          s.clnk.owed = [] ∧ s.cflu.allReported = true ∧ s.startTransmit = s ∨
          s.clnk.owed = [] ∧ s.cflu.allReported = false ∧
            s.startTransmit = { s with clnk := { s.clnk with tx := some s.cflu.notice }, cflu := s.cflu.emptied }) := by
  unfold State.startTransmit
  cases hl : s.linkOn <;> cases ht : s.clnk.tx <;> cases ho : s.clnk.owed <;> cases hr : s.cflu.allReported <;> simp

/-- A link that is halted or carries an exchange is not changed by its arbiter, and no arbiter changes the HALTED state, the
yield setting or the receive buffer (R83). -/
theorem Link.arbitrate_spec (l : Link) (frames : Exchange → List OutFrame) :
    (l.arbitrate frames).halted = l.halted ∧ (l.arbitrate frames).yieldOn = l.yieldOn ∧
      (l.arbitrate frames).rx = l.rx ∧ (l.halted = true ∨ l.inFlight ≠ none → l.arbitrate frames = l) := by
  unfold Link.arbitrate
  split
  · exact ⟨rfl, rfl, rfl, fun _ => rfl⟩
  · next h =>
    have hidle : ¬(l.halted = true ∨ l.inFlight ≠ none) := by
      rintro (h' | h')
      · simp [h'] at h
      · exact h (by cases hf : l.inFlight <;> simp_all)
    split
    · exact ⟨rfl, rfl, rfl, fun _ => rfl⟩
    · unfold Link.carry
      simp only
      split <;> exact ⟨rfl, rfl, rfl, fun h' => absurd h' hidle⟩

/-- An exchange handed to a running link is held by it (R82). -/
theorem Link.holds_hand (l : Link) (ex : Exchange) (h : l.halted = false) : (l.hand ex).Holds ex :=
  .inl (by simp [Link.hand, h])

/-- The arbiter keeps an exchange that has a frame to send: queued, or put in flight (R83). -/
theorem Link.holds_arbitrate {l : Link} {ex : Exchange} {frames : Exchange → List OutFrame} (h : l.Holds ex)
    (hf : frames ex ≠ []) : (l.arbitrate frames).Holds ex := by
  unfold Link.arbitrate
  split
  · exact h
  · next hi =>
    split
    · exact h
    · next c hc =>
      have hq : ex ∈ l.queue := by
        rcases h with h | ⟨f, hfl, -⟩
        · exact h
        · simp [hfl] at hi
      by_cases he : c = ex
      · subst he
        cases hfr : frames c with
        | nil => exact absurd hfr hf
        | cons o rest => exact .inr ⟨_, rfl, rfl, rfl⟩
      · have hm : ex ∈ l.queue.erase c := (List.mem_erase_of_ne fun h' => he h'.symm).2 hq
        unfold Link.carry
        cases frames c <;> exact .inl hm

/-- A device flag set: its bit, joining the unreported set where it was clear, and nothing of the masks, the per-unit set or
the line. -/
theorem FlagUnit.setDevice_spec (c : FlagUnit) (f : DeviceFlag) :
    c.setDevice f =
      { c with
        device := c.device ||| BitVec.twoPow 17 f.bit
        unrepDevice := if c.device.getLsbD f.bit = true then c.unrepDevice else c.unrepDevice ||| BitVec.twoPow 17 f.bit } := by
  unfold FlagUnit.setDevice
  split
  · next h =>
    have : c.device ||| BitVec.twoPow 17 f.bit = c.device := by
      apply BitVec.eq_of_getLsbD_eq
      intro i hi
      by_cases hb : f.bit = i
      · subst hb
        simp [h]
      · simp [hb]
    rw [this]
  · rfl

/-- The permit outputs recomputed: the outputs, and PERMIT_CHANGE where they change (R171). -/
theorem State.recomputePermits_spec (s : State) :
    s.recomputePermits =
      { s with
        perm := { s.perm with output := perOf s.permitFor }
        cflu :=
          { s.cflu with
            device := if perOf s.permitFor = s.perm.output then s.cflu.device else s.cflu.device ||| BitVec.twoPow 17 12
            unrepDevice :=
              if perOf s.permitFor = s.perm.output ∨ s.cflu.device.getLsbD 12 = true then s.cflu.unrepDevice
              else s.cflu.unrepDevice ||| BitVec.twoPow 17 12 } } := by
  unfold State.recomputePermits
  by_cases h : perOf s.permitFor = s.perm.output
  · simp [h]
  · simp only [h, if_false, false_or, FlagUnit.setDevice_spec]
    rfl

/-- The state as the end of a command leaves it before the transmitter's step. -/
def State.outputsUpdated (s : State) (last : Option Requester) : State :=
  (s.grantPort last).arbitrate.recomputePermits.recomputeAlert

/-- What the end of a command does before the transmitter's step, as one record. -/
theorem State.outputsUpdated_spec (s : State) (last : Option Requester) :
    ∃ output alert, s.outputsUpdated last =
      { s with
        ims := { s.ims with port :=
          if s.ims.port.isSome then s.ims.port else nextRequester s.streamWaits s.longWaits last }
        links := ⟨s.links.a.arbitrate s.framesOf, s.links.b.arbitrate s.framesOf, s.links.c.arbitrate s.framesOf⟩
        perm := { s.perm with output := output }
        cflu :=
          { s.cflu with
            device := if output = s.perm.output then s.cflu.device else s.cflu.device ||| BitVec.twoPow 17 12
            unrepDevice :=
              if output = s.perm.output ∨ s.cflu.device.getLsbD 12 = true then s.cflu.unrepDevice
              else s.cflu.unrepDevice ||| BitVec.twoPow 17 12
            alert := alert } } :=
  ⟨_, _, congrArg State.recomputeAlert (State.recomputePermits_spec _)⟩

/-- The end of a command from a state whose flags, as they are to be sent, are `u`'s: what an end owes is what is known of
`u`, and the transmitter's part. -/
theorem State.ends_of_outputsUpdated {s t : State} (last : Option Requester) (tx : Option Transmission) (c : FlagUnit)
    (ht : t = { s.outputsUpdated last with clnk := { s.clnk with tx := tx }, cflu := c })
    (hc : c = (s.outputsUpdated last).cflu ∨ c = (s.outputsUpdated last).cflu.emptied)
    (htx : s.clnk.tx ≠ none ∨ s.linkOn = false → tx = s.clnk.tx)
    (hr : s.clnk.tx = none → s.linkOn = true → s.clnk.owed ≠ [] → tx = some .reply)
    (hn : if s.clnk.tx = none ∧ s.linkOn = true ∧ s.clnk.owed = [] ∧ (s.outputsUpdated last).cflu.allReported = false then
        tx = some (s.outputsUpdated last).cflu.notice ∧ c = (s.outputsUpdated last).cflu.emptied
      else c = (s.outputsUpdated last).cflu)
    (hq : s.clnk.tx = none → s.clnk.owed = [] → (s.outputsUpdated last).cflu.allReported = true → tx = none) :
    State.Ends s t := by
  obtain ⟨output, alert, hu⟩ := s.outputsUpdated_spec last
  have hp : (s.outputsUpdated last).perm.output = perOf (s.outputsUpdated last).permitFor := rfl
  have hdev : c.device = (s.outputsUpdated last).cflu.device := by rcases hc with rfl | rfl <;> rfl
  have hal : c.alert = (s.outputsUpdated last).cflu.alert := by rcases hc with rfl | rfl <;> rfl
  have hmask : c.alertMask = (s.outputsUpdated last).cflu.alertMask := by rcases hc with rfl | rfl <;> rfl
  have hrep : s.reporting t = (s.outputsUpdated last).cflu := by
    subst ht
    rcases hc with rfl | rfl <;> simp only [State.reporting, FlagUnit.emptied, hu]
  refine ⟨?_, ?_, ?_, ?_, ?_, ?_, ?_, ?_, ?_, ?_, ?_⟩
  · subst ht
    rcases hc with rfl | rfl <;> simp only [FlagUnit.emptied, hu]
  · subst ht
    intro x
    rw [show ({ s.outputsUpdated last with clnk := { s.clnk with tx := tx }, cflu := c } : State).perm.output
      = perOf (s.outputsUpdated last).permitFor from hp, perGet_perOf]
    exact State.permitFor_iff _ x
  · have := State.alertLevel_iff (s.outputsUpdated last)
    subst ht
    show c.alert = true ↔ _ ∧ _ ∧ _ ∧ ∃ i, i < 17 ∧ c.device.getLsbD i = true ∧ c.alertMask.getLsbD i = true
    rw [hal, hdev, hmask]
    exact this
  · subst ht
    show c.device = _
    rw [hdev, hu]
  · subst ht
    intro h
    have : s.ims.port.isSome = true := Option.isSome_iff_ne_none.2 h
    show (if s.ims.port.isSome then s.ims.port else _) = s.ims.port
    rw [if_pos this]
  · subst ht
    intro h
    refine ⟨last, ?_⟩
    show (if s.ims.port.isSome then s.ims.port else _) = _
    rw [h]
    rfl
  · subst ht
    intro x
    exact perGet_mk (fun l => l.arbitrate (s.grantPort last).framesOf) s.links x
  · subst ht
    exact htx
  · subst ht
    exact hr
  · rw [hrep]
    subst ht
    split at hn
    · next hif =>
      rw [if_pos hif]
      obtain ⟨h1, rfl⟩ := hn
      exact ⟨h1, rfl, rfl⟩
    · next hif =>
      rw [if_neg hif]
      subst hn
      exact ⟨rfl, by simp only [hu]⟩
  · rw [hrep]
    subst ht
    exact hq

/-- Everything the end of a command can do. -/
theorem State.ends_finishAfter (s : State) (last : Option Requester) : State.Ends s (s.finishAfter last) := by
  have hl : (s.outputsUpdated last).linkOn = s.linkOn := rfl
  have hs : s.finishAfter last = (s.outputsUpdated last).startTransmit := rfl
  rcases (s.outputsUpdated last).startTransmit_spec with
    ⟨h0, h⟩ | ⟨h0, h1, ⟨h2, h⟩ | ⟨h2, h3, h⟩ | ⟨h2, h3, h⟩⟩ <;>
    (try rw [hl] at *) <;> replace h := hs.trans h
  · refine State.ends_of_outputsUpdated last s.clnk.tx (s.outputsUpdated last).cflu h (.inl rfl) (fun _ => rfl) (fun h' h'' _ => ?_) ?_ (fun h' _ _ => h')
    · exact absurd h0 (by simp [show (s.outputsUpdated last).clnk.tx = none from h', h''])
    · rw [if_neg]
      rintro ⟨h', h'', -⟩
      exact absurd h0 (by simp [show (s.outputsUpdated last).clnk.tx = none from h', h''])
  · refine State.ends_of_outputsUpdated last _ _ h (.inl rfl) (fun h' => ?_) (fun _ _ _ => rfl) ?_ (fun _ h' _ => absurd h' h2)
    · exact absurd h' (by simp [show s.clnk.tx = none from h0, h1])
    · rw [if_neg]
      rintro ⟨-, -, h', -⟩
      exact h2 h'
  · refine State.ends_of_outputsUpdated last s.clnk.tx (s.outputsUpdated last).cflu h (.inl rfl) (fun _ => rfl) (fun _ _ h' => absurd h2 h') ?_
      (fun h' _ _ => h')
    rw [if_neg]
    rintro ⟨-, -, -, h'⟩
    simp [h3] at h'
  · refine State.ends_of_outputsUpdated last _ _ h (.inr rfl) (fun h' => ?_) (fun _ _ h' => absurd h2 h') ?_
      (fun _ _ h' => by simp [h3] at h')
    · exact absurd h' (by simp [show s.clnk.tx = none from h0, h1])
    · rw [if_pos ⟨h0, h1, h2, h3⟩]
      exact ⟨rfl, rfl⟩

/-- Everything the end of a command can do, after a command that freed no array port. -/
theorem State.ends_finish (s : State) : State.Ends s s.finish :=
  s.ends_finishAfter none

/-- The command queue and the powers stand through the end of a command. -/
@[simp] theorem State.finishAfter_pending (s : State) (last : Option Requester) :
    (s.finishAfter last).pending = s.pending := by
  rw [(s.ends_finishAfter last).same]

end Sys2Proof.Machine
end

