-- ==== Sys2Proof/Laws/Frames.lean ====
section
/-! SUPPORT. What the assembly of received frames can do, and what a received byte leaves alone. -/

namespace Sys2Proof.Machine

/-- A byte after the sync byte: the frame goes on with the byte appended, or ends, with the buffer empty, as bad or whole. -/
theorem FrameLayout.extend_spec (l : FrameLayout) (frame : List Byte) :
    l.extend frame = (frame, .waiting) ∧
        (frame.length < l.lengthAt + 2 ∨
          u16 frame l.lengthAt ≤ l.limit ∧ frame.length < l.header + u16 frame l.lengthAt + 2) ∨
      l.extend frame = ([], .bad) ∧ l.lengthAt + 2 ≤ frame.length ∧
        (l.limit < u16 frame l.lengthAt ∨
          l.header + u16 frame l.lengthAt + 2 ≤ frame.length ∧ l.crcAgrees frame = false) ∨
      l.extend frame = ([], .whole frame) ∧ l.lengthAt + 2 ≤ frame.length ∧ u16 frame l.lengthAt ≤ l.limit ∧
        l.header + u16 frame l.lengthAt + 2 ≤ frame.length ∧ l.crcAgrees frame = true := by
  unfold FrameLayout.extend
  split
  · exact .inl ⟨rfl, .inl ‹_›⟩
  · split
    · exact .inr (.inl ⟨rfl, by omega, .inl ‹_›⟩)
    · split
      · exact .inl ⟨rfl, .inr ⟨by omega, ‹_›⟩⟩
      · cases hc : l.crcAgrees frame
        · exact .inr (.inl ⟨by simp, by omega, .inr ⟨by omega, rfl⟩⟩)
        · exact .inr (.inr ⟨by simp, by omega, by omega, by omega, rfl⟩)

/-- With the buffer empty only the sync byte is taken. -/
theorem FrameLayout.receive_hunting (l : FrameLayout) (b : Byte) :
    l.receive [] b = (if b = l.sync then [b] else [], .waiting) := rfl

/-- After the sync byte every byte is taken. -/
theorem FrameLayout.receive_begun (l : FrameLayout) {rx : List Byte} (b : Byte) (h : rx ≠ []) :
    l.receive rx b = l.extend (rx ++ [b]) := by
  cases rx with
  | nil => exact absurd rfl h
  | cons => rfl

/-- A byte on LRX changes the receive buffer and adds to the queue, and nothing else. -/
theorem State.hearByte_spec (s : State) (b : Byte) :
    s.linkOn = false ∧ s.hearByte b = s ∨
      s.linkOn = true ∧
        s.hearByte b =
          { s with
            clnk := { s.clnk with rx := (controlLayout.receive s.clnk.rx b).1 }
            pending := s.pending ++ (controlLayout.receive s.clnk.rx b).2.controlCommands } := by
  unfold State.hearByte
  cases h : s.linkOn
  · exact .inl ⟨rfl, rfl⟩
  · exact .inr ⟨rfl, rfl⟩

/-- What a link sends: the bytes of the frame in flight while it is being sent, and nothing at any other time. -/
theorem Link.sending?_spec (l : Link) :
    (∃ f, l.inFlight = some f ∧ f.phase = .sending ∧ l.sending? = some (f.frame.bytes f.seq)) ∨
      (∀ f, l.inFlight = some f → f.phase ≠ .sending) ∧ l.sending? = none := by
  unfold Link.sending?
  cases h : l.inFlight with
  | none => exact .inr ⟨fun _ hf => absurd hf (by simp), rfl⟩
  | some f =>
    by_cases hp : f.phase = .sending
    · exact .inl ⟨f, rfl, hp, by simp only [Option.bind_some, hp]⟩
    · refine .inr ⟨fun g hg => Option.some.inj hg ▸ hp, ?_⟩
      simp only [Option.bind_some]
      split
      · contradiction
      · rfl

/-- A frame whose payload the spec does not lay out carries at most 1,025 bytes (R205). -/
theorem FrameBody.payload_length (b : FrameBody) (h : ∀ i d, b ≠ .block i d) : b.payload.length ≤ 1025 := by
  cases b with
  | block i d => exact absurd rfl (h i d)
  | _ => simp [FrameBody.payload, List.length_take]

/-- What follows the status in a reply leaves the payload within its 1,060 bytes (R203). -/
theorem Status.detail_length (st : Status) : st.detail.length ≤ 1059 := by
  have free (d : List Byte) (n : Nat) : (d.take n).length ≤ n := List.length_take_le n d
  cases st with
  | ok r =>
    cases r with
    | nothing => exact Nat.zero_le _
    | _ => exact free _ _
  | state | full | mismatch => exact free _ _
  | busy | badLength | outOfRange | notDefined => exact Nat.le_of_ble_eq_true rfl
  | unknownKind | inUse => exact Nat.zero_le _

/-- A reply's payload is at most 1,060 bytes (R203). -/
theorem Reply.payload_length (r : Reply) : r.payload.length ≤ 1060 :=
  Nat.succ_le_succ r.status.detail_length

/-- What a unit's frame carries is of the frame's kind (R206). -/
theorem answerBody?_kind {kind : Byte} {p : List Byte} {b : AnswerBody} (h : answerBody? kind p = some b) :
    answerKind b = kind := by
  unfold answerBody? at h
  split at h
  · cases h; exact BitVec.eq_of_toNat_eq (by simp_all [answerKind])
  · cases h; exact BitVec.eq_of_toNat_eq (by simp_all [answerKind])
  · simpa using (Option.filter_eq_some_iff.1 h).2

/-- A byte of a segment line is lost where no frame awaits an answer, and where none is being received when the answer timeout
has passed; else it changes the segment's receive buffer and adds to the queue, and nothing else (R79, R80). -/
theorem State.hearSegmentByte_spec (s : State) (x : Seg) (b : Byte) :
    s.hearSegmentByte x b = s ∨
      (perGet s.links x).wait?.isSome = true ∧ (s.hears x = true ∨ s.timedOut x = false) ∧
        s.hearSegmentByte x b =
          { s with
            links := perSet s.links x { perGet s.links x with rx := (segmentLayout.receive (perGet s.links x).rx b).1 }
            pending := s.pending ++ (segmentLayout.receive (perGet s.links x).rx b).2.segmentCommands x } := by
  unfold State.hearSegmentByte
  dsimp only
  split
  · rename_i h
    simp only [Bool.and_eq_true, Bool.or_eq_true, Bool.not_eq_true'] at h
    exact .inr ⟨h.1.2, h.2, rfl⟩
  · exact .inl rfl

/-- A kind of the table comes as the request of that kind. -/
theorem controlCommand_of_requestKind {c : Instr} {kind : Byte} (h : c.requestKind? = some kind) :
    ∃ tag, controlCommand kind tag c.payload = c := by
  cases c <;> simp only [Instr.requestKind?, Option.some.injEq, reduceCtorEq] at h <;> subst h <;> exact ⟨_, rfl⟩

end Sys2Proof.Machine
end

