-- ==== Sys2Proof/Laws/Record.lean ====
section
/-! SUPPORT. The configuration record: which records a reset finds valid, and what it takes from them. -/

namespace Sys2Proof.Machine

/-- A record as SAVE_CONFIG writes it passes the marker, format and CRC tests, so its contents decide. -/
@[simp] theorem recordValid_writtenRecord (c : ConfigData) : recordValid (writtenRecord c) = contentsValid c := by
  simp [recordValid, writtenRecord, bareRecord, recordCrc]

@[simp] theorem writtenRecord_data (c : ConfigData) : (writtenRecord c).data = c := rfl

/-- No word is its own complement. -/
theorem crc32_ne_not (c : Crc32) : ~~~c ≠ c := fun h => by
  have := congrArg (·.getLsbD 0) h
  simp at this

/-- What a save cut off leaves fails its CRC. -/
@[simp] theorem recordValid_brokenRecord (c : ConfigData) : recordValid (brokenRecord c) = false := by
  have h : (brokenRecord c).crc ≠ recordCrc (brokenRecord c) := crc32_ne_not (recordCrc (bareRecord c))
  simp [recordValid, h]

/-- A valid record gives a reset its contents, and no other record does. -/
theorem State.resetConfig_spec (s : State) :
    s.resetConfig = if s.resetValid then (s.cfgr.map (·.data)).getD .default else .default := by
  unfold State.resetConfig State.resetValid
  cases s.cfgr with
  | none => rfl
  | some r => cases h : recordValid r <;> simp [h]

end Sys2Proof.Machine
end

