-- ==== Sys2Proof/Laws/Request.lean ====
section
/-! SUPPORT. How a request is taken: one lemma for each way out of the checks of R191. -/

namespace Sys2Proof.Machine

/-- A link that takes frames is on, and discards none. -/
theorem State.Takes.link {s : State} (h : s.Takes) : s.linkOn = true ∧ s.discards = false := by
  obtain ⟨⟨hp, hr⟩, hg, ha, ho⟩ := h
  refine ⟨?_, ?_⟩
  · simp [State.linkOn, State.running, hp, hr, GapState.counts_iff, hg]
  · simp [State.discards, ha, ho]

/-- With the link off a frame is lost (R29). -/
theorem State.request_off {s : State} {kind tag : Byte} {query : Bool} {p : List Byte} {need : Option (BitVec 16)}
    {act : State → Answer} (h : s.linkOn = false) : s.request kind tag query p need act = s := by
  simp [State.request, h]

/-- After a RESET, or with 4 replies owed, a frame is discarded (R191, checks 1 and 2). -/
theorem State.request_discarded {s : State} {kind tag : Byte} {query : Bool} {p : List Byte} {need : Option (BitVec 16)}
    {act : State → Answer} (h : s.linkOn = true) (hd : s.discards = true) :
    s.request kind tag query p need act = s := by
  simp [State.request, h, hd]

/-- A frame that is taken is judged, its answer made owed, and the command ended. -/
theorem State.request_taken {s : State} {kind tag : Byte} {query : Bool} {p : List Byte} {need : Option (BitVec 16)}
    {act : State → Answer} (h : s.Takes) (hp : p.length ≤ 1060) :
    s.request kind tag query p need act = (oweAnswer kind tag (s.judge query need act)).finish := by
  have := h.link
  have hn : ¬1060 < p.length := by omega
  simp [State.request, this.1, this.2, hn]

/-- A payload of a wrong length is answered BAD_LENGTH (R191, check 5). -/
theorem State.request_badLength {s : State} {kind tag : Byte} {query : Bool} {p : List Byte} {n : BitVec 16}
    {act : State → Answer} (h : s.Takes) (hp : p.length ≤ 1060) :
    State.Ends (s.replied kind tag (.badLength n)) (s.request kind tag query p (some n) act) := by
  rw [State.request_taken h hp]
  exact State.ends_finish _

/-- A request that is no query is answered BUSY while a long request is in progress (R191, check 6). -/
theorem State.request_busy {s : State} {kind tag : Byte} {p : List Byte} {l : LongRequest} {act : State → Answer}
    (h : s.Takes) (hp : p.length ≤ 1060) (hl : s.clnk.long = some l) :
    State.Ends (s.replied kind tag (.busy l.kind l.tag)) (s.request kind tag false p none act) := by
  have hj : s.judge false none act = refuse s (.busy l.kind l.tag) := by
    simp [State.judge, hl]
  rw [State.request_taken h hp, hj]
  exact State.ends_finish _

/-- A request that passes the checks of R191 is answered by its own work. -/
theorem State.request_works {s : State} {kind tag : Byte} {query : Bool} {p : List Byte} {act : State → Answer}
    (h : s.Takes) (hp : p.length ≤ 1060) (hq : query = true ∨ s.clnk.long = none) :
    s.request kind tag query p none act = (oweAnswer kind tag (act s)).finish := by
  have hj : s.judge query none act = act s := by
    rcases hq with rfl | hl
    · rfl
    · cases query <;> simp [State.judge, hl]
  rw [State.request_taken h hp, hj]

/-- A request's own work that answers at once ends with its reply owed. -/
theorem State.request_replies {s a : State} {kind tag : Byte} {query : Bool} {p : List Byte} {act : State → Answer}
    {st : Status} (h : s.Takes) (hp : p.length ≤ 1060) (hq : query = true ∨ s.clnk.long = none)
    (ha : act s = (a, some st)) :
    State.Ends (a.owe ⟨kind, tag, st⟩) (s.request kind tag query p none act) := by
  rw [State.request_works h hp hq, ha]
  exact State.ends_finish _

/-- A long request's own work that accepts it ends with no reply owed (R194). -/
theorem State.request_starts {s a : State} {kind tag : Byte} {p : List Byte} {act : State → Answer}
    (h : s.TakesWork) (hp : p.length ≤ 1060) (ha : act s = (a, none)) :
    State.Ends a (s.request kind tag false p none act) := by
  rw [State.request_works h.1 hp (.inr h.2), ha]
  exact State.ends_finish _

/-- A payload of a fixed length passes its check exactly with that length (R192). -/
theorem fixedNeed_spec (n : Nat) (p : List Byte) :
    (p.length = n → fixedNeed n p = none) ∧ (p.length ≠ n → fixedNeed n p = some (BitVec.ofNat 16 n)) :=
  ⟨fun h => if_pos h, fun h => if_neg h⟩

end Sys2Proof.Machine
end

