-- ==== Sys2Proof/Laws/Restore.lean ====
section
/-! SUPPORT. What the operations of the restore band can change: one frame lemma for each, by which a command made of them
stays within `State.RestoreFrame`. -/

namespace Sys2Proof.Machine

/-! ### The frame -/

theorem State.RestoreFrame.refl (s : State) : s.RestoreFrame s := rfl

theorem State.RestoreFrame.trans {s t r : State} (h : s.RestoreFrame t) (h' : t.RestoreFrame r) : s.RestoreFrame r := by
  unfold State.RestoreFrame at *
  rw [h'.trans (congrArg (fun q : State =>
    { q with
      gapc := { q.gapc with state := r.gapc.state, demand := r.gapc.demand }
      smon :=
        { q.smon with
          lineLost := r.smon.lineLost
          lineBack := r.smon.lineBack
          holdDeep := r.smon.holdDeep
          holdExhausted := r.smon.holdExhausted }
      ims := { q.ims with port := r.ims.port }
      units := r.units
      rsch := r.rsch
      seng := r.seng
      links := r.links
      ctxs := r.ctxs
      perm := { q.perm with output := r.perm.output }
      cflu :=
        { q.cflu with
          device := r.cflu.device
          unrepDevice := r.cflu.unrepDevice
          unrepUnits := r.cflu.unrepUnits
          alert := r.cflu.alert }
      clnk := { q.clnk with owed := r.clnk.owed, tx := r.clnk.tx } }) h)]

/-- A chain of steps over a list stays within the frame. -/
theorem State.RestoreFrame.foldl {α : Type} (f : State → α → State) (h : ∀ (s : State) a, s.RestoreFrame (f s a)) (l : List α)
    (s : State) : s.RestoreFrame (l.foldl f s) := by
  induction l generalizing s with
  | nil => rfl
  | cons a l ih => exact (h s a).trans (ih _)

/-- The end of a command stays within the frame. -/
theorem State.RestoreFrame.of_ends {s t : State} (h : State.Ends s t) : s.RestoreFrame t := by
  obtain ⟨h, -⟩ := h
  unfold State.RestoreFrame
  rw [h]

/-! ### Units, links, flags -/

theorem State.modUnit_frame (s : State) (u : UnitIx) (f : UnitEntry → UnitEntry) : s.RestoreFrame (s.modUnit u f) := rfl

theorem State.move_frame (s : State) (u : UnitIx) (st : UnitState) (f : UnitEntry → UnitEntry) :
    s.RestoreFrame (s.move u st f) := rfl

theorem State.onLink_frame (s : State) (x : Seg) (f : Link → Link) : s.RestoreFrame (s.onLink x f) := rfl

theorem State.putCtx_frame (s : State) (u : UnitIx) (r : ContextRecord) : s.RestoreFrame (s.putCtx u r) := rfl

theorem State.freezeAndAge_frame (s : State) (u : UnitIx) : s.RestoreFrame (s.freezeAndAge u) := rfl

theorem State.hand_frame (s : State) (u : UnitIx) (ex : Exchange) : s.RestoreFrame (s.hand u ex) := by
  unfold State.hand
  split <;> rfl

theorem State.withdraw_frame (s : State) (u : UnitIx) : s.RestoreFrame (s.withdraw u) := by
  unfold State.withdraw State.withdrawLink
  split <;> rfl

/-- The flags change within the frame, so long as the masks stand. -/
theorem State.cflu_frame (s : State) (c : FlagUnit) (hr : c.respOpen = s.cflu.respOpen)
    (ha : c.alertMask = s.cflu.alertMask) : s.RestoreFrame { s with cflu := c } := by
  unfold State.RestoreFrame
  simp only [← hr, ← ha]

theorem State.setDevice_frame (s : State) (f : DeviceFlag) : s.RestoreFrame (s.setDevice f) :=
  s.cflu_frame _ (by rw [s.cflu.setDevice_spec]) (by rw [s.cflu.setDevice_spec])

theorem State.setUnitFlag_frame (s : State) (u : UnitIx) (f : UnitFlag) : s.RestoreFrame (s.setUnitFlag u f) := by
  unfold State.setUnitFlag
  split
  · rfl
  · next e _ =>
    refine State.RestoreFrame.trans (t := { s with
      units := s.units.set u.val (some { e with flags := e.flags ||| BitVec.twoPow 13 f.bit }) }) rfl ?_
    refine State.cflu_frame _ _ ?_ ?_
    · split
      · rfl
      · rw [FlagUnit.noteUnit, FlagUnit.setDevice_spec]
    · split
      · rfl
      · rw [FlagUnit.noteUnit, FlagUnit.setDevice_spec]

/-! ### Conditions, faults, PROBE, LIVE, CONTEXT -/

theorem State.toHeld_frame (s : State) (u : UnitIx) (k : Condition) : s.RestoreFrame (s.toHeld u k) :=
  (s.withdraw_frame u).trans ((State.move_frame _ _ _ _).trans (State.setUnitFlag_frame _ _ _))

theorem State.toFailed_frame (s : State) (u : UnitIx) : s.RestoreFrame (s.toFailed u) :=
  (s.withdraw_frame u).trans ((State.move_frame _ _ _ _).trans (State.setUnitFlag_frame _ _ _))

theorem State.raise_frame (s : State) (u : UnitIx) (k : Condition) (d : State → State) (h : ∀ t : State, t.RestoreFrame (d t)) :
    s.RestoreFrame (s.raise u k d) := by
  unfold State.raise
  simp only
  split
  · exact (s.setUnitFlag_frame _ _).trans (State.toHeld_frame _ _ _)
  · exact (s.setUnitFlag_frame _ _).trans (h _)

theorem State.fault_frame (s : State) (u : UnitIx) (again : State → State) (h : ∀ t : State, t.RestoreFrame (again t)) :
    s.RestoreFrame (s.fault u again) := by
  unfold State.fault
  simp only
  split
  · exact (s.modUnit_frame _ _).trans (State.raise_frame _ _ _ _ fun t => t.toFailed_frame u)
  · exact (s.modUnit_frame _ _).trans (h _)

theorem State.enterProbeWith_frame (s : State) (u : UnitIx) (r : ProbeRecord) (ex : Exchange) :
    s.RestoreFrame (s.enterProbeWith u r ex) := by
  unfold State.enterProbeWith
  split
  · rfl
  · split
    · exact (s.move_frame _ _ _).trans (State.hand_frame _ _ _)
    · rfl

theorem State.enterProbe_frame (s : State) (u : UnitIx) : s.RestoreFrame (s.enterProbe u) :=
  s.enterProbeWith_frame _ _ _

theorem State.enterLive_frame (s : State) (u : UnitIx) (restrained : Bool) : s.RestoreFrame (s.enterLive u restrained) := by
  unfold State.enterLive
  simp only
  split
  · exact (s.move_frame _ _ _).trans ((State.setUnitFlag_frame _ _ _).trans (State.setUnitFlag_frame _ _ _))
  · exact (s.move_frame _ _ _).trans (State.setUnitFlag_frame _ _ _)

theorem State.queueForm_frame (s : State) (u : UnitIx) (form : WriteForm) : s.RestoreFrame (s.queueForm u form) :=
  (s.modUnit_frame _ _).trans (State.hand_frame _ _ _)

theorem State.enterContext_frame (s : State) (u : UnitIx) : s.RestoreFrame (s.enterContext u) := by
  unfold State.enterContext
  split
  · rfl
  · simp only
    split
    · split
      · exact (s.move_frame _ _ _).trans (State.queueForm_frame _ _ _)
      · exact (s.move_frame _ _ _).trans (State.raise_frame _ _ _ _ fun t => t.queueForm_frame _ _)
    · split
      · exact (s.move_frame _ _ _).trans (State.queueForm_frame _ _ _)
      · exact (s.move_frame _ _ _).trans (State.queueForm_frame _ _ _)

theorem State.contextFault_frame (s : State) (u : UnitIx) : s.RestoreFrame (s.contextFault u) :=
  s.fault_frame _ _ fun t => t.hand_frame _ _

theorem State.contextOutcome_frame (s : State) (u : UnitIx) (a : Option ContextAck) :
    s.RestoreFrame (s.contextOutcome u a) := by
  unfold State.contextOutcome
  split
  · rfl
  · split
    · rfl
    · split
      · exact (s.putCtx_frame _ _).trans (State.enterLive_frame _ _ _)
      · unfold State.contextRefused
        split
        · exact s.raise_frame _ _ _ fun t => t.queueForm_frame _ _
        · exact s.contextFault_frame _
      · exact s.contextFault_frame _

/-! ### Streams -/

/-- Unit entries, records, the window in flight, the links and the contexts change within the frame. -/
theorem State.parts_frame (s : State) (units : Vector (Option UnitEntry) 24) (c : Scheduler) (w : Option Window)
    (l : PerSeg Link) (r : Vector ContextRecord 24) :
    s.RestoreFrame { s with units := units, rsch := c, seng := w, links := l, ctxs := r } := rfl

/-- The records change within the frame. -/
theorem State.rsch_frame (s : State) (c : Scheduler) : s.RestoreFrame { s with rsch := c } := rfl

theorem State.enlist_frame (s : State) (u : UnitIx) : s.RestoreFrame (s.enlist u) := by
  unfold State.enlist
  split
  · rfl
  · split
    · rfl
    · simp only
      split
      · rfl
      · split
        · exact (s.rsch_frame _).trans (State.move_frame _ _ _ _)
        · split
          · exact (s.rsch_frame _).trans (State.move_frame _ _ _ _)
          · rfl

theorem State.handJoin_frame (s : State) (u : UnitIx) : s.RestoreFrame (s.handJoin u) := by
  unfold State.handJoin
  split
  · rfl
  · split
    · exact s.hand_frame _ _
    · rfl

theorem State.join_frame (s : State) (u : UnitIx) : s.RestoreFrame (s.join u) :=
  (s.enlist_frame u).trans (State.handJoin_frame _ u)

theorem State.enterWait_frame (s : State) (u : UnitIx) (held : Nat) (v : Option Version) :
    s.RestoreFrame (s.enterWait u held v) :=
  (s.move_frame _ _ _).trans (State.join_frame _ _)

/-- The units that an event hands exchanges for come in rising order of index (R82). -/
theorem unitsWhere_rising (p : UnitIx → Bool) : (unitsWhere p).Pairwise (· < ·) :=
  (List.pairwise_lt_finRange 24).filter p

/-- They are the units named. -/
@[simp] theorem mem_unitsWhere (p : UnitIx → Bool) (u : UnitIx) : u ∈ unitsWhere p ↔ p u = true := by
  simp [unitsWhere]

theorem State.form_frame (s : State) (leader : UnitIx) : s.RestoreFrame (s.form leader) := by
  unfold State.form
  split
  · rfl
  · split
    · rfl
    · exact (s.rsch_frame _).trans ((State.RestoreFrame.foldl State.enlist State.enlist_frame _ _).trans
        ((State.rsch_frame _ _).trans (State.RestoreFrame.foldl State.handJoin State.handJoin_frame _ _)))

theorem State.refreshWidths_frame (s : State) : s.RestoreFrame s.refreshWidths := rfl

theorem State.enterVerify_frame (s : State) (u : UnitIx) : s.RestoreFrame (s.enterVerify u) :=
  s.move_frame _ _ _

theorem State.handVerify_frame (s : State) (u : UnitIx) : s.RestoreFrame (s.handVerify u) :=
  s.hand_frame _ _

theorem State.complete_frame (s : State) : s.RestoreFrame s.complete := by
  unfold State.complete
  split
  · rfl
  · exact (s.rsch_frame _).trans ((State.RestoreFrame.foldl _ (fun t (m : Member) => t.enterVerify_frame m.unit) _ _).trans
      (State.RestoreFrame.foldl State.handVerify State.handVerify_frame _ _))

theorem State.push_frame (s : State) : s.RestoreFrame s.push := by
  unfold State.push
  split
  · rfl
  · exact (s.rsch_frame _).trans (State.RestoreFrame.foldl _ (fun t (m : Member) => t.move_frame m.unit _ _) _ _)

theorem State.preempt_frame (s : State) : s.RestoreFrame s.preempt := by
  unfold State.preempt
  split
  · split
    · rfl
    · split
      · exact s.push_frame.trans (State.form_frame _ _)
      · split
        · rfl
        · exact (s.rsch_frame _).trans (State.raise_frame _ _ _ _ fun t => .refl t)
  · rfl

theorem State.pop_frame (s : State) (r : StreamRecord) (rest : List StreamRecord) : s.RestoreFrame (s.pop r rest) := by
  unfold State.pop
  refine (s.rsch_frame { s.rsch with active := some r, stack := rest }).trans ?_
  refine (State.RestoreFrame.foldl (fun s (m : Member) => s.move m.unit .stream id)
    (fun t m => t.move_frame m.unit _ _) r.members _).trans ?_
  simp only
  generalize List.foldl _ _ _ = t
  refine t.refreshWidths_frame.trans (State.complete_frame _ |>.trans ?_)
  generalize t.refreshWidths.complete = q
  split
  · rfl
  · split
    · rfl
    · exact (q.rsch_frame _).trans (State.preempt_frame _)

theorem State.freeAndForm_frame (n : Nat) (s : State) : s.RestoreFrame (State.freeAndForm n s) := by
  induction n generalizing s with
  | zero => rfl
  | succ n ih =>
    unfold State.freeAndForm
    split
    · split
      · exact (s.rsch_frame _).trans (ih _)
      · rfl
    · split
      · exact (s.pop_frame _ _).trans (ih _)
      · split
        · cases s.leader with
          | none => rfl
          | some u => exact s.form_frame u
        · rfl

theorem State.beginWindow_frame (s : State) : s.RestoreFrame s.beginWindow := by
  unfold State.beginWindow
  split
  · rfl
  · simp only
    split <;> rfl

theorem State.settleStreams_frame (s : State) : s.RestoreFrame s.settleStreams :=
  (State.freeAndForm_frame 12 s).trans ((State.refreshWidths_frame _).trans (State.beginWindow_frame _))

theorem State.reportDemand_frame (s : State) : s.RestoreFrame s.reportDemand := by
  unfold State.reportDemand
  simp only
  split
  · rfl
  · split
    · exact State.RestoreFrame.trans (t := { s with
          gapc := { s.gapc with demand := s.demandNow, state := s.gapc.state.onDemand s.demandNow }
          smon := s.smon.watch (s.gapc.state.onDemand s.demandNow) }) rfl (State.setDevice_frame _ _)
    · rfl

theorem State.settled_frame (s : State) : s.RestoreFrame s.settled :=
  s.settleStreams_frame.trans (State.reportDemand_frame _)

theorem State.boundary_frame (s : State) (c n : Nat) (taken : List (UnitIx × Nat)) :
    s.RestoreFrame (s.boundary c n taken) := by
  unfold State.boundary
  simp only
  generalize hq : State.complete _ = q
  have hs : s.RestoreFrame q := hq ▸ (s.rsch_frame _).trans (State.complete_frame _)
  split
  · exact hs
  · split
    · exact hs
    · exact (hs.trans (q.rsch_frame _)).trans ((State.refreshWidths_frame _).trans (State.preempt_frame _))

theorem State.takeReading_frame (s : State) (u : UnitIx) (r : Reading) : s.RestoreFrame (s.takeReading u r) := by
  unfold State.takeReading
  simp only
  split
  · exact (s.modUnit_frame _ _).trans (State.fault_frame _ _ _ fun t => .refl t)
  · rfl

theorem State.endWindow_frame (s : State) : s.RestoreFrame s.endWindow := by
  unfold State.endWindow
  split
  · rfl
  · split
    · refine State.RestoreFrame.trans (t := { s with seng := none }) rfl ?_
      exact (State.RestoreFrame.foldl _ (fun t (p : UnitIx × Reading) => t.takeReading_frame p.1 p.2) _ _).trans
        (State.boundary_frame _ _ _ _)
    · rfl

theorem State.endPart_frame (s : State) (x : Seg) : s.RestoreFrame (s.endPart x) :=
  (s.parts_frame _ _ _ _ _).trans (State.endWindow_frame _)

theorem State.joinOutcome_frame (s : State) (u : UnitIx) (keep acked : Bool) :
    s.RestoreFrame (s.joinOutcome u keep acked) := by
  unfold State.joinOutcome
  split
  · rfl
  · split
    · rfl
    · split
      · simp only
        split
        · exact (s.modUnit_frame _ _).trans (State.complete_frame _)
        · rfl
      · exact s.fault_frame _ _ fun t => t.hand_frame _ _

/-! ### Probe, verify, poll -/

theorem State.probeFault_frame (s : State) (u : UnitIx) (p : Nat) : s.RestoreFrame (s.probeFault u p) :=
  s.fault_frame _ _ fun t => (t.modUnit_frame _ _).trans (State.hand_frame _ _ _)

theorem State.restart_frame (s : State) (u : UnitIx) (p : Nat) (c : RestartCause) : s.RestoreFrame (s.restart u p c) :=
  (s.modUnit_frame _ _).trans (State.hand_frame _ _ _)

theorem State.decideVersion_frame (s : State) (u : UnitIx) (p : Nat) (r : BootReport) (i : SlotInfo) :
    s.RestoreFrame (s.decideVersion u p r i) := by
  unfold State.decideVersion
  split
  · split
    · exact (s.modUnit_frame _ _).trans (State.enterLive_frame _ _ _)
    · exact (s.modUnit_frame _ _).trans (State.enterContext_frame _ _)
  · exact s.raise_frame _ _ _ fun t => t.restart_frame _ _ _
  · exact s.restart_frame _ _ _
  · exact s.enterWait_frame _ _ _

theorem State.judgeReport_frame (s : State) (u : UnitIx) (p : Nat) (r : BootReport) :
    s.RestoreFrame (s.judgeReport u p r) := by
  unfold State.judgeReport
  split
  · rfl
  · simp only
    refine (s.modUnit_frame u (·.learn r s.timing.maxWindow)).trans ?_
    split
    · exact State.raise_frame _ _ _ _ fun t => t.toFailed_frame _
    · split
      · split
        · exact State.restart_frame _ _ _ _
        · exact State.enterWait_frame _ _ _ _
      · exact State.decideVersion_frame _ _ _ _ _
      · exact State.raise_frame _ _ _ _ fun t => t.toFailed_frame _

theorem State.probeOutcome_frame (s : State) (u : UnitIx) (sent : Nat) (r : Option BootReport) :
    s.RestoreFrame (s.probeOutcome u sent r) := by
  unfold State.probeOutcome
  split
  · split
    · exact s.probeFault_frame _ _
    · split
      · exact s.probeFault_frame _ _
      · split
        · exact (s.modUnit_frame _ _).trans (State.raise_frame _ _ _ _ fun t => t.probeFault_frame _ _)
        · exact (s.modUnit_frame _ _).trans (State.judgeReport_frame _ _ _ _)
  · rfl

theorem State.restartOutcome_frame (s : State) (u : UnitIx) (acked : Bool) : s.RestoreFrame (s.restartOutcome u acked) := by
  unfold State.restartOutcome
  split
  · split
    · exact (s.modUnit_frame _ _).trans (State.enterWait_frame _ _ _ _)
    · exact s.probeFault_frame _ _
  · rfl

theorem State.verifyFault_frame (s : State) (u : UnitIx) (v : VerifyRecord) : s.RestoreFrame (s.verifyFault u v) :=
  s.fault_frame _ _ fun t => (t.modUnit_frame _ _).trans (State.hand_frame _ _ _)

theorem State.verifyRequestOutcome_frame (s : State) (u : UnitIx) (acked : Bool) :
    s.RestoreFrame (s.verifyRequestOutcome u acked) := by
  unfold State.verifyRequestOutcome
  split
  · split
    · rfl
    · split
      · exact s.modUnit_frame _ _
      · exact s.verifyFault_frame _ _
  · rfl

theorem State.mismatchDefault_frame (s : State) (u : UnitIx) : s.RestoreFrame (s.mismatchDefault u) := by
  refine s.fault_frame _ _ fun t => ?_
  split
  · exact t.enterWait_frame _ _ _
  · rfl

theorem State.verifyReady_frame (s : State) (u : UnitIx) (v : VerifyRecord) (crc : Crc32) :
    s.RestoreFrame (s.verifyReady u v crc) := by
  unfold State.verifyReady
  split
  · rfl
  · simp only [State.setVerify]
    refine (s.modUnit_frame u fun e => { e with verify := some { v with lastCrc := some crc } }).trans ?_
    split
    · rfl
    · split
      · exact (State.modUnit_frame _ _ _).trans (State.enterContext_frame _ _)
      · exact State.raise_frame _ _ _ _ fun t => t.mismatchDefault_frame _

theorem State.verifyPollOutcome_frame (s : State) (u : UnitIx) (r : Option VerifyReport) :
    s.RestoreFrame (s.verifyPollOutcome u r) := by
  unfold State.verifyPollOutcome
  split
  · split
    · exact s.verifyReady_frame _ _ _
    · split
      · exact s.verifyFault_frame _ _
      · exact s.modUnit_frame _ _
    · rfl
  · rfl

theorem State.pollLoss_frame (s : State) (u : UnitIx) : s.RestoreFrame (s.pollLoss u) :=
  (s.move_frame _ _ _).trans ((State.freezeAndAge_frame _ _).trans (State.enterProbe_frame _ _))

theorem State.pollOutcome_frame (s : State) (u : UnitIx) (r : Option ContextReport) : s.RestoreFrame (s.pollOutcome u r) := by
  unfold State.pollOutcome
  split
  · rfl
  · split
    · rfl
    · split
      · exact (s.modUnit_frame _ _).trans (State.putCtx_frame _ _ _)
      · exact s.pollLoss_frame _
      · split
        · exact s.pollLoss_frame _
        · rfl

/-- An outcome handed to its owner stays within the frame (R81). -/
theorem State.unitOutcome_frame (s : State) (ex : Exchange) (a : Option AnswerBody) : s.RestoreFrame (s.unitOutcome ex a) := by
  cases ex with
  | window _ => rfl
  | probe u p => exact s.probeOutcome_frame _ _ _
  | restart u => exact s.restartOutcome_frame _ _
  | join u keep => exact s.joinOutcome_frame _ _ _
  | verifyRequest u => exact s.verifyRequestOutcome_frame _ _
  | verifyPoll u => exact s.verifyPollOutcome_frame _ _
  | contextSequence _ => rfl
  | contextPoll u => exact s.pollOutcome_frame _ _

/-- The end of a wait for an answer stays within the frame (R80, R84). -/
theorem State.waitEnded_frame (s : State) (x : Seg) (a : Option AnswerBody) : s.RestoreFrame (s.waitEnded x a) := by
  unfold State.waitEnded
  split
  · rfl
  · split
    · rfl
    · split
      · rfl
      · split
        · unfold State.partAnswer
          simp only
          split
          · rfl
          · exact (s.parts_frame _ _ _ _ _).trans ((State.endPart_frame _ _).trans (State.settled_frame _))
        · unfold State.sequenceAnswer
          split
          · rfl
          · exact (s.onLink_frame _ _).trans ((State.contextOutcome_frame _ _ _).trans (State.settled_frame _))
        · exact (s.onLink_frame _ _).trans ((State.unitOutcome_frame _ _ _).trans (State.settled_frame _))

/-! ### Segment-usable -/

theorem State.pollDueNow_frame (s : State) (u : UnitIx) : s.RestoreFrame (s.pollDueNow u) :=
  (s.modUnit_frame _ _).trans (State.hand_frame _ _ _)

theorem State.resume_frame (s : State) (u : UnitIx) : s.RestoreFrame (s.resume u) := by
  unfold State.resume
  split
  · exact s.pollDueNow_frame u
  · split
    · exact s.enterProbe_frame u
    · rfl

theorem State.segmentUsable_frame (s : State) (x : Seg) : s.RestoreFrame (s.segmentUsable x) := by
  unfold State.segmentUsable
  split
  · exact (s.onLink_frame x (·.start)).trans (.foldl _ State.resume_frame _ _)
  · rfl

/-! ### Unit requests -/

theorem State.force_frame (s : State) (u : UnitIx) : s.RestoreFrame (s.force u) := by
  unfold State.force State.freezeIfLive
  refine (s.withdraw_frame u).trans ?_
  generalize s.withdraw u = t
  split
  · exact (t.freezeAndAge_frame u).trans ((State.modUnit_frame _ _ _).trans (State.enterProbe_frame _ _))
  · exact (t.modUnit_frame _ _).trans (State.enterProbe_frame _ _)

theorem State.readmit_frame (s : State) (u : UnitIx) : s.RestoreFrame (s.readmit u) :=
  (s.move_frame _ _ _).trans ((State.freezeAndAge_frame _ _).trans (State.enterProbe_frame _ _))

theorem State.remove_frame (s : State) (u : UnitIx) : s.RestoreFrame (s.remove u) :=
  (s.withdraw_frame u).trans rfl

theorem State.define_frame (s : State) (d : Definition) : s.RestoreFrame (s.define d) :=
  State.RestoreFrame.trans (t := { s with
    units := s.units.set d.unit.val (some (.fresh d.decl s.timing.maxWindow))
    ctxs := s.ctxs.set d.unit.val .blank
    cflu := s.cflu.forgetUnit d.unit (BitVec.allOnes 13) }) rfl (State.enterProbe_frame _ _)

end Sys2Proof.Machine
end

