-- ==== Sys2Proof/Laws/Spares.lean ====
section
/-! SUPPORT. What the restore scheduler's own work leaves alone: a unit that is a member of no record and not in WAIT keeps
its entry through `State.settled`, and stays out of the records. -/

namespace Sys2Proof.Machine

/-! ### Units out of the scheduler's reach -/

/-- Unit `v` is a member of no record. -/
def Scheduler.Lacks (c : Scheduler) (v : UnitIx) : Prop :=
  (∀ r, c.active = some r → ∀ m ∈ r.members, m.unit ≠ v) ∧ ∀ r ∈ c.stack, ∀ m ∈ r.members, m.unit ≠ v

/-- Unit `v` is a member of no record and not in WAIT. -/
def State.Apart (s : State) (v : UnitIx) : Prop :=
  s.rsch.Lacks v ∧ ∀ e, s.unit v = some e → e.state ≠ .wait

/-- The work from `s` to `t` leaves a unit that is apart as it is, and apart. -/
def State.Passes (s t : State) (v : UnitIx) : Prop :=
  s.Apart v → t.Apart v ∧ t.unit v = s.unit v

theorem State.Passes.refl (s : State) (v : UnitIx) : s.Passes s v :=
  fun h => ⟨h, rfl⟩

theorem State.Passes.trans {s t r : State} {v : UnitIx} (h : s.Passes t v) (h' : t.Passes r v) : s.Passes r v :=
  fun hs => ⟨(h' (h hs).1).1, (h' (h hs).1).2.trans (h hs).2⟩

/-- Work that keeps the unit's entry and puts it into no record. -/
theorem State.Passes.of_same {s t : State} {v : UnitIx} (hu : t.unit v = s.unit v)
    (hr : s.rsch.Lacks v → t.rsch.Lacks v) : s.Passes t v :=
  fun h => ⟨⟨hr h.1, fun e he => h.2 e (hu ▸ he)⟩, hu⟩

theorem State.Passes.foldl {α : Type} {v : UnitIx} (f : State → α → State) (l : List α)
    (h : ∀ a ∈ l, ∀ s : State, s.Passes (f s a) v) (s : State) : s.Passes (l.foldl f s) v := by
  induction l generalizing s with
  | nil => exact .refl s v
  | cons a l ih =>
    exact (h a (by simp) s).trans (ih (fun b hb => h b (by simp [hb])) _)

/-- A unit of no record is in neither list of members. -/
theorem State.lacks_iff (s : State) (v : UnitIx) :
    s.rsch.Lacks v ↔ v ∉ s.activeUnits ∧ v ∉ s.suspendedUnits := by
  unfold Scheduler.Lacks State.activeUnits State.suspendedUnits
  constructor
  · rintro ⟨ha, hs⟩
    constructor
    · intro h
      simp only [List.mem_map, List.mem_flatMap, Option.mem_toList] at h
      obtain ⟨m, ⟨r, hr, hm⟩, hv⟩ := h
      exact ha r hr m hm hv
    · intro h
      simp only [List.mem_map, List.mem_flatMap] at h
      obtain ⟨m, ⟨r, hr, hm⟩, hv⟩ := h
      exact hs r hr m hm hv
  · rintro ⟨ha, hs⟩
    constructor
    · intro r hr m hm hv
      exact ha (by simp only [List.mem_map, List.mem_flatMap, Option.mem_toList]; exact ⟨m, ⟨r, hr, hm⟩, hv⟩)
    · intro r hr m hm hv
      exact hs (by simp only [List.mem_map, List.mem_flatMap]; exact ⟨m, ⟨r, hr, hm⟩, hv⟩)

/-- By the membership law a unit in no state of the scheduler's is apart. -/
theorem State.MembershipLaw.apart {s : State} {v : UnitIx} (h : s.MembershipLaw)
    (hv : ∀ e, s.unit v = some e → e.state ≠ .wait ∧ e.state ≠ .stream ∧ e.state ≠ .suspended) : s.Apart v := by
  refine ⟨(s.lacks_iff v).2 ⟨fun ha => ?_, fun hs => ?_⟩, fun e he => (hv e he).1⟩
  · obtain ⟨e, he, hst⟩ := (h.2.1 v).1 ha
    exact (hv e he).2.1 hst
  · obtain ⟨e, he, hst⟩ := (h.2.2.1 v).1 hs
    exact (hv e he).2.2 hst

/-! ### Entries read after an operation -/

@[simp] theorem State.unit_hand (s : State) (u v : UnitIx) (ex : Exchange) : (s.hand u ex).unit v = s.unit v := by
  unfold State.hand
  split <;> rfl

@[simp] theorem State.rsch_hand (s : State) (u : UnitIx) (ex : Exchange) : (s.hand u ex).rsch = s.rsch := by
  unfold State.hand
  split <;> rfl

@[simp] theorem State.unit_withdraw (s : State) (u v : UnitIx) : (s.withdraw u).unit v = s.unit v := by
  unfold State.withdraw State.withdrawLink
  split <;> rfl

@[simp] theorem State.rsch_withdraw (s : State) (u : UnitIx) : (s.withdraw u).rsch = s.rsch.removeAll (· == u) := by
  unfold State.withdraw State.withdrawLink
  split <;> rfl

theorem State.unit_setUnitFlag (s : State) (u v : UnitIx) (f : UnitFlag) :
    (s.setUnitFlag u f).unit v =
      if u = v then (s.unit v).map fun e => { e with flags := e.flags ||| BitVec.twoPow 13 f.bit } else s.unit v := by
  unfold State.setUnitFlag
  split
  · next h =>
    split
    · next huv => subst huv; simp [h]
    · rfl
  · next e h =>
    refine (getElem_set_ix s.units u v _).trans ?_
    split
    · next huv => subst huv; simp [h]
    · rfl

@[simp] theorem State.rsch_setUnitFlag (s : State) (u : UnitIx) (f : UnitFlag) : (s.setUnitFlag u f).rsch = s.rsch := by
  unfold State.setUnitFlag
  split <;> rfl

/-! ### Removal from the records -/

theorem StreamRecord.mem_removeAll {r : StreamRecord} {p : UnitIx → Bool} {m : Member}
    (h : m ∈ (r.removeAll p).members) : m ∈ r.members ∧ p m.unit = false := by
  simpa [StreamRecord.removeAll] using h

@[simp] theorem StreamRecord.place_members (r : StreamRecord) (p : Nat) : (r.place p).members = r.members := rfl

theorem StreamRecord.removeActive_members (r : StreamRecord) (p : UnitIx → Bool) :
    (r.removeActive p).members = (r.removeAll p).members := by
  unfold StreamRecord.removeActive
  split <;> rfl

/-- Removal puts no unit into a record. -/
theorem Scheduler.Lacks.removeAll {c : Scheduler} {v : UnitIx} (h : c.Lacks v) (p : UnitIx → Bool) :
    (c.removeAll p).Lacks v := by
  refine ⟨fun r hr m hm => ?_, fun r hr m hm => ?_⟩
  · simp only [Scheduler.removeAll, Option.map_eq_some_iff] at hr
    obtain ⟨q, hq, rfl⟩ := hr
    rw [StreamRecord.removeActive_members] at hm
    exact h.1 q hq m (StreamRecord.mem_removeAll hm).1
  · simp only [Scheduler.removeAll] at hr
    obtain ⟨q, hq, rfl⟩ := List.mem_map.1 (List.mem_filter.1 hr).1
    exact h.2 q hq m (StreamRecord.mem_removeAll hm).1

/-- A unit taken out of every record is a member of none. -/
theorem Scheduler.lacks_removeAll (c : Scheduler) (v : UnitIx) (p : UnitIx → Bool) (hp : p v = true) :
    (c.removeAll p).Lacks v := by
  refine ⟨fun r hr m hm => ?_, fun r hr m hm => ?_⟩
  · simp only [Scheduler.removeAll, Option.map_eq_some_iff] at hr
    obtain ⟨q, hq, rfl⟩ := hr
    rw [StreamRecord.removeActive_members] at hm
    rintro rfl
    simp [(StreamRecord.mem_removeAll hm).2] at hp
  · simp only [Scheduler.removeAll] at hr
    obtain ⟨q, hq, rfl⟩ := List.mem_map.1 (List.mem_filter.1 hr).1
    rintro rfl
    simp [(StreamRecord.mem_removeAll hm).2] at hp

/-! ### One other unit at work -/

section
variable {v : UnitIx}

theorem State.move_passes (s : State) {u : UnitIx} (st : UnitState) (f : UnitEntry → UnitEntry) (h : u ≠ v) :
    s.Passes (s.move u st f) v :=
  .of_same (by rw [State.unit_move, if_neg h]) fun hr => hr

theorem State.modUnit_passes (s : State) {u : UnitIx} (f : UnitEntry → UnitEntry) (h : u ≠ v) :
    s.Passes (s.modUnit u f) v :=
  .of_same (by rw [State.unit_modUnit, if_neg h]) fun hr => hr

theorem State.hand_passes (s : State) (u : UnitIx) (ex : Exchange) : s.Passes (s.hand u ex) v :=
  .of_same (s.unit_hand u v ex) fun hr => (s.rsch_hand u ex).symm ▸ hr

theorem State.setUnitFlag_passes (s : State) {u : UnitIx} (f : UnitFlag) (h : u ≠ v) : s.Passes (s.setUnitFlag u f) v :=
  .of_same (by rw [State.unit_setUnitFlag, if_neg h]) fun hr => (s.rsch_setUnitFlag u f).symm ▸ hr

theorem State.withdraw_passes (s : State) (u : UnitIx) : s.Passes (s.withdraw u) v :=
  .of_same (s.unit_withdraw u v) fun hr => (s.rsch_withdraw u).symm ▸ hr.removeAll _

theorem State.toHeld_passes (s : State) {u : UnitIx} (k : Condition) (h : u ≠ v) : s.Passes (s.toHeld u k) v :=
  (s.withdraw_passes u).trans ((State.move_passes _ _ _ h).trans (State.setUnitFlag_passes _ _ h))

theorem State.toFailed_passes (s : State) {u : UnitIx} (h : u ≠ v) : s.Passes (s.toFailed u) v :=
  (s.withdraw_passes u).trans ((State.move_passes _ _ _ h).trans (State.setUnitFlag_passes _ _ h))

theorem State.raise_passes (s : State) {u : UnitIx} (k : Condition) (d : State → State) (h : u ≠ v)
    (hd : ∀ t : State, t.Passes (d t) v) : s.Passes (s.raise u k d) v := by
  unfold State.raise
  simp only
  split
  · exact (s.setUnitFlag_passes _ h).trans (State.toHeld_passes _ _ h)
  · exact (s.setUnitFlag_passes _ h).trans (hd _)

theorem State.fault_passes (s : State) {u : UnitIx} (again : State → State) (h : u ≠ v)
    (hd : ∀ t : State, t.Passes (again t) v) : s.Passes (s.fault u again) v := by
  unfold State.fault
  simp only
  split
  · exact (s.modUnit_passes _ h).trans (State.raise_passes _ _ _ h fun t => t.toFailed_passes h)
  · exact (s.modUnit_passes _ h).trans (hd _)

theorem State.enterProbeWith_passes (s : State) {u : UnitIx} (r : ProbeRecord) (ex : Exchange) (h : u ≠ v) :
    s.Passes (s.enterProbeWith u r ex) v := by
  unfold State.enterProbeWith
  split
  · exact .refl s v
  · split
    · exact (s.move_passes _ _ h).trans (State.hand_passes _ _ _)
    · exact s.move_passes _ _ h

/-! ### The scheduler's own work -/

/-- The records change and no unit is put into one; then the work goes on. -/
theorem State.Passes.records {s t : State} (c : Scheduler) (h : s.rsch.Lacks v → c.Lacks v)
    (ht : ({ s with rsch := c } : State).Passes t v) : s.Passes t v :=
  State.Passes.trans (t := { s with rsch := c }) (.of_same rfl h) ht

/-- The active record changes and gets no new member. -/
theorem Scheduler.Lacks.active {c : Scheduler} (h : c.Lacks v) {f : StreamRecord → StreamRecord}
    (hf : ∀ r, (∀ m ∈ r.members, m.unit ≠ v) → ∀ m ∈ (f r).members, m.unit ≠ v) :
    ({ c with active := c.active.map f } : Scheduler).Lacks v := by
  refine ⟨fun r hr => ?_, h.2⟩
  obtain ⟨q, hq, rfl⟩ := Option.map_eq_some_iff.1 hr
  exact hf q (h.1 q hq)

/-- The suspended records change and get no new member. -/
theorem Scheduler.Lacks.stack {c : Scheduler} (h : c.Lacks v) {f : StreamRecord → StreamRecord}
    (hf : ∀ r, (∀ m ∈ r.members, m.unit ≠ v) → ∀ m ∈ (f r).members, m.unit ≠ v) :
    ({ c with stack := c.stack.map f } : Scheduler).Lacks v := by
  refine ⟨h.1, fun r hr => ?_⟩
  obtain ⟨q, hq, rfl⟩ := List.mem_map.1 hr
  exact hf q (h.2 q hq)

/-- The active record is given, with no member of the unit's. -/
theorem Scheduler.Lacks.withActive {c : Scheduler} (h : c.Lacks v) {o : Option StreamRecord}
    (ho : ∀ r, o = some r → ∀ m ∈ r.members, m.unit ≠ v) : ({ c with active := o } : Scheduler).Lacks v :=
  ⟨ho, h.2⟩

theorem StreamRecord.admit_lacks {r : StreamRecord} {u : UnitIx} {e : UnitEntry} {keep : Bool} (h : u ≠ v)
    (hr : ∀ m ∈ r.members, m.unit ≠ v) : ∀ m ∈ (r.enrol u e keep).members, m.unit ≠ v := by
  intro m hm
  simp only [StreamRecord.enrol, List.mem_append, List.mem_singleton] at hm
  rcases hm with hm | rfl
  · exact hr m hm
  · exact h

theorem State.enlist_passes (s : State) (u : UnitIx) : s.Passes (s.enlist u) v := by
  by_cases h : u = v
  · subst h
    intro ha
    have hj : s.enlist u = s := by
      unfold State.enlist
      split
      · rfl
      · next e he =>
        split
        · rfl
        · simp only
          rw [if_pos (.inl (ha.2 e he))]
    rw [hj]
    exact ⟨ha, rfl⟩
  · unfold State.enlist
    split
    · exact .refl s v
    · split
      · exact .refl s v
      · simp only
        split
        · exact .refl s v
        · split
          · refine State.Passes.records _ (fun hr => hr.active fun r hm => ?_) (State.move_passes _ _ _ h)
            split
            · exact StreamRecord.admit_lacks h hm
            · exact StreamRecord.admit_lacks h hm
          · split
            · refine State.Passes.records _ (fun hr => hr.stack fun r hm => ?_) (State.move_passes _ _ _ h)
              split
              · exact StreamRecord.admit_lacks h hm
              · exact hm
            · exact .refl s v

theorem State.handJoin_passes (s : State) (u : UnitIx) : s.Passes (s.handJoin u) v := by
  unfold State.handJoin
  split
  · exact .refl s v
  · split
    · exact s.hand_passes _ _
    · exact .refl s v

theorem State.join_passes (s : State) (u : UnitIx) : s.Passes (s.join u) v :=
  (s.enlist_passes u).trans (State.handJoin_passes _ u)

/-- Placing the active record's cursor puts no unit into it. -/
theorem State.placed_passes (s : State) :
    s.Passes { s with rsch := { s.rsch with active := s.rsch.active.map (·.place 0) } } v :=
  .of_same rfl fun hr => hr.active (f := (·.place 0)) fun _ hm => hm

theorem State.form_passes (s : State) (leader : UnitIx) : s.Passes (s.form leader) v := by
  unfold State.form
  split
  · exact .refl s v
  · split
    · exact .refl s v
    · refine State.Passes.records _ (fun hr => hr.withActive fun r hr' m hm => ?_)
        ((State.Passes.foldl State.enlist _ (fun u _ t => t.enlist_passes u) _).trans
          ((State.placed_passes _).trans (State.Passes.foldl State.handJoin _ (fun u _ t => t.handJoin_passes u) _)))
      obtain rfl := Option.some.inj hr'
      simp at hm

theorem State.refreshWidths_passes (s : State) : s.Passes s.refreshWidths v :=
  .of_same rfl fun hr => (hr.active (f := fun r => { r with w := s.width r }) fun _ hm => hm).stack
    (f := fun r => { r with w := s.width r }) fun _ hm => hm

theorem State.enterVerify_passes (s : State) {u : UnitIx} (h : u ≠ v) : s.Passes (s.enterVerify u) v :=
  s.move_passes _ _ h

theorem State.complete_passes (s : State) : s.Passes s.complete v := by
  unfold State.complete
  split
  · exact .refl s v
  · next r hr =>
    intro ha
    have hm : ∀ m ∈ r.members, m.unit ≠ v := ha.1.1 r hr
    refine State.Passes.records _ (fun hl => hl.withActive fun q hq m hm' => ?_)
      ((State.Passes.foldl (fun t (m : Member) => t.enterVerify m.unit) _ (fun m hm' t => ?_) _).trans
        (State.Passes.foldl State.handVerify _ (fun u _ t => t.hand_passes u _) _)) ha
    · obtain rfl := Option.some.inj hq
      exact hm m (List.mem_filter.1 hm').1
    · exact t.enterVerify_passes (hm m (List.mem_filter.1 hm').1)

theorem State.push_passes (s : State) : s.Passes s.push v := by
  unfold State.push
  split
  · exact .refl s v
  · next r hr =>
    intro ha
    have hm : ∀ m ∈ r.members, m.unit ≠ v := ha.1.1 r hr
    refine State.Passes.records _ (fun hl => ⟨fun q hq => (by cases hq), fun q hq m hm' => ?_⟩)
      (State.Passes.foldl (fun t (m : Member) => t.move m.unit .suspended id) _ (fun m hm' t => ?_) _) ha
    · rcases List.mem_cons.1 hq with rfl | hq
      · exact hm m hm'
      · exact hl.2 q hq m hm'
    · exact t.move_passes _ _ (hm m hm')

/-- The leader is an eligible unit. -/
theorem State.leader_eligible {s : State} {u : UnitIx} (h : s.leader = some u) : s.eligible u = true := by
  unfold State.leader at h
  have key : ∀ (l : List UnitIx) (best : Option UnitIx), l.foldl s.better best = some u → best = some u ∨ u ∈ l := by
    intro l
    induction l with
    | nil => intro best h; exact .inl h
    | cons a l ih =>
      intro best h
      rcases ih _ h with h | h
      · unfold State.better at h
        split at h
        · exact .inr (by simp [Option.some.inj h])
        · split at h
          · exact .inr (by simp [Option.some.inj h])
          · exact .inl h
      · exact .inr (by simp [h])
  rcases key _ _ h with h | h
  · cases h
  · exact (List.mem_filter.1 h).2

/-- An eligible unit is in WAIT (R115). -/
theorem State.eligible_wait {s : State} {u : UnitIx} (h : s.eligible u = true) :
    ∃ e, s.unit u = some e ∧ e.state = .wait := by
  unfold State.eligible at h
  cases hu : s.unit u with
  | none => simp [hu] at h
  | some e =>
    refine ⟨e, rfl, ?_⟩
    simp [hu] at h
    exact h.1.1.1

theorem State.preempt_passes (s : State) : s.Passes s.preempt v := by
  unfold State.preempt
  split
  · next u hr hu =>
    split
    · exact .refl s v
    · split
      · exact s.push_passes.trans (State.form_passes _ _)
      · split
        · exact .refl s v
        · intro ha
          have hne : u ≠ v := by
            rintro rfl
            obtain ⟨e, he, hw⟩ := State.eligible_wait (State.leader_eligible hu)
            exact ha.2 e he hw
          exact State.Passes.records { s.rsch with marks := s.rsch.marks ++ [u] } (fun hl => hl) (State.raise_passes _ _ _ hne fun t => .refl t v) ha
  · exact .refl s v

theorem State.pop_passes (s : State) (r : StreamRecord) (rest : List StreamRecord) (h : s.rsch.stack = r :: rest) :
    s.Passes (s.pop r rest) v := by
  intro ha
  have hm : ∀ m ∈ r.members, m.unit ≠ v := ha.1.2 r (by simp [h])
  have h1 : s.Passes { s with rsch := { s.rsch with active := some r, stack := rest } } v :=
    .of_same rfl fun hl => ⟨fun q (hq : some r = some q) => Option.some.inj hq ▸ hm,
      fun q hq => hl.2 q (by rw [h]; exact List.mem_cons_of_mem _ hq)⟩
  have h2 := h1.trans (State.Passes.foldl (fun t (m : Member) => t.move m.unit .stream id) r.members
    (fun m hm' t => t.move_passes _ _ (hm m hm')) _)
  unfold State.pop
  simp only
  generalize hq : State.complete _ = q
  have h3 : s.Passes q v := hq ▸ h2.trans ((State.refreshWidths_passes _).trans (State.complete_passes _))
  split
  · exact h3 ha
  · next a haq =>
    split
    · exact h3 ha
    · exact (h3.trans (.records { q.rsch with active := some (a.place a.cursor) }
        (fun hl => hl.withActive fun b hb => Option.some.inj hb ▸ hl.1 a haq)
        (State.preempt_passes _))) ha

theorem State.freeAndForm_passes (n : Nat) (s : State) : s.Passes (State.freeAndForm n s) v := by
  induction n generalizing s with
  | zero => exact .refl s v
  | succ n ih =>
    unfold State.freeAndForm
    split
    · split
      · exact .records { s.rsch with active := none } (fun hl => hl.withActive fun q hq => by cases hq) (ih _)
      · exact .refl s v
    · split
      · next r rest h => exact (s.pop_passes r rest h).trans (ih _)
      · split
        · cases s.leader with
          | none => exact .refl s v
          | some u => exact s.form_passes u
        · exact .refl s v

theorem State.beginWindow_passes (s : State) : s.Passes s.beginWindow v := by
  unfold State.beginWindow
  split
  · exact .refl s v
  · next r hr =>
    simp only
    split
    · exact .of_same rfl fun hl => ⟨fun q hq => Option.some.inj hq ▸ hl.1 r hr, hl.2⟩
    · exact .refl s v

theorem State.settleStreams_passes (s : State) : s.Passes s.settleStreams v :=
  (State.freeAndForm_passes 12 s).trans ((State.refreshWidths_passes _).trans (State.beginWindow_passes _))

theorem State.reportDemand_passes (s : State) : s.Passes s.reportDemand v := by
  unfold State.reportDemand
  simp only
  split
  · exact .refl s v
  · exact .of_same rfl fun hl => hl

/-- The scheduler's own work and the report of demand leave a unit that is apart as it is (R112 to R129). -/
theorem State.settled_passes (s : State) : s.Passes s.settled v :=
  s.settleStreams_passes.trans (State.reportDemand_passes _)

/-- The end of a command leaves every unit as it is. -/
theorem State.finishAfter_passes (s : State) (last : Option Requester) : s.Passes (s.finishAfter last) v := by
  have h := (s.ends_finishAfter last).same
  refine .of_same ?_ fun hl => ?_
  · rw [h]; rfl
  · rw [h]; exact hl

/-- Work that every unit but `u` passes spares the others, where the membership law holds. -/
theorem State.MembershipLaw.spares {s t : State} {u : UnitIx} (h : s.MembershipLaw) (hp : ∀ v, u ≠ v → s.Passes t v) :
    s.SparesOthers t u :=
  fun v hv hst => (hp v hv.symm (h.apart hst)).2

end

end Sys2Proof.Machine
end

