-- ==== Sys2Proof/Tests/Slice0.lean ====
section
/-! SUPPORT. Tests: well-formedness of commands; for every command at most two steps on small states, with results from the
spec's rules and worked cases; and, for each statement of Obligations.lean that has hypotheses, a witness that meets them. -/

namespace Sys2Proof.Tests

open Sys2Proof.Machine

/-! ### Well-formedness -/

set_option maxRecDepth 20000 in
theorem test_wf_payload_1060 : (Instr.setMasks 1 (List.replicate 1060 0)).wellFormed = true := by decide

set_option maxRecDepth 20000 in
theorem test_wf_payload_1061 : (Instr.setMasks 1 (List.replicate 1061 0)).wellFormed = false := by decide

theorem test_wf_unknown_kind : (Instr.unknownKind 0x7F 1).wellFormed = true := by decide

theorem test_wf_unknown_kind_of_request : (Instr.unknownKind 0x27 1).wellFormed = false := by decide

theorem test_wf_unknown_kind_above : (Instr.unknownKind 0x80 1).wellFormed = false := by decide

theorem test_wf_reply_kind : (Instr.replyKindFrameDiscarded 0x80 1).wellFormed = true := by decide

theorem test_wf_reply_kind_below : (Instr.replyKindFrameDiscarded 0x7F 1).wellFormed = false := by decide

/-! ### Small states -/

/-- Whether a command answers a next state that meets `p`. -/
def next (o : Host.Outcome State Fault Refusal) (p : State → Bool) : Bool :=
  match o with
  | .next t => p t
  | _ => false

/-- An image of two blocks for DOOR units, version 2.4.310. -/
def image : SlotInfo where
  cls := .door
  version := ⟨2, 4, 310⟩
  len := 2
  first := 0
  crc := 5

/-- A DOOR unit on segment A with address 1, bound to slot 0. -/
def door (st : UnitState) : UnitEntry :=
  { UnitEntry.fresh ⟨.a, 1, .door, 0, 7⟩ 8 with state := st }

/-- A running link. -/
def idleLink : Link :=
  { Link.initial true with halted := false }

/-- A part in gap state `g` with nothing defined, nothing owed and all flags clear. -/
def quiet (g : GapState) : State :=
  { State.reset with
    gapc := { GapCtl.initial 812 with state := g, durUnknown := false }
    cflu := { State.reset.cflu with device := 0, alert := false }
    clnk := { State.reset.clnk with tx := none } }

/-- A part in RESTORE with one unit, index 0, its slot VALID and the links running. -/
def car (e : UnitEntry) : State :=
  { quiet .restore with
    gapc := { GapCtl.initial 812 with state := .restore, durUnknown := false, demand := true }
    units := (Vector.replicate 24 none).set 0 (some e)
    ims := { slots := (Vector.replicate 8 .empty).set 0 (.valid image), mem := [], port := none }
    links := ⟨idleLink, idleLink, idleLink⟩ }

/-- The exchange that segment A's link carries in `fly`. -/
def flight (ex : Exchange) (body : FrameBody) (phase : LinkPhase) : InFlight :=
  { exchange := ex, frame := ⟨some 0, 1, body⟩, seq := 9, todo := [], phase := phase, cut := false, marked := false }

/-- A part whose link A carries an exchange for unit 0. -/
def fly (s : State) (ex : Exchange) (body : FrameBody) (phase : LinkPhase) : State :=
  { s with links := { s.links with a := { s.links.a with inFlight := some (flight ex body phase) } } }

/-- The answer of the unit with address 1 to the frame of `flight`. -/
def answer (body : AnswerBody) : AnswerFrame :=
  ⟨1, 9, body⟩

/-- A RUN report with the slot's version and an intact context. -/
def current : BootReport :=
  { mode := some .run, cls := some .door, version := some ⟨2, 4, 310⟩, held := none, intact := some true,
    capability := 8,
    echo := probePattern 0 }

/-- The state of unit 0. -/
def stateOf0 (s : State) : Option UnitState :=
  (s.unit 0).map (·.state)

/-- The statuses of the replies owed. -/
def statuses (s : State) : List Status :=
  s.clnk.owed.map (·.status)

/-- A state in which an array access of a long request is in progress, slot 0 being LOADING. -/
def working (w : LongWork) : State :=
  { quiet .supplied with
    ims :=
      { slots := (Vector.replicate 8 .empty).set 0 (.loading image 0 []), mem := [], port := some .longRequest }
    clnk := { (quiet .supplied).clnk with long := some ⟨0x11, 3, w, false⟩ } }

/-! ### Computations with results the spec states -/

set_option maxRecDepth 20000 in
/-- R203: over "123456789" the CRC-16 is 0x29B1. -/
theorem test_crc16 : crc16 [0x31, 0x32, 0x33, 0x34, 0x35, 0x36, 0x37, 0x38, 0x39] = 0x29B1 := by decide

set_option maxRecDepth 20000 in
/-- R205, R206: a CONTEXT_POLL in flight to address 1 with sequence 9, and its CRC over the five bytes between sync and CRC;
a BLOCK frame of block 5 to the group of slot 2, here with two data bytes; a link that waits sends nothing. -/
theorem test_segment_frame :
    (fly (car (door .live)) (.contextPoll 0) .contextPoll .sending).links.a.sending? =
        some ([0xC3, 0x01, 0x0B, 0x09, 0x00, 0x00] ++ be16 (crc16 [0x01, 0x0B, 0x09, 0x00, 0x00])) ∧
      OutFrame.bytes ⟨none, groupAddress 2, .block 5 [0xAA, 0xBB]⟩ 7 =
        [0xC3, 0x42, 0x04, 0x07, 0x00, 0x03, 0x05, 0xAA, 0xBB] ++
          be16 (crc16 [0x42, 0x04, 0x07, 0x00, 0x03, 0x05, 0xAA, 0xBB]) ∧
      (fly (car (door .live)) (.contextPoll 0) .contextPoll (.waiting 0 10)).links.a.sending? = none := by decide

/-- R205: BUSY is the second flag bit, NOBURST the third. -/
theorem test_window_answer_payload : windowAnswerPayload ⟨4, false, true, true, 2⟩ = [4, 6, 2] := by decide

set_option maxRecDepth 20000 in
/-- The image check is the reflected CRC-32 with start and end all ones, whose check value is CBF43926. -/
theorem test_crc32 :
    crc32Finish (crc32Update crc32Start [0x31, 0x32, 0x33, 0x34, 0x35, 0x36, 0x37, 0x38, 0x39]) = 0xCBF43926 := by decide

/-- R97: the pattern of attempt 1. -/
theorem test_probePattern : probePattern 1 =
    [0x61, 0x7E, 0x9B, 0xB8, 0xD5, 0xF2, 0x0F, 0x2C, 0x49, 0x66, 0x83, 0xA0, 0xBD, 0xDA, 0xF7, 0x14] := by decide

/-- R2, the first example; and section 1.6, sample 2 of the first case: the window's code is 2,398. -/
theorem test_offset_and_filter :
    corrected 4050 100 = 4095 ∧ filteredCode (pushSample 4 [2399, 2399, 2399, 2399] (corrected 2398 (-3))) = 2398 := by
  decide

set_option maxRecDepth 20000 in
/-- Section 3.3: with runs 0..95, 160..279, 280..379, 380..427 and 428..497 owned, 80 blocks do not fit, and the longest
free run is 64. -/
theorem test_firstFit_full :
    firstFit (fun b => decide (96 ≤ b ∧ b < 160 ∨ 498 ≤ b)) 80 = none ∧
      longestRun (fun b => decide (96 ≤ b ∧ b < 160 ∨ 498 ≤ b)) = 64 := by decide

/-- Section 2.6: s = 4,294,967,000 and b = 200 give a gap of 496 ms. -/
theorem test_duration_across_the_wrap :
    ({ GapCtl.initial 812 with durUnknown := false, start := 4294967000, settleStart := some 200 } : GapCtl).duration
      = some 496 := by decide

/-- R159's example. -/
theorem test_storedList : storedList [7, 7, 12, 3, 9, 12, 40] = ([7, 12, 3, 9], true) := by decide

/-- R29: at DEEP entry an erase at work runs on, muted, and a finished request waiting for a place ends. -/
theorem test_keepWorking :
    keepWorking (some ⟨0x13, 3, .imageErase 0, false⟩) = some ⟨0x13, 3, .imageErase 0, true⟩ ∧
      keepWorking (some ⟨0x13, 3, .finished .inUse, false⟩) = none := by decide

/-- R86, R93: a level-7 part under yield marks a sequence in flight, also where COMMIT is on the line, and then the mark
abandons nothing. -/
theorem test_mark_at_commit :
    let l := (fly (car (door .context)) (.contextSequence 0) .contextCommit .sending).links.a
    ((l.handPart ⟨0, 7, 0, [], [4]⟩).inFlight.map fun f => (f.marked, f.abandons)) = some (true, false) := by decide

/-- R82, R116, R118: the leader, unit 2, is listed first, and the JOIN exchanges are queued in rising unit index. -/
theorem test_joins_in_rising_order :
    let wait : UnitEntry := door .wait
    let s : State :=
      { car wait with
        units := ((Vector.replicate 24 none).set 0 (some wait)).set 2
          (some { wait with decl := { wait.decl with addr := 3 } }) }
    (s.form 2).links.a.queue = [.join 0 false, .join 2 false] ∧ (s.form 2).activeUnits = [2, 0] := by decide

/-- R82, R92: on segment-usable the polls of LIVE units and the probes of DARK ones join in rising unit index. -/
theorem test_segment_usable_in_rising_order :
    let at1 (st : UnitState) (a : Nat) : Option UnitEntry := some { door st with decl := { (door st).decl with addr := a } }
    let s : State :=
      { car (door .live) with
        units := (((Vector.replicate 24 none).set 0 (some (door .live))).set 1 (at1 .dark 2)).set 2 (at1 .live 3) }
    (s.segmentUsable .a).links.a.queue = [.contextPoll 0, .probe 1 0, .contextPoll 2] := by decide

/-- R162: a record whose position is INDEFINITE keeps its leaf state, one with a position does not. -/
theorem test_age :
    let kept : ContextRecord :=
      { validity := .frozen, capturedAt := some 0, ageUnknown := true, rangeFlag := false,
        content := some (.door ⟨.closed, none, 100, 7, none⟩) }
    kept.age .default .door 5000 = kept ∧
      ({ kept with content := some (.door ⟨.closed, some 50, 100, 7, none⟩) } : ContextRecord).age .default .door 5000
        = { kept with content := some (.door ⟨.indefinite, none, 100, 7, none⟩) } := by decide

/-- A configuration record that a save cut off leaves is not valid, so that a reset takes the defaults (R52, R200). -/
theorem test_broken_record (s : State) (c : ConfigData) :
    ({ s with cfgr := some (brokenRecord c) } : State).resetConfig = .default := by
  simp [State.resetConfig_spec, State.resetValid]

set_option maxRecDepth 20000 in
/-- Section 11.1: a RELEASE_UNIT frame for unit 5 with tag 9, received byte by byte after two bytes of noise, is queued as
that request; with a wrong last byte it comes as a bad frame. -/
theorem test_hear_a_request :
    let frame : List Byte := [0xA5, 0x00, 0x01, 0x24, 0x09, 0x05] ++ be16 (crc16 [0x00, 0x01, 0x24, 0x09, 0x05])
    (quiet .gap).hearBytes ([0x00, 0xFF] ++ frame) = { quiet .gap with pending := [.releaseUnit 9 [5]] } ∧
      ((quiet .gap).hearBytes (frame.dropLast ++ [(frame.getLastD 0) + 1])).pending = [.controlFrameBad] := by decide

set_option maxRecDepth 20000 in
/-- R79, R205: a WINDOW_ANSWER's bytes with flags BUSY and NOBURST, received during a wait, are queued as that answer; with no
frame awaiting one, or begun after the timeout, they are lost. -/
theorem test_hear_a_window_answer :
    let frame : List Byte := [0xC3, 0x01, 0x82, 0x09, 0x00, 0x03, 4, 6, 2] ++ be16 (crc16 [0x01, 0x82, 0x09, 0x00, 0x03, 4, 6, 2])
    let s := fly (car (door .stream)) (.window ⟨0, 7, 0, [], [0]⟩) (.answerRequest 4 2) (.waiting 0 10)
    let hear (s : State) : State := frame.foldl (fun s b => s.hearSegmentByte .a b) s
    (hear s).pending = [.segmentAnswer .a ⟨1, 9, .windowAnswer ⟨4, false, true, true, 2⟩⟩] ∧ (hear s).links.a.rx = [] ∧
      (hear { s with tick := 10 }).pending = [] ∧ (hear (car (door .stream))).pending = [] := by decide

/-- R203: the frame of a BUSY reply to request 0x10 with tag 7, naming kind 0x11 and tag 3. -/
theorem test_reply_frame :
    (Reply.frame ⟨0x10, 7, .busy 0x11 3⟩).take 8 = [0xA5, 0x00, 0x03, 0x90, 0x07, 1, 0x11, 3] := by decide

set_option maxRecDepth 20000 in
/-- R193: an OK reply of a request without a result, here ISOLATE, is the status byte alone. -/
theorem test_reply_frame_ok :
    Reply.frame ⟨0x21, 7, .ok .nothing⟩ =
      [0xA5, 0x00, 0x01, 0xA1, 0x07, 0] ++ be16 (crc16 [0x00, 0x01, 0xA1, 0x07, 0]) := by decide

/-! ### Power, reset, supply -/

/-- A part new from manufacture comes up in the reset state. -/
theorem test_powerApplied : next (exec .powerApplied State.reset) (· == State.reset) = true := by decide

theorem test_powerLoss :
    next (exec .powerLoss (quiet .lost)) (fun t => !t.powered && t.gapc.state == .gap && !t.cflu.alert) = true := by decide

theorem test_resetLineAsserted :
    next (exec .resetLineAsserted (car (door .live))) (fun t => t.resetLow && t.links.a.halted && !t.cflu.alert) = true := by
  decide

/-- R37, R189, R200: WARM_RESET and CONFIG_DEFAULTED, the gap count kept. -/
theorem test_resetLineReleased :
    next (exec .resetLineReleased { quiet .supplied with resetLow := true })
      (fun t => t.cflu.device == 0xA000 && t.gapc.count == 812 && t.gapc.state == .gap) = true := by decide

/-- R3: the first sample after a fill event stands in all N places. -/
theorem test_monitorSample_fills :
    next (exec (.monitorSample 2400 3000 1000 1000 1000) (quiet .gap))
      (fun t => t.smon.winLine == [2400, 2400, 2400, 2400]) = true := by decide

/-- R22: the fourth low sample in RESTORE begins the gap. -/
theorem test_monitorSample_begins_the_gap :
    next (exec (.monitorSample 100 3000 1000 1000 1000)
        { car (door .live) with smon := { (car (door .live)).smon with lineLost := 3 } })
      (fun t => t.gapc.state == .gap && stateOf0 t == some .dark && t.cflu.device.getLsbD 0) = true := by decide

/-- R8: the D-th comparison at or above the reference leaves LOST with CONTEXT_LOST, COLD_START and CONFIG_DEFAULTED. -/
theorem test_lineComparatorSample :
    next (exec (.lineComparatorSample 1900)
        { quiet .lost with smon := { (quiet .lost).smon with cmpRef := some 1900, lineBack := 3 } })
      (fun t => t.gapc.state == .gap && t.cflu.device == 0x6008) = true := by decide

theorem test_lineComparatorSample_below :
    next (exec (.lineComparatorSample 1899)
        { quiet .lost with smon := { (quiet .lost).smon with cmpRef := some 1900, lineBack := 3 } })
      (fun t => t.gapc.state == .lost && t.smon.lineBack == 0) = true := by decide

/-- R20: the counter wraps. -/
theorem test_tick_wraps :
    next (exec .tick { quiet .supplied with tick := 0xFFFFFFFF }) (fun t => t.tick == 0) = true := by decide

theorem test_tick_deep : next (exec .tick (quiet .deep)) (fun t => t.tick == 0) = true := by decide

/-- Section 2.6: the settle expiry at tick 350 gives gap count 813 and a last duration of 496 ms. -/
theorem test_settleExpiry :
    next (exec .settleExpiry
        { quiet .settle with
          tick := 350
          gapc :=
            { (quiet .settle).gapc with start := 4294967000, settleStart := some 200, settleTime := some 150 } })
      (fun t => t.gapc.count == 813 && t.gapc.lastDuration == some 496 && t.gapc.state == .supplied) = true := by decide

/-! ### Segment lines -/

theorem test_segmentFrameSent :
    next (exec (.segmentFrameSent .a) (fly (car (door .live)) (.contextPoll 0) .contextPoll .sending))
      (fun t => t.links.a.wait? == some (0, 10)) = true := by decide

/-- R103: RUN, EQUAL and intact sends the unit to LIVE, and RESTORE ends with it (R21). -/
theorem test_segmentAnswer_live :
    next (exec (.segmentAnswer .a (answer (.bootReport current)))
        (fly (car { door .probe with probe := some ⟨.probing, 0⟩ }) (.probe 0 0) (.probe 0 (probePattern 0))
          (.waiting 0 10)))
      (fun t => stateOf0 t == some .live && t.gapc.state == .supplied && t.perm.output.a) = true := by decide

/-- R79: another sequence number is discarded. -/
theorem test_segmentAnswer_stale :
    next (exec (.segmentAnswer .a ⟨1, 8, .bootReport current⟩)
        (fly (car { door .probe with probe := some ⟨.probing, 0⟩ }) (.probe 0 0) (.probe 0 (probePattern 0))
          (.waiting 0 10)))
      (fun t => stateOf0 t == some .probe) = true := by decide

/-- R64: the third miss in a row is a poll loss. -/
theorem test_answerTimeout_poll_loss :
    next (exec (.answerTimeout .a)
        { fly (car { door .live with misses := 2 }) (.contextPoll 0) .contextPoll (.waiting 0 10) with tick := 10 })
      (fun t => stateOf0 t == some .probe) = true := by decide

/-- R80: before the timeout, and after it while a frame is being received, the wait goes on. -/
theorem test_answerTimeout_early :
    let s := fly (car { door .live with misses := 2 }) (.contextPoll 0) .contextPoll (.waiting 0 10)
    next (exec (.answerTimeout .a) { s with tick := 9 }) (fun t => stateOf0 t == some .live) = true ∧
      next (exec (.answerTimeout .a) (({ s with tick := 9 } : State).hearSegmentByte .a 0xC3 |> fun s => { s with tick := 10 }))
        (fun t => stateOf0 t == some .live && t.links.a.inFlight.isSome) = true := by decide

/-- R79, R80: the pause discards a frame begun, and a wait whose timeout has passed meanwhile ends. -/
theorem test_segmentBytePause_after_the_timeout :
    next (exec (.segmentBytePause .a)
        { (fly (car (door .live)) (.contextPoll 0) .contextPoll (.waiting 0 10)).onLink .a fun l => { l with rx := [0xC3] }
          with tick := 10 })
      (fun t => t.links.a.rx == [] && t.links.a.inFlight.isNone && (t.unit 0).any (·.misses == 1)) = true := by decide

theorem test_segmentBytePause :
    next (exec (.segmentBytePause .a) ((car (door .live)).onLink .a fun l => { l with rx := [0xC3] }))
      (fun t => t.links.a.rx == []) = true := by decide

theorem test_segmentFrameDiscarded :
    next (exec (.segmentFrameDiscarded .a) (fly (car (door .live)) (.contextPoll 0) .contextPoll (.waiting 0 10)))
      (fun t => t.links.a.inFlight.isSome) = true := by decide

/-- R79, R80: a next frame begun before the timeout is received to its end. -/
theorem test_segmentFrameDiscarded_next_frame :
    next (exec (.segmentFrameDiscarded .a)
        { (fly (car (door .live)) (.contextPoll 0) .contextPoll (.waiting 0 10)).onLink .a fun l => { l with rx := [0xC3] }
          with tick := 10 })
      (fun t => t.links.a.rx == [0xC3] && t.links.a.inFlight.isSome) = true := by decide

theorem test_pollTimerDue :
    next (exec (.pollTimerDue 0) (car { door .live with pollDue := some 0 }))
      (fun t => t.links.a.inFlight.any fun f => f.frame.body == .contextPoll) = true := by decide

/-- A verify record that polls until tick 300. -/
def polling (due : Option Tick) : VerifyRecord :=
  { phase := .polling 300, pollDue := due, polls := 1, lastCrc := none }

theorem test_verifyPollDue :
    next (exec (.verifyPollDue 0) { car { door .verify with verify := some (polling (some 5)) } with tick := 5 })
      (fun t => (t.unit 0).any fun e => e.verify == some { polling none with polls := 2 }) = true := by decide

/-- R149: the deadline has passed at the first tick after it. -/
theorem test_verifyDeadline :
    next (exec (.verifyDeadline 0) { car { door .verify with verify := some (polling (some 305)) } with tick := 301 })
      (fun t => (t.unit 0).any fun e => e.retry == 1 && e.verify == some { polling none with phase := .requesting })
      = true := by decide

theorem test_verifyDeadline_early :
    next (exec (.verifyDeadline 0) { car { door .verify with verify := some (polling (some 305)) } with tick := 300 })
      (fun t => (t.unit 0).any fun e => e.retry == 0) = true := by decide

/-! ### The image array -/

/-- R46: writing block 1 of the slot makes the cursor 2 and the written set one block. -/
theorem test_arrayAccessDone_data :
    next (exec .arrayAccessDone (working (.imageData 0 1 (List.replicate 1024 0xFF))))
      (fun t => t.slot 0 == .loading image 2 [1] && statuses t == [.ok (.written 2 1)]) = true := by decide

/-! ### Control link -/

/-- A part in GAP with a partly received control frame. -/
def hearing : State :=
  { quiet .gap with clnk := { (quiet .gap).clnk with rx := [0xA5] } }

theorem test_controlBytePause : next (exec .controlBytePause hearing) (fun t => t.clnk.rx == []) = true := by decide

set_option maxRecDepth 20000 in
/-- R190: the byte after a bad length begins the next frame, which the bad frame's command leaves in the buffer. -/
theorem test_controlFrameBad :
    let s := (quiet .gap).hearBytes [0xA5, 0x04, 0x25, 0xA5]
    s.pending = [.controlFrameBad] ∧ next (exec .controlFrameBad { s with pending := [] }) (· == hearing) = true := by decide

theorem test_replyKindFrameDiscarded :
    next (exec (.replyKindFrameDiscarded 0x91 4) hearing) (· == hearing) = true := by decide

theorem test_unknownKind :
    next (exec (.unknownKind 0x7F 4) hearing)
      (fun t => t.clnk.owed == [⟨0x7F, 4, .unknownKind⟩] && t.clnk.tx == some .reply && t.clnk.rx == [0xA5]) = true := by decide

/-- R194: the reply sent leaves the list, and the next goes out. -/
theorem test_transmitDone :
    next (exec .transmitDone
        { quiet .gap with
          clnk := { (quiet .gap).clnk with tx := some .reply, owed := [⟨1, 2, .inUse⟩, ⟨3, 4, .unknownKind⟩] } })
      (fun t => t.clnk.owed == [⟨3, 4, .unknownKind⟩] && t.clnk.tx == some .reply) = true := by decide

/-- R197: after the RESET reply the warm reset is performed. -/
theorem test_transmitDone_reset :
    next (exec .transmitDone
        { quiet .supplied with
          clnk :=
            { (quiet .supplied).clnk with
              tx := some .reply, owed := [⟨0x27, 2, .ok .nothing⟩], resetAccepted := true } })
      (fun t => t.gapc.state == .gap && t.cflu.device == 0xA000) = true := by decide

/-! ### Requests -/

/-- The payload of a SET_MONITOR with N, and else the defaults. -/
def monitorPayload (n : Byte) : List Byte :=
  [n, 4, 0, 0, 0, 0, 0, 0, 0, 0, 0, 0, 0x3E, 0x80, 0x4A, 0x38, 0x23, 0x28, 0x17, 0x70]

theorem test_setMonitor :
    next (exec (.setMonitor 7 (monitorPayload 8)) (quiet .gap)) (fun t => t.smon.settings == { MonitorSettings.default with n := 8 })
      = true := by decide

theorem test_setMonitor_refused :
    next (exec (.setMonitor 7 (monitorPayload 3)) (quiet .gap)) (fun t => statuses t == [.outOfRange 1]) = true := by decide

set_option maxRecDepth 20000 in
/-- R195: every field of ones is clamped to its highest value. -/
theorem test_setTiming :
    next (exec (.setTiming 7 (List.replicate 13 0xFF)) (quiet .gap))
      (fun t => t.timing == ⟨2000, 50, 1000, 7, 1000, 10000, 10000, 8⟩) = true := by decide

theorem test_setMasks :
    next (exec (.setMasks 7 [0x01, 0xFF, 0x02, 0x00, 0xFF]) (quiet .gap))
      (fun t => t.cflu.respOpen == 0x101 && t.cflu.alertMask == 0x10002) = true := by decide

theorem test_setPermitEnable :
    next (exec (.setPermitEnable 7 [0, 0]) (car (door .isolated)))
      (fun t => !t.perm.output.a && !t.perm.enable.a && statuses t == [.ok (.permit false)]) = true := by decide

theorem test_setSegment :
    next (exec (.setSegment 7 [2, 1, 0]) (quiet .gap)) (fun t => !t.links.c.yieldOn && t.smon.senseOn.c) = true := by decide

/-- R57, R61: defined in RESTORE on a usable segment the unit is probed; DEFAULT gives a RAMP level 6. -/
theorem test_defineUnit :
    next (exec (.defineUnit 7 [3, 1, 30, 1, 5, 0xFF]) (car (door .isolated)))
      (fun t => (t.unit 3).any (fun e => e.state == .probe && e.decl.addr == 30) && statuses t == [.ok (.level 6)])
      = true := by decide

theorem test_defineUnit_address : next (exec (.defineUnit 7 [3, 1, 31, 1, 5, 0xFF]) (car (door .isolated)))
    (fun t => statuses t == [.outOfRange 3]) = true := by decide

theorem test_removeUnit :
    next (exec (.removeUnit 7 [0]) (car (door .live))) (fun t => (t.unit 0).isNone && t.ctx 0 == .blank) = true := by decide

theorem test_saveConfig_gap :
    next (exec (.saveConfig 7 []) (quiet .gap)) (fun t => statuses t == [.state .gap none]) = true := by decide

theorem test_saveConfig :
    next (exec (.saveConfig 7 []) (quiet .supplied)) (fun t => t.ims.port == some .longRequest && statuses t == []) = true := by
  decide

set_option maxRecDepth 20000 in
theorem test_imageOpen :
    next (exec (.imageOpen 7 [1, 0, 2, 4, 1, 54, 2, 0, 0, 0, 5]) (car (door .isolated)))
      (fun t => t.slot 1 == .loading { image with first := 2 } 0 []) = true := by decide

set_option maxRecDepth 20000 in
theorem test_imageData_not_loading :
    next (exec (.imageData 7 ([0, 0, 4, 0] ++ List.replicate 1024 0)) (car (door .isolated)))
      (fun t => statuses t == [.state .restore none]) = true := by decide

theorem test_imageClose_badLength :
    next (exec (.imageClose 7 []) (car (door .isolated))) (fun t => statuses t == [.badLength 1]) = true := by decide

theorem test_imageErase_inUse :
    next (exec (.imageErase 7 [0]) (car (door .verify))) (fun t => statuses t == [.inUse]) = true := by decide

theorem test_forceRestore_all :
    next (exec (.forceRestore 7 [0xFF]) (car (door .live)))
      (fun t => stateOf0 t == some .probe && statuses t == [.ok (.acted 1)]) = true := by decide

theorem test_isolate :
    next (exec (.isolate 7 [0]) (car (door .dark)))
      (fun t => stateOf0 t == some .isolated && t.perm.output.a && t.gapc.state == .supplied) = true := by decide

theorem test_admit :
    next (exec (.admitUnit 7 [0]) (car (door .isolated))) (fun t => stateOf0 t == some .probe) = true := by decide

theorem test_resolve_fail :
    next (exec (.resolve 7 [0, 2]) (car { door .held with pending := some .linkTest }))
      (fun t => stateOf0 t == some .failed && statuses t == [.ok (.unitState .failed)]) = true := by decide

theorem test_resolve_action :
    next (exec (.resolve 7 [0, 3]) (car { door .held with pending := some .linkTest }))
      (fun t => statuses t == [.outOfRange 2]) = true := by decide

/-- R168, R170: the release lets the permit energize. -/
theorem test_releaseUnit :
    next (exec (.releaseUnit 7 [0]) (car { door .live with restrained := true })) (fun t => t.perm.output.a) = true := by
  decide

/-- A content of leaf CLOSED, position 50 of 100, cycle count 7 and no obstruction part. -/
theorem test_contextWrite :
    next (exec (.contextWrite 7 [0, 1, 1, 0, 50, 0, 100, 0, 0, 7, 0, 0, 0, 0]) (car (door .held)))
      (fun t => (t.ctx 0).content == some (.door ⟨.closed, some 50, 100, 7, none⟩) && (t.ctx 0).validity == .frozen)
      = true := by decide

theorem test_clearFlags :
    next (exec (.clearFlags 7 [1, 14, 0]) State.reset) (fun t => t.cflu.device == 0x2000) = true := by decide

/-- R192, R204: the flags of one unit are a word with the high byte first: 0x1000 names the thirteenth alone. -/
theorem test_clearFlags_unit :
    next (exec (.clearFlags 7 [0, 1, 0, 0x10, 0x00]) (car { door .live with flags := BitVec.allOnes 13 }))
      (fun t => (t.unit 0).any fun e => e.flags == 0xFFF) = true := by decide

theorem test_reset : next (exec (.reset 7 []) (quiet .gap)) (fun t => t.clnk.resetAccepted) = true := by decide

theorem test_queryStatus_busy :
    next (exec (.queryStatus 7 []) (working (.imageErase 0)))
      (fun t => t.clnk.owed.any fun r => match r.status with
        | .ok (.statusReport q) => q.longRequest == some (0x11, 3)
        | _ => false) = true := by decide

theorem test_queryMonitor :
    next (exec (.queryMonitor 7 []) (quiet .gap))
      (fun t => t.clnk.owed.any fun r => match r.status with
        | .ok (.monitorReport q) => q.line == none
        | _ => false) = true := by decide

theorem test_queryUnit_empty :
    next (exec (.queryUnit 7 [23]) (quiet .gap)) (fun t => statuses t == [.ok (.unitReport none)]) = true := by decide

set_option maxRecDepth 20000 in
/-- R53: two blocks are owned of 512. -/
theorem test_querySlot :
    next (exec (.querySlot 7 [0]) (car (door .isolated)))
      (fun t => t.clnk.owed.any fun r => match r.status with
        | .ok (.slotReport q) => q.freeBlocks == 510 && q.longestFree == 510
        | _ => false) = true := by decide

theorem test_queryStreams :
    next (exec (.queryStreams 7 []) (car (door .wait)))
      (fun t => t.clnk.owed.any fun r => match r.status with
        | .ok (.streamsReport q) => q.eligible == [(0, false)]
        | _ => false) = true := by decide

theorem test_queryContext_range :
    next (exec (.queryContext 7 [24]) (quiet .gap)) (fun t => statuses t == [.outOfRange 1]) = true := by decide


/-! ### Witnesses: states and operands that meet the hypotheses of each statement -/

/-- The membership law as a check. -/
def memberCheck (s : State) : Bool :=
  decide (s.activeUnits ++ s.suspendedUnits).Nodup &&
    allUnits.all (fun u => decide (u ∈ s.activeUnits) == (s.unit u).any fun e => e.state == .stream) &&
    allUnits.all (fun u => decide (u ∈ s.suspendedUnits) == (s.unit u).any fun e => e.state == .suspended) &&
    (s.records.isEmpty || s.gapc.state.carries)

theorem membershipLaw_of_check {s : State} (h : memberCheck s = true) : s.MembershipLaw := by
  simp only [memberCheck, Bool.and_eq_true, decide_eq_true_eq, List.all_eq_true, mem_allUnits, forall_const,
    beq_iff_eq, Bool.or_eq_true, List.isEmpty_iff, GapState.carries_iff] at h
  obtain ⟨⟨⟨hn, ha⟩, hs⟩, hr⟩ := h
  refine ⟨hn, fun u => ?_, fun u => ?_, fun hne => hr.resolve_left hne⟩
  · have := ha u
    rw [← decide_eq_true_iff (p := u ∈ s.activeUnits), this]
    simp [Option.any_eq_true]
  · have := hs u
    rw [← decide_eq_true_iff (p := u ∈ s.suspendedUnits), this]
    simp [Option.any_eq_true]

/-- A part with two commands waiting. -/
def idleTick : State :=
  { quiet .supplied with pending := [.tick, .powerLoss] }

theorem witness_step_runs_the_front_command : idleTick.pending = .tick :: [.powerLoss] := rfl

theorem witness_the_queue_stands :
    exec .tick { idleTick with pending := [.powerLoss] } = .next { idleTick with pending := [.powerLoss], tick := 1 } :=
  rfl

/-- Unit `k` of `busy`: bound to slot `k`, level 3 + k, joined. -/
def member (k : Nat) (slot : SlotIx) (st : UnitState) : Option UnitEntry :=
  some { UnitEntry.fresh ⟨.a, k + 1, .dest, slot, 3 + k⟩ 8 with state := st, joined := true }

/-- A record of `busy` for slot `k`: window size 8, its one member owing both blocks. -/
def record (k : SlotIx) (u : UnitIx) : StreamRecord :=
  { slot := k, level := 3 + k.val, len := 2, w := 8, cursor := 0, members := [⟨u, [0, 1]⟩], window := none }

/-- RESTORE with an active record over a full stack, four replies owed, and a sample waiting that begins a gap. -/
def busy : State :=
  { quiet .restore with
    gapc := { GapCtl.initial 812 with state := .restore, durUnknown := false, demand := true }
    smon := { (quiet .restore).smon with lineLost := 3, winLine := [100, 100, 100, 4095] }
    ims :=
      { slots := #v[.valid { image with first := 0 }, .valid { image with first := 2 }, .valid { image with first := 4 },
          .valid { image with first := 6 }, .valid { image with first := 510 }, .empty, .empty, .empty]
        mem := [(0, 7), (524287, 0)], port := none }
    units := #v[member 0 0 .suspended, member 1 1 .suspended, member 2 2 .suspended, member 3 3 .suspended,
      member 4 4 .stream, none, none, none, none, none, none, none, none, none, none, none, none, none, none, none, none,
      none, none, none]
    rsch := { active := some (record 4 4), stack := [record 3 3, record 2 2, record 1 1, record 0 0], marks := [] }
    links := ⟨idleLink, idleLink, idleLink⟩
    perm := { enable := ⟨true, true, true⟩, output := ⟨true, true, true⟩ }
    clnk :=
      { (quiet .restore).clnk with
        tx := some .reply
        owed := [⟨1, 2, .inUse⟩, ⟨1, 3, .inUse⟩, ⟨1, 4, .inUse⟩, ⟨1, 5, .inUse⟩] }
    pending := [.monitorSample 100 3000 1000 1000 1000] }

theorem witness_every_step_takes_one : ∃ t, step busy = .next t ∧ t.gapc.state = .gap := ⟨_, rfl, by decide⟩

theorem witness_memory_law : busy.MemoryLaw := by unfold State.MemoryLaw; decide

theorem witness_window_law : busy.WindowLaw := by
  refine ⟨by decide, by decide, fun x => ?_⟩
  cases x <;> decide

theorem witness_permit_law : busy.PermitLaw := fun x => by
  have h := State.permitFor_iff busy x
  have : perGet busy.perm.output x = busy.permitFor x := by cases x <;> decide
  rw [this, h]

theorem witness_alert_law : busy.AlertLaw := by
  have h := State.alertLevel_iff busy
  have : busy.cflu.alert = busy.alertLevel := by decide
  unfold State.AlertLaw
  rw [this, h]

theorem witness_stack_law : busy.StackLaw ∧ busy.rsch.stack.length = 4 := by
  unfold State.StackLaw
  decide

theorem witness_owed_law : busy.OwedLaw ∧ busy.clnk.owed.length = 4 := by
  unfold State.OwedLaw
  decide

theorem witness_link_law : busy.LinkLaw ∧ busy.links.a.halted = false := by
  refine ⟨fun x _ => ?_, rfl⟩
  cases x <;> exact ⟨by decide, .inr rfl⟩

theorem witness_stream_law : busy.StreamLaw := by
  intro r hr
  simp only [State.records, busy, Option.toList, List.cons_append, List.nil_append, List.mem_cons, List.not_mem_nil,
    or_false] at hr
  rcases hr with rfl | rfl | rfl | rfl | rfl <;> exact ⟨_, rfl, rfl, by decide⟩

theorem witness_allocation_law : busy.AllocationLaw := by
  have h1 : ∀ k : SlotIx, (busy.slot k).info?.all fun i => decide (1 ≤ i.len ∧ i.len ≤ 128 ∧ i.first + i.len ≤ 512) := by
    decide
  have h2 : ∀ j k : SlotIx, (busy.slot j).info?.all fun i => (busy.slot k).info?.all fun i' =>
      decide (j = k ∨ i.first + i.len ≤ i'.first ∨ i'.first + i'.len ≤ i.first) := by decide
  refine ⟨fun k i h => ?_, fun j k i i' h h' hne => ?_⟩
  · simpa [h] using h1 k
  · simpa [h, h', hne] using h2 j k

theorem witness_membership_law : busy.StackLaw ∧ busy.MembershipLaw :=
  ⟨witness_stack_law.1, membershipLaw_of_check (by decide)⟩

/-- The carry law's first two clauses as a check. -/
def serviceCheck (s : State) : Bool :=
  (!s.gapc.state.carries || allSegs.all fun x => !s.usable x || !(perGet s.links x).halted) &&
    allUnits.all fun u => (s.unit u).all fun e => !(e.state == .stream || e.state == .suspended) || s.usable e.decl.seg

theorem service_of_check {s : State} (h : serviceCheck s = true) :
    ((s.gapc.state = .supplied ∨ s.gapc.state = .restore) → ∀ x, s.usable x = true → (perGet s.links x).halted = false) ∧
      ∀ u e, s.unit u = some e → e.state = .stream ∨ e.state = .suspended → s.usable e.decl.seg = true := by
  rw [serviceCheck, Bool.and_eq_true] at h
  refine ⟨fun hg x hx => ?_, fun u e he hs => ?_⟩
  · have hc := (GapState.carries_iff s.gapc.state).2 hg
    have := h.1
    simp only [hc, Bool.not_true, Bool.false_or, List.all_eq_true] at this
    have := this x (by cases x <;> decide)
    simpa [hx] using this
  · have := List.all_eq_true.1 h.2 u (mem_allUnits u)
    rcases hs with hs | hs <;> simpa [he, hs] using this

/-- With no window in flight the carry law is its first two clauses. -/
theorem carryLaw_of_idle {s : State} (h : serviceCheck s = true) (hs : s.seng = none) : s.CarryLaw :=
  fun _ _ => ⟨(service_of_check h).1, (service_of_check h).2, fun w hw => by simp [hs] at hw⟩

/-- A part whose active record has window [0, 2) in flight, with one participant on segment A, whose answer is awaited. -/
def flying : State :=
  { busy with
    rsch := { busy.rsch with active := some { record 4 4 with window := some (0, 2) } }
    seng := some
      { slot := 4, level := 7, start := 0, count := 2, phase := .carrying, buffer := [],
        participants := [⟨4, .a, .pending⟩, ⟨5, .b, .ignored⟩], parts := ⟨.carrying, .ended, .ended⟩ }
    links := (fly busy (.window ⟨4, 7, 0, [], [4]⟩) (.answerRequest 0 2) (.waiting 0 10)).links }

theorem witness_carry_law : flying.LinkLaw ∧ flying.CarryLaw := by
  have hs : serviceCheck flying = true := by decide
  refine ⟨fun x _ => ?_, fun _ _ => ⟨(service_of_check hs).1, (service_of_check hs).2, fun w hw _ => ?_⟩⟩
  · cases x <;> exact ⟨by decide, .inr rfl⟩
  · obtain rfl := Option.some.inj hw
    refine ⟨⟨.a, by decide⟩, fun x hx => ?_⟩
    obtain rfl : x = .a := by cases x <;> simp_all [perGet]
    exact ⟨by decide, _, rfl, .inl ⟨⟨_, rfl⟩, rfl, rfl⟩⟩

theorem witness_flight_law : flying.StackLaw ∧ flying.MembershipLaw ∧ flying.FlightLaw := by
  refine ⟨by unfold State.StackLaw; decide, membershipLaw_of_check (by decide), fun w hw => ?_⟩
  obtain rfl := Option.some.inj hw
  refine ⟨_, rfl, rfl, rfl, fun p hp hn => ?_⟩
  obtain rfl | rfl : p = ⟨4, .a, .pending⟩ ∨ p = ⟨5, .b, .ignored⟩ := by simpa using hp
  · exact ⟨⟨⟨4, [0, 1]⟩, by decide, rfl⟩, _, rfl, rfl⟩
  · exact absurd rfl hn

/-- With no window in flight the flight law holds. -/
theorem flightLaw_of_idle {s : State} (h : s.seng = none) : s.FlightLaw := fun w hw => by simp [h] at hw

theorem witness_width_law : busy.WidthLaw := by
  have hu : ∀ u : UnitIx, (busy.unit u).all fun e => decide (e.window = 8) := by decide
  have hw : ∀ u e, busy.unit u = some e → e.window = 8 := fun u e h => by simpa [h] using hu u
  have hr : ∀ r ∈ busy.records, r.w = 8 := by decide
  refine ⟨by decide, fun u e h => by rw [hw u e h]; decide, fun r h => ⟨by rw [hr r h]; decide, fun m _ e he _ => ?_⟩⟩
  rw [hr r h, hw m.unit e he]

/-- TICK in the four counting states, at the last value too; where it changes nothing; and a command that is no TICK. -/
theorem witness_only_tick :
    ([GapState.supplied, .gap, .settle, .restore].all fun g =>
        let s := { quiet g with tick := 0xFFFFFFFF }
        s.powered && !s.resetLow && (s.gapc.state == .supplied || s.gapc.state == .gap || s.gapc.state == .settle ||
          s.gapc.state == .restore)) = true ∧
      ({ quiet .gap with powered := false } : State).powered = false ∧
      ({ quiet .gap with resetLow := true } : State).resetLow = true ∧ (quiet .deep).gapc.state = .deep ∧
      (quiet .lost).gapc.state = .lost ∧ (∃ t, exec .resetLineReleased { quiet .gap with resetLow := true } = .next t) ∧
      ({ quiet .gap with resetLow := true } : State).Resets .resetLineReleased ∧ Instr.resetLineReleased ≠ .tick :=
  ⟨by decide, rfl, rfl, rfl, rfl, ⟨_, rfl⟩, .inr (.inl ⟨rfl, rfl, rfl⟩), by decide⟩

theorem witness_array_and_record :
    (∃ t, exec .powerLoss (quiet .supplied) = .next t) ∧ (quiet .supplied).ims.port ≠ some .longRequest :=
  ⟨⟨_, rfl⟩, by decide⟩

/-- A request that changes its setting, and a reset that no request is. -/
theorem witness_settings :
    (∃ t, exec (.setMasks 7 [1, 0, 2, 0, 0]) (quiet .gap) = .next t ∧ t.cflu.respOpen = 1) ∧
      ∃ t, exec .powerApplied (quiet .gap) = .next t ∧ (quiet .gap).Resets .powerApplied ∧ t.tick = 0 :=
  ⟨⟨_, rfl, by decide⟩, _, rfl, .inl rfl, by decide⟩

/-- Sums of −1, 4,096, 0 and 4,095; a full window; filters of 1 and 8 places. -/
theorem witness_offset_stage :
    (((0 : Code).toNat : Int) + (-1) < 0) ∧ 4095 < ((4095 : Code).toNat : Int) + 1 ∧
      (0 ≤ ((0 : Code).toNat : Int) + 0 ∧ ((0 : Code).toNat : Int) + 0 ≤ 4095) ∧
      (0 ≤ ((4095 : Code).toNat : Int) + 0 ∧ ((4095 : Code).toNat : Int) + 0 ≤ 4095) ∧
      (∀ v ∈ [4095, 0, 4095, 0], v ≤ 4095) ∧ 0 < 1 ∧ 0 < 8 := by decide

/-- A blank BOOT unit's report is well formed and has no version. -/
theorem witness_versions :
    let r : BootReport :=
      { mode := some .boot, cls := some .door, version := none, held := some 0, intact := none
        capability := 1, echo := probePattern 0 }
    reportWellFormed r = true ∧ r.version = none := by decide

/-- A record whose two members owe 3, 9 and 9, 11. -/
def owing : StreamRecord :=
  { record 0 0 with cursor := 1, members := [⟨0, [3, 9]⟩, ⟨1, [9, 11]⟩] }

/-- From 9 the cursor goes to 9, from 10 to 11, from 12 to 3; with nothing owed it stands. -/
theorem witness_cursor :
    (∃ m ∈ owing.members, 9 ∈ m.owed) ∧ (∃ m ∈ owing.members, 11 ∈ m.owed) ∧ (∃ m ∈ owing.members, 3 ∈ m.owed) ∧
      (∀ m ∈ owing.members, ∀ c ∈ m.owed, 10 ≤ c → 11 ≤ c) ∧ (∀ m ∈ owing.members, ∀ c ∈ m.owed, c < 12 ∧ 3 ≤ c) ∧
      (∀ m ∈ ({ owing with members := [] } : StreamRecord).members, ∀ b : Nat, b ∉ m.owed) :=
  ⟨by decide, by decide, by decide, by decide, by decide, by simp⟩

/-- The rows of R142's table, for a window [4, 4 + 2). -/
theorem witness_window_answers :
    let a : WindowAnswer := ⟨4, false, false, false, 2⟩
    (({ a with start := 5 } : WindowAnswer).start.toNat ≠ 4 ∧ 2 < ({ a with count := 3 } : WindowAnswer).count.toNat) ∧
      (a.start.toNat = 4 ∧ a.count.toNat ≤ 2 ∧ 1 ≤ a.count.toNat ∧ a.err = false ∧ a.busy = false ∧ a.noburst = false) ∧
      ({ a with err := true } : WindowAnswer).err = true ∧ ({ a with busy := true } : WindowAnswer).busy = true ∧
      ({ a with noburst := true } : WindowAnswer).noburst = true ∧
      ({ a with count := 0 } : WindowAnswer).count.toNat = 0 := by decide

/-- The last block alone is free: one block fits at 511, two do not fit. -/
theorem witness_first_fit :
    let ok : Nat → Bool := fun b => decide (511 ≤ b)
    1 ≤ 1 ∧ 511 + 1 ≤ 512 ∧ (∀ b, 511 ≤ b → b < 511 + 1 → ok b = true) ∧ ok 510 = false :=
  ⟨by decide, by decide, fun b h _ => decide_eq_true h, by decide⟩

/-- Positions 128, 129, 130 and 131 of a stroke of 128; strokes 0, 1, 65,535 and 65,536; reversal counts 15 and 16. -/
theorem witness_capture :
    (128 ≤ 128 ∧ (128 < 129 ∧ 130 ≤ 128 + 128 / 64) ∧ 128 + 128 / 64 < 131) ∧
      [1, 65535].all (fun n => decide (1 ≤ n ∧ n ≤ 65535)) = true ∧
      [0, 65536].all (fun n => decide ¬(1 ≤ n ∧ n ≤ 65535)) = true ∧ 15 ≤ 15 ∧ 15 < 16 ∧
      (Content.store (.door ⟨.closed, some 50, 128, 7, none⟩) (.door none (some 130) 0 16777216 (some (128, 16)))) =
        (.door ⟨.closed, some 128, 128, 7, none⟩, true) := by decide

/-- A window part of no blocks for a queue. -/
def part : Exchange :=
  .window ⟨0, 7, 0, [], [4]⟩

/-- A queue for each of the arbiter's four categories, the entry taken being neither first nor last where it can be. -/
theorem witness_arbiter :
    (idleLink.halted = false ∧ idleLink.inFlight = none) ∧
      (let q : List Exchange := [.contextPoll 1, part, .contextSequence 2]
       q = [.contextPoll 1] ++ part :: [.contextSequence 2] ∧ (∀ e ∈ [Exchange.contextPoll 1], e ≠ part ∧ e.isWindow = false) ∧
         part.isWindow = true) ∧
      (let q : List Exchange := [.probe 1 0, .contextSequence 2, .contextSequence 3]
       (∀ e ∈ [Exchange.probe 1 0], e ≠ .contextSequence 2 ∧ e.isWindow = false ∧ e.isSequence = false) ∧
         (∀ e ∈ q, e.isWindow = false) ∧ (Exchange.contextSequence 2).isSequence = true) ∧
      (let q : List Exchange := [.contextPoll 1, .probe 2 0, .restart 3]
       (∀ e ∈ [Exchange.contextPoll 1], e ≠ .probe 2 0 ∧ e.isWindow = false ∧ e.isService = false) ∧
         (∀ e ∈ q, e.isWindow = false ∧ e.isSequence = false) ∧ (Exchange.probe 2 0).isService = true) ∧
      (let q : List Exchange := [.contextPoll 1, .contextPoll 2]
       q = [] ++ .contextPoll 1 :: [.contextPoll 2] ∧
         ∀ e ∈ q, e.isWindow = false ∧ e.isSequence = false ∧ e.isService = false) ∧
      ((Link.initial true).halted = true ∧ idleLink.queue = [] ∧
        (fly busy (.contextPoll 4) .contextPoll .sending).links.a.inFlight ≠ none) := by decide

theorem witness_resets :
    ((quiet .gap).resetLow = false ∧ (quiet .gap).ims.port ≠ some .longRequest) ∧
      (let s := { busy with resetLow := true }
       s.powered = true ∧ s.resetLow = true ∧ s.ims.port ≠ some .longRequest ∧ s.gapc.state ≠ .lost) ∧
      let s := { quiet .lost with resetLow := true }
      s.powered = true ∧ s.resetLow = true ∧ s.ims.port ≠ some .longRequest ∧ s.gapc.state = .lost := by decide

/-- An IMAGE_DATA's write of the last block is in progress. -/
def lastBlock : State :=
  { working (.imageData 0 1 (List.replicate 1024 3)) with
    ims :=
      { slots := (Vector.replicate 8 .empty).set 0 (.loading { image with first := 510 } 1 [0])
        mem := [(523264, 9), (524287, 9)], port := some .longRequest } }

theorem witness_outputs_fall :
    busy.ims.port ≠ some .longRequest ∧ lastBlock.ims.port = some .longRequest ∧
      lastBlock.clnk.long = some ⟨0x11, 3, .imageData 0 1 (List.replicate 1024 3), false⟩ ∧
      (lastBlock.slot 0).info? = some { image with first := 510 } ∧
      (working (.saveErase .default)).clnk.long = some ⟨0x11, 3, .saveErase .default, false⟩ ∧
      (working (.saveErase .default)).ims.port = some .longRequest :=
  ⟨by decide, rfl, rfl, rfl, rfl, rfl⟩

theorem witness_sample_fills :
    let s := busy
    (s.powered = true ∧ s.resetLow = false ∧ s.gapc.state ≠ .lost ∧ s.clnk.resetAccepted = false) ∧
      (perGet s.smon.senseOn .a = true ∧ s.gapc.state ≠ .deep ∧ (perGet s.links .a).inFlight = none) ∧
      (perGet (fly s (.contextPoll 4) .contextPoll .sending).links .a).inFlight ≠ none ∧
      (quiet .deep).gapc.state = .deep := by decide

/-- `busy` with segment A's class about to become SHORT_LOW. -/
def shorting : State :=
  { busy with smon := { busy.smon with classes := ⟨⟨.normal, some .shortLow, 3⟩, .initial, .initial⟩ } }

theorem witness_class_change :
    let s := shorting
    let k := classOf (filteredCode
      (pushSample s.smon.settings.n (perGet s.smon.winSense .a) (corrected 0 (perGet s.smon.settings.offSense .a))))
    let old := perGet s.smon.classes .a
    s.powered = true ∧ s.resetLow = false ∧ s.clnk.resetAccepted = false ∧ s.gapc.state = .restore ∧
      perGet s.smon.senseOn .a = true ∧ (perGet s.links .a).inFlight = none ∧ old.current = .normal ∧ k = .shortLow ∧
      s.smon.settings.d ≤ (if old.candidate = some k then old.count + 1 else 1) ∧
      ∃ u, (s.unit u).any fun e => e.decl.seg == .a && e.state == .stream := by decide

theorem witness_class_change_laws :
    shorting.StackLaw ∧ shorting.MembershipLaw ∧ shorting.FlightLaw ∧ shorting.CarryLaw :=
  ⟨witness_stack_law.1, membershipLaw_of_check (by decide), flightLaw_of_idle rfl, carryLaw_of_idle (by decide) rfl⟩

/-- Segment A, SHORT_LOW, about to take class `k`, in gap state `g` with unit 0 in state `st`. -/
def returning (g : GapState) (st : UnitState) (k : LineClass) : State :=
  { car (door st) with
    gapc := { GapCtl.initial 812 with state := g, durUnknown := false }
    smon := { (car (door st)).smon with classes := ⟨⟨.shortLow, some k, 3⟩, .initial, .initial⟩ }
    links := ⟨Link.initial true, idleLink, idleLink⟩ }

/-- The change back, at the lowest codes of NORMAL and OPEN, with a DARK unit and a LIVE one, in four gap states, LINE at its
threshold. -/
theorem witness_class_change_back :
    ([GapState.supplied, .restore, .gap, .settle].all fun g => [UnitState.dark, .live].all fun st =>
      [(LineClass.normal, (300 : Code)), (.openLine, 2400)].all fun (k, raw) =>
        let s := returning g st k
        let old := perGet s.smon.classes .a
        memberCheck s && serviceCheck s && s.seng.isNone && decide (s.powered = true ∧ s.resetLow = false ∧
          s.clnk.resetAccepted = false ∧ perGet s.smon.senseOn .a = true ∧ (perGet s.links .a).inFlight = none ∧ old.current = .shortLow ∧
          k = classOf (filteredCode
            (pushSample s.smon.settings.n (perGet s.smon.winSense .a) (corrected raw (perGet s.smon.settings.offSense .a)))) ∧
          s.smon.settings.d ≤ (if old.candidate = some k then old.count + 1 else 1) ∧ s.unit 0 = some (door st) ∧
          s.smon.settings.gapEnter ≤
            10 * filteredCode (pushSample s.smon.settings.n s.smon.winLine (corrected 1600 s.smon.settings.offLine)))) = true ∧
      ∀ g st k, (returning g st k).StackLaw ∧ (returning g st k).FlightLaw :=
  ⟨by decide, fun _ _ _ => ⟨by unfold State.StackLaw; exact ⟨Nat.zero_le _, List.nodup_nil⟩, flightLaw_of_idle rfl⟩⟩

theorem witness_line_lost :
    let s := { quiet .supplied with smon := { (quiet .supplied).smon with lineLost := 3 } }
    s.powered = true ∧ s.resetLow = false ∧ s.gapc.state = .supplied ∧
      10 * filteredCode (pushSample s.smon.settings.n s.smon.winLine (corrected 1599 s.smon.settings.offLine)) <
        s.smon.settings.gapEnter ∧
      s.smon.settings.d ≤ s.smon.lineLost + 1 := by decide

/-- The premises that no sample has a part in: with nothing defined, and with a full stack under an active record. -/
theorem witness_line_lost_laws :
    ((quiet .supplied).StackLaw ∧ (quiet .supplied).MembershipLaw ∧ (quiet .supplied).FlightLaw) ∧ flying.StackLaw ∧
      flying.MembershipLaw ∧ flying.FlightLaw ∧ flying.smon = busy.smon ∧ flying.gapc = busy.gapc ∧
      busy.gapc.state = .restore ∧ busy.smon.settings.d ≤ busy.smon.lineLost + 1 ∧
      10 * filteredCode (pushSample busy.smon.settings.n busy.smon.winLine (corrected 100 busy.smon.settings.offLine)) <
        busy.smon.settings.gapEnter :=
  ⟨⟨by unfold State.StackLaw; decide, membershipLaw_of_check (by decide), flightLaw_of_idle rfl⟩, witness_flight_law.1,
    witness_flight_law.2.1, witness_flight_law.2.2, rfl, rfl, rfl, by decide, by decide⟩

theorem witness_line_back :
    [GapState.gap, .deep].all (fun g =>
      let s := { quiet g with smon := { (quiet g).smon with lineBack := 3 } }
      decide (s.powered = true ∧ s.resetLow = false ∧ (s.gapc.state = .gap ∨ s.gapc.state = .deep) ∧
        s.smon.settings.gapExit ≤
          10 * filteredCode (pushSample s.smon.settings.n s.smon.winLine (corrected 1900 s.smon.settings.offLine)) ∧
        s.smon.settings.holdDeep ≤
          5 * filteredCode (pushSample s.smon.settings.n s.smon.winHold (corrected 1800 s.smon.settings.offHold)) ∧
        s.smon.settings.holdRetain ≤ s.smon.settings.holdDeep ∧ s.smon.settings.d ≤ s.smon.lineBack + 1)) = true := by
  decide

theorem witness_hold_runs :
    let s := { quiet .gap with smon := { (quiet .gap).smon with holdDeep := 3 } }
    let s' := { quiet .deep with smon := { (quiet .deep).smon with holdExhausted := 3 } }
    let h (raw : Code) : Nat :=
      5 * filteredCode (pushSample s.smon.settings.n s.smon.winHold (corrected raw s.smon.settings.offHold))
    s.powered = true ∧ s.resetLow = false ∧ s.clnk.resetAccepted = false ∧
      10 * filteredCode (pushSample s.smon.settings.n s.smon.winLine (corrected 1899 s.smon.settings.offLine)) <
        s.smon.settings.gapExit ∧
      (s.gapc.state = .gap ∧ h 1799 < s.smon.settings.holdDeep ∧ s.smon.settings.d ≤ s.smon.holdDeep + 1) ∧
      (s'.gapc.state = .deep ∧ h 1199 < s'.smon.settings.holdRetain ∧
        s'.smon.settings.d ≤ s'.smon.holdExhausted + 1) ∧
      [LongWork.imageErase 0, .finished .inUse].all (fun w =>
        let t := { s with clnk := { s.clnk with long := some ⟨0x13, 3, w, false⟩ } }
        decide (t.clnk.long = some ⟨0x13, 3, w, false⟩ ∧ t.gapc.state = .gap)) = true ∧ s.clnk.long = none := by decide

theorem witness_comparator :
    let s := { quiet .lost with smon := { (quiet .lost).smon with cmpRef := some 1900, lineBack := 3 } }
    let s' := { quiet .lost with smon := { (quiet .lost).smon with cmpRef := some 1900, lineBack := 2 } }
    (s.powered = true ∧ s.resetLow = false ∧ s.gapc.state = .lost ∧ s.smon.cmpRef = some 1900) ∧
      corrected 1899 s.smon.settings.offLine < 1900 ∧
      (1900 ≤ corrected 1900 s'.smon.settings.offLine ∧ s'.smon.lineBack + 1 < s'.smon.settings.d) ∧
      (1900 ≤ corrected 1900 s.smon.settings.offLine ∧ s.smon.settings.d ≤ s.smon.lineBack + 1) ∧
      s.ims.port ≠ some .longRequest := by decide

/-- SETTLE at the tick of its expiry, with unit 0 DARK on segment A. -/
def settling (sense : LineClass) : State :=
  { car (door .dark) with
    tick := 350
    gapc :=
      { GapCtl.initial 65535 with
        state := .settle, durUnknown := false, start := 4294967000, settleStart := some 200, settleTime := some 150 }
    smon := { (car (door .dark)).smon with classes := ⟨⟨sense, none, 0⟩, .initial, .initial⟩ } }

/-- The settle expiry with demand, and, its segment DOWN, without. -/
theorem witness_settle_expiry :
    ([LineClass.normal, .shortHigh].all fun k =>
        let s := settling k
        decide (s.powered = true ∧ s.resetLow = false ∧ s.gapc.state = .settle ∧ s.gapc.settleStart = some 200 ∧
          s.gapc.settleTime = some 150 ∧ 150 ≤ (s.tick - 200).toNat)) = true ∧
      (settling .normal).usable .a = true ∧ (settling .shortHigh).usable .a = false ∧
      (∃ u, ((settling .normal).unit u).any fun e => e.state == .dark && e.decl.seg == .a) ∧
      ∀ u, ((settling .shortHigh).unit u).all fun e => e.decl.seg == .a := by decide

/-- A FROZEN record captured `old` ms before the expiry. -/
def frozen (old : Nat) (p : Option Nat) (unknown : Bool) : State :=
  let s := settling .normal
  let r : ContextRecord :=
    { validity := .frozen, capturedAt := some (s.tick - BitVec.ofNat 32 old), ageUnknown := unknown, rangeFlag := false,
      content := some (.door ⟨.closed, p, 100, 7, none⟩) }
  { s with ctxs := s.ctxs.set 0 r }

/-- Records of an age equal to the limit, one above it, and unknown, with a position and without. -/
theorem witness_settle_ages :
    ([(1500, false), (1501, false), (0, true)].all fun (old, unknown) => [some 50, none].all fun (p : Option Nat) =>
      let s := frozen old p unknown
      let r := s.ctx 0
      decide (s.unit 0 = some (door .dark) ∧ (door .dark).decl.cls = .door ∧ 1500 = s.timing.ageDoor ∧
        r.validity = .frozen ∧ r.content = some (.door ⟨.closed, p, 100, 7, none⟩) ∧
        ((r.ageUnknown || r.capturedAt.any fun t0 => decide (1500 < (s.tick - t0).toNat)) = (unknown || old == 1501)))) = true := by
  decide

theorem witness_frame_sent :
    let f := flight (.contextPoll 0) .contextPoll .sending
    let s := fly (car (door .live)) (.contextPoll 0) .contextPoll .sending
    (s.powered = true ∧ s.resetLow = false ∧ (perGet s.links .a).inFlight = some f ∧ f.phase = .sending) ∧
      (∀ i d, f.frame.body ≠ .block i d) ∧
      let g : InFlight := { flight part (.block 0 []) .sending with todo := [⟨some 0, 1, .answerRequest 0 1⟩] }
      g.frame.body = .block 0 [] ∧ g.todo = ⟨some 0, 1, .answerRequest 0 1⟩ :: [] :=
  ⟨by decide, nofun, rfl, rfl⟩

/-- Unit 0 in PROBE at attempt 0, its frame's answer awaited since tick 0. -/
def probed (retry : Nat) (now : Tick) (open_ : BitVec 9) : State :=
  { fly (car { door .probe with probe := some ⟨.probing, 0⟩, retry := retry }) (.probe 0 0) (.probe 0 (probePattern 0))
      (.waiting 0 10) with
    tick := now
    cflu := { (quiet .restore).cflu with respOpen := open_ } }

theorem witness_membership_of_units :
    (probed 0 0 0).MembershipLaw ∧ (car (door .live)).MembershipLaw ∧ (car (door .held)).MembershipLaw ∧
      (car (door .verify)).MembershipLaw ∧ (car (door .dark)).MembershipLaw ∧ (car (door .isolated)).MembershipLaw :=
  ⟨membershipLaw_of_check (by decide), membershipLaw_of_check (by decide), membershipLaw_of_check (by decide),
    membershipLaw_of_check (by decide), membershipLaw_of_check (by decide), membershipLaw_of_check (by decide)⟩

/-- Unit 0, a unit of class `c`, in PROBE as in `probed`, with its slot as `v` and a record with position `p`. -/
def judged (c : UnitClass) (v : Slot) (retry : Nat) (open_ : BitVec 9) (p : Option Nat) : State :=
  let s := probed retry 7 open_
  { s with
    units := s.units.set 0 (some
      { door .probe with decl := { (door .probe).decl with cls := c }, probe := some ⟨.probing, 0⟩, retry := retry })
    ims := { s.ims with slots := s.ims.slots.set 0 v }
    ctxs := s.ctxs.set 0 { s.ctx 0 with content := some (.door ⟨.closed, p, 100, 7, none⟩) } }

/-- The links of the small states run, and their slot declares an image. -/
theorem witness_links_run (e : UnitEntry) :
    (car e).links = ⟨idleLink, idleLink, idleLink⟩ ∧ idleLink.halted = false ∧ (car e).slot 0 = .valid image ∧
      busy.links = ⟨idleLink, idleLink, idleLink⟩ := ⟨rfl, rfl, rfl, rfl⟩

/-- The state's part of a probe's decision: the slot in each of its four states, the last retry within the limit and the first
past it, the responses masked and open, a DOOR and a DEST unit, a record with a position and without, and the link running. -/
theorem witness_probe_states :
    ([Slot.empty, .damaged image .mismatch, .loading image 0 [], .valid image].all fun v => [2, 3].all fun (retry : Nat) =>
      [(0 : BitVec 9), 0x1FF].all fun open_ => [UnitClass.door, .dest].all fun c => [some 0, none].all fun (p : Option Nat) =>
        let s := judged c v retry open_ p
        let f := flight (.probe 0 0) (.probe 0 (probePattern 0)) (.waiting 0 10)
        decide (s.powered = true ∧ s.resetLow = false ∧ s.rsch.stack.length ≤ 4 ∧ (s.records.map (·.slot)).Nodup ∧
          s.links.a.inFlight = some f ∧ f.exchange = .probe 0 0 ∧ f.frame.body = .probe 0 (probePattern 0) ∧
          f.phase = .waiting 0 10 ∧ f.cut = false ∧ f.marked = false ∧ s.links.a.halted = false) && memberCheck s &&
          (s.unit 0).any (fun e => e.state == .probe && e.probe == some ⟨.probing, 0⟩ && e.decl.cls == c &&
            decide (if retry = 2 then e.retry + 1 ≤ s.timing.retryLimit else s.timing.retryLimit < e.retry + 1)) &&
          s.slot 0 == v && [Condition.linkTest, .classMismatch, .imageUnusable, .versionAhead, .retryExhausted,
            .contextUnknown].all (fun k => s.cflu.respOpen.getLsbD k.index == (open_ != 0)) &&
          (s.ctx 0).content == some (.door ⟨.closed, p, 100, 7, none⟩)) = true := by decide

/-- The report's part: well formed at capabilities 1 and 8 and counts 0 and 128, with the slot's version, a lower one and a
higher one; and at 9, 129, without a version, and without a mode, not well formed; an echo of the next attempt. -/
theorem witness_probe_reports :
    ([(some Mode.run, some (⟨2, 4, 310⟩ : Version), none, 1), (some .run, some ⟨2, 4, 309⟩, some 128, 8),
        (some .run, some ⟨2, 5, 0⟩, none, 8), (some .boot, none, some 0, 1), (some .boot, some ⟨0, 0, 0⟩, some 128, 8)].all
      fun ((m : Option Mode), (v : Option Version), (h : Option Nat), (w : Nat)) =>
        let r := { current with mode := m, version := v, held := h, capability := w }
        decide (r.cls = some .door ∧ r.cls ≠ some .dest ∧ 1 ≤ r.capability ∧ r.capability ≤ 8 ∧
          (r.mode = some .run ∧ r.version ≠ none ∨ r.mode = some .boot ∧ (r.held = some 0 ∨ r.held = some 128 ∧
            r.version ≠ none)) ∧ r.echo = probePattern 0 ∧ r.echo ≠ probePattern 1)) = true ∧
      compareVersion (some ⟨2, 4, 309⟩) image.version = .less ∧ compareVersion (some ⟨2, 5, 0⟩) image.version = .greater ∧
      current.version = some image.version ∧ current.intact = some true ∧
      [{ current with capability := 9 }, { current with capability := 0 }, { current with version := none },
        { current with mode := none }, { current with cls := none }, { current with mode := some .boot, held := some 129 },
        { current with mode := some .boot, version := none, held := some 1 }].all (fun r =>
          decide (r.cls = none ∨ r.capability = 0 ∨ 8 < r.capability ∨ r.mode = none ∨
            r.mode = some .run ∧ r.version = none ∨
            r.mode = some .boot ∧ r.held.all (fun h => decide (128 < h ∨ h ≠ 0 ∧ r.version = none)))) = true := by decide

/-- Unit 0 LIVE with two misses and one, its poll awaited since tick 0, at ticks 10 and 11. -/
theorem witness_polls :
    [((1 : Nat), (10 : Tick)), (2, 10), (0, 11)].all (fun ((misses : Nat), (now : Tick)) =>
      let e := { door .live with misses := misses }
      let s : State := { fly (car e) (.contextPoll 0) .contextPoll (.waiting 0 10) with tick := now }
      let f := flight (.contextPoll 0) .contextPoll (.waiting 0 10)
      decide (s.powered = true ∧ s.resetLow = false ∧ s.links.a.inFlight = some f ∧ f.exchange = .contextPoll 0 ∧
        f.frame.body = .contextPoll ∧ f.phase = .waiting 0 10 ∧ f.cut = false ∧ f.marked = false ∧
        s.unit 0 = some e ∧ e.state = .live ∧ s.links.a.rx = [] ∧ 10 ≤ (s.tick - 0).toNat ∧ memberCheck s = true) &&
      decide (misses < 2 ∨ 2 ≤ misses)) = true := by decide

/-- The last retry within the limit and the first past it, the response masked and open. -/
theorem witness_probe_unanswered :
    [(2, (0 : BitVec 9)), (3, 0), (3, 0x1FF)].all (fun (retry, open_) =>
      let e := { door .probe with probe := some ⟨.probing, 0⟩, retry := retry }
      let s := probed retry 10 open_
      let f := flight (.probe 0 0) (.probe 0 (probePattern 0)) (.waiting 0 10)
      decide (s.powered = true ∧ s.resetLow = false ∧ s.links.a.inFlight = some f ∧ f.exchange = .probe 0 0 ∧
        f.phase = .waiting 0 10 ∧ 10 ≤ (s.tick - 0).toNat ∧ s.links.a.rx = [] ∧ f.cut = false ∧ f.marked = false ∧ s.unit 0 = some e ∧
        e.state = .probe ∧ e.probe = some ⟨.probing, 0⟩ ∧ memberCheck s = true) &&
      decide (if retry = 2 then e.retry + 1 ≤ s.timing.retryLimit else s.timing.retryLimit < e.retry + 1) &&
      decide (s.cflu.respOpen.getLsbD Condition.retryExhausted.index = (open_ != 0))) = true := by decide

/-- A tick before the answer timeout and the timeout's, a frame begun, a frame of another sequence number, and a link that awaits nothing. -/
theorem witness_discarded :
    let s := probed 0 9 0
    let f := flight (.probe 0 0) (.probe 0 (probePattern 0)) (.waiting 0 10)
    (s.powered = true ∧ s.resetLow = false ∧ s.links.a.inFlight = some f ∧ f.phase = .waiting 0 10 ∧
      (s.tick - 0).toNat < 10) ∧
      (⟨1, 8, .ack⟩ : AnswerFrame).seq ≠ f.seq ∧ (⟨2, 9, .ack⟩ : AnswerFrame).address ≠ f.frame.dest ∧
      (car (door .live)).links.a.inFlight = none ∧ (probed 0 10 0).links.a.inFlight = some f ∧
      10 ≤ ((probed 0 10 0).tick - 0).toNat ∧ (probed 0 10 0).links.a.rx = [] ∧
      (s.hearSegmentByte .a 0xC3).links.a.rx ≠ [] := by decide

/-- A part whose unit 0 is `e`; the answer to `body`, a frame of `ex`, is awaited since tick 0. -/
def awaiting (e : UnitEntry) (ex : Exchange) (body : FrameBody) : State :=
  fly (car e) ex body (.waiting 0 10)

/-- Whether unit `u` is `e` and link A awaits the answer to `body` of `ex`, neither cut nor marked. -/
def awaitsAt (s : State) (u : UnitIx) (e : UnitEntry) (ex : Exchange) (body : FrameBody) : Bool :=
  let f := flight ex body (.waiting 0 10)
  decide (s.powered = true ∧ s.resetLow = false ∧ s.links.a.inFlight = some f ∧ f.phase = .waiting 0 10 ∧
    f.exchange = ex ∧ f.frame.body = body ∧ f.cut = false ∧ f.marked = false ∧ s.unit u = some e) && memberCheck s

/-- A JOIN of the image. -/
def joinBody : FrameBody := .join 0 2 image.version image.crc false

/-- `busy` with what its active record's one member, unit 4, owes. -/
def joining (owed : List Nat) : State :=
  { busy with
    rsch := { busy.rsch with active := some { record 4 4 with members := [⟨4, owed⟩] } }
    clnk := (quiet .restore).clnk }

/-- A RESTART answered with no record and with one of the unit's slot; a JOIN of a member that owes blocks, of one that owes
none, and of one of a suspended record; a VERIFY_REQ. -/
theorem witness_acknowledgements :
    (let e := { door .probe with probe := some ⟨.restarting .less, 2⟩ }
     let r : StreamRecord := { record 0 5 with members := [⟨5, [0]⟩] }
     let s := awaiting e (.restart 0) .restart
     let t : State := { s with ims := { s.ims with slots := Vector.replicate 8 .empty } }
     let t' : State :=
      { s with
        units := s.units.set 5 (some { door .stream with decl := ⟨.a, 6, .dest, 0, 3⟩ })
        rsch := { s.rsch with active := some r } }
     (awaitsAt t 0 e (.restart 0) .restart = true ∧ (t.slot e.decl.slot).valid? = none) ∧
      (awaitsAt t' 0 e (.restart 0) .restart = true ∧ t'.rsch.active = some r ∧ r.slot = e.decl.slot ∧
        (t'.slot e.decl.slot).valid?.isSome = true ∧ t'.usable e.decl.seg = true)) ∧
      ([[0, 1], []].all fun owed =>
        let s := fly (joining owed) (.join 4 false) joinBody (.waiting 0 10)
        (s.unit 4).any fun e => awaitsAt s 4 e (.join 4 false) joinBody && e.state == .stream &&
          decide (s.seng = none ∧ s.rsch.active.all (fun r => r.window = none ∧ ⟨4, owed⟩ ∈ r.members))) = true ∧
      (let s := fly (joining [0]) (.join 3 true) joinBody (.waiting 0 10)
       (s.unit 3).any fun e => awaitsAt s 3 e (.join 3 true) joinBody && e.state == .suspended &&
        s.rsch.active.any fun r => r.members != []) = true ∧
      (let v : VerifyRecord := { phase := .requesting, pollDue := none, polls := 0, lastCrc := none }
       let e := { door .verify with verify := some v }
       awaitsAt (awaiting e (.verifyRequest 0) (.verifyRequest 2 image.version image.crc)) 0 e (.verifyRequest 0)
        (.verifyRequest 2 image.version image.crc) = true ∧ v.phase = .requesting) ∧
      [FrameBody.restart, joinBody, .verifyRequest 2 image.version image.crc].all (·.calls .ack) = true := by decide

/-- A READY report for a DOOR and a DEST unit, the last retry within the limit, with the responses masked and open, the
record with a position and without, and the segment usable and DOWN. -/
theorem witness_ready_reports :
    ([UnitClass.door, .dest].all fun c => [(0 : BitVec 9), 0x1FF].all fun open_ =>
      [LineClass.normal, .shortLow].all fun k => [some 0, none].all fun (p : Option Nat) =>
        let v := polling (some 305)
        let e := { door .verify with verify := some v, retry := 2, decl := { (door .verify).decl with cls := c } }
        let s := awaiting e (.verifyPoll 0) .verifyPoll
        let t : State :=
          { s with
            cflu := { s.cflu with respOpen := open_ }
            smon := { s.smon with classes := ⟨⟨k, none, 0⟩, .initial, .initial⟩ }
            ctxs := s.ctxs.set 0 { s.ctx 0 with content := some (.door ⟨.closed, p, 100, 7, none⟩) } }
        awaitsAt t 0 e (.verifyPoll 0) .verifyPoll && t.records.isEmpty &&
          decide (v.phase = .polling 300 ∧ (t.slot e.decl.slot).info? = some image ∧
            e.retry + 1 ≤ t.timing.retryLimit ∧ t.usable .a = (k == .normal) ∧
            t.cflu.respOpen.getLsbD Condition.verifyMismatch.index = (open_ != 0) ∧
            (t.ctx 0).content = some (.door ⟨.closed, p, 100, 7, none⟩))) = true ∧
      image.crc ≠ image.crc + 1 := by decide

/-- Unit 0's answer to the window [0, 2) is awaited, its other segments' parts in state `others`. -/
def windowing (owed : List Nat) (others : PartState) (todo : List OutFrame) : State :=
  let e : UnitEntry := { door .stream with joined := true }
  let s := awaiting e (.window ⟨0, 7, 0, [], [0]⟩) (.answerRequest 0 2)
  { s with
    rsch :=
      { active := some { record 0 0 with level := 7, members := [⟨0, owed⟩], window := some (0, 2) }, stack := [],
        marks := [] }
    seng := some
      { slot := 0, level := 7, start := 0, count := 2, phase := .carrying, buffer := [],
        participants := [⟨0, .a, .pending⟩], parts := ⟨.carrying, others, others⟩ }
    links := perSet s.links .a
      { s.links.a with
        inFlight :=
          (s.links.a.inFlight.map fun f => { f with todo := todo }) } }

/-- The last answer of the last part, the window counted whole and in part, and refused; a part that another is still to
follow; and an answer request still to be sent. -/
theorem witness_window_end :
    ([([0, 1], PartState.ended), ([1], .carrying), ([0, 1, 511], .ended)].all fun (owed, others) =>
      [[], [⟨some 0, 1, .answerRequest 0 2⟩]].all fun (todo : List OutFrame) =>
        let s := windowing owed others todo
        s.powered && !s.resetLow && memberCheck s && (s.unit 0).any (·.joined) &&
          s.links.a.inFlight.any (fun f => f.todo == todo && f.frame.unit == some 0 && !f.cut && !f.marked) &&
          s.seng.any (fun w => w.phase == .carrying && w.parts.b == others && w.parts.c == others &&
            decide (⟨0, .a, .pending⟩ ∈ w.participants) &&
            decide ((w.participants.map (·.unit)).Nodup)) &&
          s.rsch.active.any fun r => r.window == some (0, 2) && decide (⟨0, owed⟩ ∈ r.members)) = true ∧
      (let a : WindowAnswer := ⟨0, false, false, false, 2⟩
       (FrameBody.answerRequest 0 2).calls (.windowAnswer a) = true ∧ a.start.toNat = 0 ∧ 1 ≤ a.count.toNat ∧
        a.count.toNat ≤ 2 ∧ a.err = false ∧ a.busy = false ∧ a.noburst = false ∧
        ([0, 1].filter fun b => !(decide (0 ≤ b) && decide (b < 0 + a.count.toNat))) = [] ∧
        ([0, 1].filter fun b => !(decide (0 ≤ b) && decide (b < 0 + 1))) = [1] ∧ ({ a with err := true }).err = true) ∧
      (∀ v d, (windowing [0, 1] .ended []).unit v = some d → d.state = .wait → d.decl.level ≤ 7) ∧
      0 + 1 ≤ (windowing [0, 1] .ended []).timing.retryLimit :=
  ⟨by decide, by decide, fun v d h hw => by
    have := (by decide : ∀ v : UnitIx, ((windowing [0, 1] .ended []).unit v).all fun d => d.state != .wait) v
    simp [h, hw] at this, by decide⟩

/-- A level-7 window part of one block that waits in a queue. -/
def waitingPart : WindowPart :=
  ⟨0, 7, 0, [[]], [4]⟩

/-- A sequence between its frames, and one whose COMMIT is in flight, marked and not, with a window part waiting; the link's
yield on and off. -/
theorem witness_context_sequences :
    ([false, true].all fun marked => [WriteForm.record, .unknown, .empty].all fun form =>
      [(FrameBody.contextBegin form 1, AnswerBody.ack), (.contextCommit, .contextAck .applied)].all fun (body, b) =>
        let e := { door .context with form := some form, retry := 2 }
        let s := awaiting e (.contextSequence 0) body
        let f := { flight (.contextSequence 0) body (.waiting 0 10) with
          marked := marked
          todo := if body = .contextCommit then [] else [⟨some 0, 1, .contextCommit⟩] }
        let t : State :=
          { s with
            tick := 10, links := perSet s.links .a { s.links.a with inFlight := some f, queue := [.window waitingPart] }
            ctxs := s.ctxs.set 0
              { s.ctx 0 with validity := .frozen, content := some (.door ⟨.closed, some 50, 100, 7, none⟩) } }
        decide ((t.ctx 0).validity = .frozen ∧ (t.ctx 0).content = some (.door ⟨.closed, some 50, 100, 7, none⟩) ∧
          t.links.a.rx = [] ∧ t.powered = true ∧ t.resetLow = false ∧ t.links.a.inFlight = some f ∧
          f.exchange = .contextSequence 0 ∧ f.phase = .waiting 0 10 ∧ f.cut = false ∧ t.unit 0 = some e ∧
          e.state = .context ∧ e.form = some form ∧ body.calls b = true ∧ (body = .contextCommit ∨ f.todo ≠ []) ∧
          10 ≤ (t.tick - 0).toNat ∧ e.retry + 1 ≤ t.timing.retryLimit ∧ t.links.a.halted = false ∧
          t.links.a.queue.find? Exchange.isWindow = some (.window waitingPart) ∧ t.partFrames waitingPart ≠ []) &&
          memberCheck t) = true ∧
      [false, true].all (fun yieldOn =>
        let f := flight (.contextSequence 0) .contextCommit .sending
        let l : Link := { idleLink with inFlight := some f, queue := [part], yieldOn := yieldOn }
        decide (l.halted = false ∧ l.inFlight = some f ∧ f.exchange.isSequence = true ∧ f.cut = false ∧
          part ∈ l.queue ∧ l.yieldOn = yieldOn)) = true ∧
      (⟨0, 7, 0, [], [4]⟩ : WindowPart).level = 7 ∧ (⟨0, 6, 0, [], [4]⟩ : WindowPart).level ≠ 7 := by decide

set_option maxRecDepth 20000 in
/-- The shortest payload and the longest, a last byte that is wrong, a byte of noise, a length of 1,061, and the link
off. -/
theorem witness_control_frames :
    ((quiet .supplied).powered = true ∧ (quiet .supplied).resetLow = false ∧ (quiet .supplied).gapc.state = .supplied ∧
      (quiet .supplied).clnk.rx = []) ∧
      ((Instr.reset 7 []).requestKind? = some 0x27 ∧ (Instr.reset 7 []).wellFormed = true ∧
        (Instr.imageData 7 (List.replicate 1060 0)).wellFormed = true) ∧
      (controlFrame 0x27 7 []).getLast? ≠ some (0x00 : Byte) ∧ (0xA4 : Byte) ≠ 0xA5 ∧
      1060 < 256 * (0x04 : Byte).toNat + (0x25 : Byte).toNat ∧ (quiet .deep).gapc.state = .deep ∧
      (⟨0x10, 7, .busy 0x11 3⟩ : Reply).status = .busy 0x11 3 := by decide

/-- A poll due at tick 0, at ticks 0 and 2^31 − 1; a verify poll due at its deadline's tick. -/
theorem witness_timers :
    [(0 : Tick), 0x7FFFFFFF].all (fun (now : Tick) =>
      let e := { door .live with pollDue := some 0 }
      let s : State := { car e with tick := now }
      decide (s.powered = true ∧ s.resetLow = false ∧ s.unit 0 = some e ∧ s.links.a.halted = false ∧
        (s.tick - 0).toNat < 2 ^ 31 ∧ e.state = .live ∧ e.pollDue = some 0)) = true ∧
      let v := polling (some 300)
      let e := { door .verify with verify := some v }
      let s := { car e with tick := 300 }
      s.unit 0 = some e ∧ s.links.a.halted = false ∧ (s.tick - 300).toNat < 2 ^ 31 ∧ e.state = .verify ∧
        e.verify = some v ∧ v.phase = .polling 300 ∧ v.pollDue = some 300 ∧ 2 ^ 31 ≤ (s.tick - (300 + 1)).toNat := by
  decide

/-- The first tick after the deadline, with the poll in flight and without, the retry count one below its limit. -/
theorem witness_deadline :
    let v := polling (some 305)
    let e := { door .verify with verify := some v, retry := 2 }
    let s := { car e with tick := 301 }
    let f := flight (.verifyPoll 0) .verifyPoll (.waiting 300 10)
    (s.powered = true ∧ s.resetLow = false ∧ memberCheck s = true ∧ s.unit 0 = some e ∧ e.state = .verify ∧
      e.verify = some v ∧ v.phase = .polling 300 ∧ (s.tick - (300 + 1)).toNat < 2 ^ 31) ∧
      (let s' := fly s (.verifyPoll 0) .verifyPoll (.waiting 300 10)
       s'.links.a.inFlight = some f ∧ f.exchange = .verifyPoll 0 ∧ f.cut = false ∧ memberCheck s' = true ∧
         s'.unit 0 = some e) ∧
      s.links.a.inFlight = none ∧ e.retry + 1 ≤ s.timing.retryLimit := by decide

/-- The write of the array's last block, in SUPPLIED and in DEEP, with three replies owed. -/
theorem witness_image_data :
    let s : State := { lastBlock with clnk := { lastBlock.clnk with owed := [⟨1, 2, .inUse⟩, ⟨1, 3, .inUse⟩, ⟨1, 4, .inUse⟩] } }
    (s.powered = true ∧ s.resetLow = false ∧ s.ims.port = some .longRequest) ∧
      s.clnk.long = some ⟨0x11, 3, .imageData 0 1 (List.replicate 1024 3), false⟩ ∧
      s.slot 0 = .loading { image with first := 510 } 1 [0] ∧ 510 + 1 < 512 ∧
      (List.replicate 1024 (3 : Byte)).length = 1024 ∧ s.gapc.state ≠ .lost ∧ s.gapc.state ≠ .deep ∧
      s.clnk.owed.length < 4 ∧ ({ s with gapc := { s.gapc with state := .deep } } : State).gapc.state = .deep :=
  ⟨⟨rfl, rfl, rfl⟩, rfl, rfl, by decide, List.length_replicate, by decide, by decide, by decide, rfl⟩

/-- `busy` with a window [0, `count`) whose first `read` blocks have been read, its participant answering `answer`. -/
def readingOf (count read : Nat) (answer : PartAnswer) : State :=
  { busy with
    ims := { busy.ims with port := some .stream }
    rsch := { busy.rsch with active := some { record 4 4 with window := some (0, count) } }
    seng := some
      { slot := 4, level := 7, start := 0, count := count, phase := .reading, buffer := List.replicate read [],
        participants := [⟨4, .a, answer⟩], parts := ⟨.none, .none, .none⟩ } }

theorem flightLaw_of_reading (count read : Nat) (a : PartAnswer) : (readingOf count read a).FlightLaw := fun w hw => by
  obtain rfl := Option.some.inj hw
  refine ⟨_, rfl, rfl, rfl, fun p hp _ => ?_⟩
  obtain rfl : p = ⟨4, .a, a⟩ := by simpa using hp
  exact ⟨⟨⟨4, [0, 1]⟩, List.mem_singleton.2 rfl, rfl⟩, _, rfl, rfl⟩

/-- The first block of two, and the last, which is the array's last block, with the participant present and IGNORED. -/
theorem witness_block_read :
    [((2 : Nat), (0 : Nat)), (2, 1), (1, 0)].all (fun (count, read) => [PartAnswer.pending, .ignored].all fun answer =>
      let s := readingOf count read answer
      decide (s.powered = true ∧ s.resetLow = false ∧ s.ims.port = some .stream ∧ s.links.a.halted = false ∧
        (s.slot 4).info? = some { image with first := 510 } ∧ 510 + 0 + read < 512) &&
        s.seng.any fun w => decide (w.phase = .reading ∧ w.buffer.length = read ∧ w.buffer.length < w.count ∧
          (w.buffer.length + 1 < w.count ∨ w.buffer.length + 1 = w.count) ∧
          ((w.participants.filter fun q => decide (q.seg = .a ∧ q.answer ≠ .ignored)) = [] ↔ answer = .ignored))) = true := by
  decide

/-- R138, R139: the last block read hands the part, with both blocks, to the one segment with a participant. -/
theorem test_arrayAccessDone_window :
    next (exec .arrayAccessDone (readingOf 2 1 .pending))
      (fun t => t.seng.any (fun w => w.parts == ⟨.carrying, .ended, .ended⟩ && w.buffer.length == 2) &&
        t.links.a.inFlight.any (fun f => f.todo.length == 2) && t.links.b.inFlight.isNone) = true := by decide

/-- A close of a two-block slot with the given declared check and work left. -/
def closing (crc : Crc32) (fill : List Nat) (scanned : Nat) : State :=
  { working (.imageClose 0 fill 0 scanned 0) with
    ims :=
      { slots := (Vector.replicate 8 .empty).set 0 (.loading { image with first := 510, crc := crc } 0 [])
        mem := [], port := some .longRequest } }

/-- A fill write and a scan read; the last scan read with the check that agrees and with another. -/
theorem witness_image_close :
    let now := crc32Update 0 (Memory.readBlock [] 511)
    (∀ (crc : Crc32) (fill : List Nat) (scanned : Nat),
      let s := closing crc fill scanned
      (s.powered = true ∧ s.resetLow = false ∧ s.ims.port = some .longRequest) ∧
        s.slot 0 = .loading { image with first := 510, crc := crc } 0 [] ∧
        (s.gapc.state ≠ .deep ∧ s.gapc.state ≠ .lost ∧ s.clnk.owed.length < 4) ∧
        s.clnk.long = some ⟨0x11, 3, .imageClose 0 fill 0 scanned 0, false⟩) ∧
      (510 + 1 < 512 ∧ 0 + 1 < image.len ∧ image.len ≤ 1 + 1) ∧ ~~~now ≠ ~~~now + 1 ∧
      ({ image with crc := ~~~now } : SlotInfo).crc = ~~~now :=
  ⟨fun _ _ _ => ⟨⟨rfl, rfl, rfl⟩, rfl, ⟨by simp [closing, working, quiet], by simp [closing, working, quiet],
    by simp [closing, working, quiet, State.reset]⟩, rfl⟩, by decide, by simp, rfl⟩

/-- The erase of a slot not in use and of one in use, and the two accesses of a save. -/
theorem witness_erase_and_save :
    let s := working (.imageErase 0)
    let s' : State := { s with units := (Vector.replicate 24 none).set 0 (some (door .verify)) }
    (s.powered = true ∧ s.resetLow = false ∧ s.ims.port = some .longRequest ∧ s.gapc.state ≠ .deep ∧
      s.gapc.state ≠ .lost ∧ s.clnk.owed.length < 4 ∧ s.clnk.long = some ⟨0x11, 3, .imageErase 0, false⟩ ∧
      s.inUse 0 = false) ∧
      s'.inUse 0 = true ∧
      (working (.saveErase .default)).clnk.long = some ⟨0x11, 3, .saveErase .default, false⟩ ∧
      (working (.saveWrite .default)).clnk.long = some ⟨0x11, 3, .saveWrite .default, false⟩ := by decide

/-- `hearing` with replies owed and with a RESET accepted. -/
theorem witness_no_requests :
    (hearing.powered = true ∧ hearing.resetLow = false ∧ hearing.gapc.state = .gap ∧
      hearing.clnk.resetAccepted = false ∧ hearing.clnk.owed.length < 4) ∧
      0x80 ≤ (0x80 : Byte).toNat ∧ (Instr.unknownKind 0 4).wellFormed = true ∧
      (Instr.unknownKind 0x7F 4).wellFormed = true ∧ 4 ≤ busy.clnk.owed.length ∧
      ({ hearing with clnk := { hearing.clnk with resetAccepted := true } } : State).clnk.resetAccepted = true := by decide

theorem witness_transmit_done :
    (busy.powered = true ∧ busy.resetLow = false ∧ busy.gapc.state = .restore ∧ busy.clnk.tx = some .reply ∧
      busy.clnk.resetAccepted = false ∧ busy.clnk.long = none ∧ 1 < busy.clnk.owed.length) ∧
      (State.reset.clnk.tx = some (.notice 0x6000 []) ∧ State.reset.clnk.owed = [] ∧
        ({ State.reset.cflu with unrepDevice := 1 } : FlagUnit).unrepDevice ≠ 0) ∧
      (let s := { quiet .gap with
        cflu := { (quiet .gap).cflu with unrepDevice := 1 }
        clnk := { (quiet .gap).clnk with tx := some .reply, owed := [⟨1, 2, .inUse⟩] } }
       s.clnk.tx = some .reply ∧ s.clnk.resetAccepted = false ∧ s.clnk.long = none ∧ s.clnk.owed.length ≤ 1 ∧
         s.cflu.unrepDevice ≠ 0) ∧
      (let s := { busy with clnk := { busy.clnk with long := some ⟨0x13, 3, .finished .inUse, false⟩ } }
       s.clnk.tx = some .reply ∧ s.clnk.resetAccepted = false ∧
         s.clnk.long = some ⟨0x13, 3, .finished .inUse, false⟩ ∧ s.clnk.owed.length ≤ 4) ∧
      let s := { quiet .supplied with
        clnk :=
          { (quiet .supplied).clnk with tx := some .reply, owed := [⟨0x27, 2, .ok .nothing⟩], resetAccepted := true } }
      s.clnk.tx = some .reply ∧ s.clnk.resetAccepted = true ∧ s.clnk.owed.length = 1 ∧
        s.ims.port ≠ some .longRequest := by decide

/-- Part and links that take a request. -/
theorem takes_quiet : (quiet .supplied).TakesWork := ⟨⟨⟨rfl, rfl⟩, .inl rfl, rfl, by decide⟩, rfl⟩

theorem takes_car (e : UnitEntry) : (car e).TakesWork :=
  ⟨⟨⟨rfl, rfl⟩, .inr (.inr (.inr rfl)), rfl, Nat.zero_lt_succ _⟩, rfl⟩

theorem takes_working (w : LongWork) : (working w).Takes ∧ (working w).clnk.long = some ⟨0x11, 3, w, false⟩ :=
  ⟨⟨⟨rfl, rfl⟩, .inl rfl, rfl, Nat.zero_lt_succ _⟩, rfl⟩

/-- The same for CLEAR_FLAGS, CONTEXT_WRITE and IMAGE_DATA: counts at their highest and above, a payload that ends before its
count, the highest unit index and one with no unit, each content's count, and the work that answers BUSY. -/
theorem witness_requests_of_varying_length :
    let image (n : Nat) : Instr := .imageData 7 ([0, 0, 4, 0] ++ List.replicate n 0)
    let content (c : UnitClass) : State := car { door .live with decl := { (door .live).decl with cls := c } }
    ((image 1024).requestKind? = some 0x11 ∧ (Instr.clearFlags 7 []).requestKind? = some 0x26 ∧
        (Instr.contextWrite 7 []).requestKind? = some 0x25) ∧
      ((working (.imageErase 0)).Takes ∧ ∀ c, (content c).Takes) ∧
      ((image 0).payload.length = 4 ∧ u16 (image 0).payload 2 = 1024 ∧ u16 [0, 0, 4, 1] 2 ≠ 1024 ∧
        ∀ n, (image n).payload.length = 4 + n) ∧
      (17 < u8 [18] 0 ∧ u8 [17] 0 ≤ 17 ∧ ([17] : List Byte).length ≤ 1 + u8 [17] 0 ∧ 24 < u8 [0, 25] (1 + u8 [0, 25] 0) ∧
        u8 [0, 24] (1 + u8 [0, 24] 0) ≤ 24 ∧ ([0, 1, 5, 0, 1] : List Byte).length = 2 + 0 + 3 * 1) ∧
      u8 [23] 0 = (23 : UnitIx).val ∧ (∀ c, (content c).unit 23 = none ∧ ((content c).unit 0).any (·.decl.cls == c)) ∧
      4 < u8 [0, 1, 5] 2 ∧ u8 [0, 1, 4] 2 ≤ 4 ∧ 4 < u8 [0, 1, 1, 1, 1, 1, 5] 6 :=
  ⟨by decide, ⟨(takes_working _).1, fun _ => (takes_car _).1⟩,
    ⟨rfl, by decide, by decide, fun n => by simp [Instr.payload]; omega⟩, by decide, rfl,
    fun c => by cases c <;> decide, by decide, by decide, by decide⟩

/-- A request off the link, discarded, of a length one short and one long, and while an IMAGE_DATA is in progress. -/
theorem witness_requests_checked :
    let c : Instr := .isolate 7 [0]
    (c.requestKind? = some 0x21 ∧ c.wellFormed = true ∧ c.fixedLength? = some 1 ∧ c.payload.length = 1 ∧
      c.isQuery = false) ∧
      (Instr.isolate 7 []).payload.length ≠ 1 ∧ (Instr.isolate 7 [0, 0]).payload.length ≠ 1 ∧
      (quiet .deep).gapc.state = .deep ∧ 4 ≤ busy.clnk.owed.length ∧ busy.gapc.state = .restore := by decide

/-- The payload of a SET_MONITOR with N = 1, D = 0, offsets 127 and −128, and every threshold at its lowest. -/
def lowest : List Byte :=
  [1, 0, 0x00, 0x7F, 0xFF, 0x80, 0x00, 0x7F, 0xFF, 0x80, 0, 0, 0x13, 0x88, 0x15, 0x7C, 0x0B, 0xB8, 0x09, 0xC4]

theorem witness_set_monitor :
    (quiet .supplied).TakesWork ∧
      (let p := lowest
       p.length = 20 ∧ u8 p 0 = 1 ∧ max 1 (min 16 (u8 p 1)) = 1 ∧ s16 p 2 = 127 ∧ s16 p 4 = -128 ∧ s16 p 6 = 127 ∧
         s16 p 8 = -128 ∧ s16 p 10 = 0 ∧ u16 p 12 = 5000 ∧ u16 p 14 = 5500 ∧ u16 p 16 = 3000 ∧ u16 p 18 = 2500 ∧
         1 ≠ (quiet .supplied).smon.settings.n ∧ 5000 ≠ (quiet .supplied).smon.settings.gapEnter) ∧
      (let p := monitorPayload 4
       p.length = 20 ∧ u8 p 0 = (quiet .supplied).smon.settings.n ∧ u8 p 1 = (quiet .supplied).smon.settings.d ∧
         u16 p 12 = (quiet .supplied).smon.settings.gapEnter ∧ u16 p 14 = (quiet .supplied).smon.settings.gapExit ∧
         u16 p 16 = (quiet .supplied).smon.settings.holdDeep ∧
         u16 p 18 = (quiet .supplied).smon.settings.holdRetain) ∧
      (monitorPayload 0).length = 20 ∧ u8 (monitorPayload 0) 0 = 0 :=
  ⟨takes_quiet, by decide, by decide, by decide, by decide⟩

/-- The maximum window left at 8 and made 1. -/
theorem witness_timing_masks_and_permits :
    (quiet .supplied).TakesWork ∧ (car (door .live)).TakesWork ∧ (List.replicate 13 (0xFF : Byte)).length = 13 ∧
      max 1 (min 8 (u8 (List.replicate 13 0xFF) 12)) = (quiet .supplied).timing.maxWindow ∧
      max 1 (min 8 (u8 (List.replicate 13 0) 12)) ≠ (quiet .supplied).timing.maxWindow ∧
      ([1, 0, 2, 0, 0] : List Byte).length = 5 :=
  ⟨takes_quiet, takes_car _, by decide, by decide, by decide, by decide⟩

/-- Sense on a usable segment, on one that is DOWN, and off. -/
theorem witness_set_segment :
    (car (door .dark)).TakesWork ∧ (car (door .dark)).MembershipLaw ∧
      (let s := { car (door .dark) with smon := { (car (door .dark)).smon with senseOn := ⟨false, true, true⟩ } }
       perGet s.smon.senseOn .a = false ∧ perGet s.smon.senseOn .b = true ∧ s.usable .b = true) ∧
      ∀ st, st = .dark ∨ st = .live →
        let s := { car (door st) with
          smon := { (car (door st)).smon with classes := ⟨⟨.shortLow, none, 0⟩, .initial, .initial⟩ } }
        s.TakesWork ∧ perGet s.smon.senseOn .a = true ∧ s.usable .a = false ∧ s.gapc.state = .restore ∧
          memberCheck s = true ∧ stateOf0 s = some st :=
  ⟨takes_car _, membershipLaw_of_check (by decide), by decide, by
    rintro _ (rfl | rfl)
    · exact ⟨takes_car (door .dark), by decide⟩
    · exact ⟨takes_car (door .live), by decide⟩⟩

/-- The lowest and the highest address and level, a new entry and one in ISOLATED. -/
theorem witness_define_unit :
    (car (door .isolated)).TakesWork ∧ (car (door .isolated)).MembershipLaw ∧
      [([0, 0, 1, 0, 0, 7], (0 : UnitIx), (⟨.a, 1, .door, 0, 7⟩ : UnitDef)),
       ([23, 2, 30, 4, 7, 0], 23, ⟨.c, 30, .announce, 7, 0⟩), ([23, 2, 30, 4, 7, 0xFF], 23, ⟨.c, 30, .announce, 7, 2⟩)].all
        fun ((p : List Byte), u, d) =>
          let s := car (door .isolated)
          decide (p.length = 6 ∧ u8 p 0 = u.val ∧ seg? (u8 p 1) = some d.seg ∧ u8 p 2 = d.addr ∧
            class? (u8 p 3) = some d.cls ∧ u8 p 4 = d.slot.val ∧
            (u8 p 5 = d.level ∧ d.level ≤ 7 ∨ u8 p 5 = 0xFF ∧ d.level = d.cls.defaultLevel) ∧ 1 ≤ d.addr ∧ d.addr ≤ 30 ∧
            (s.othersOn u d.seg).length < 12) &&
          (s.unit u).all (fun e => e.state == .isolated) &&
          allUnits.all (fun v => v == u || (s.unit v).all fun e => e.decl.seg != d.seg || e.decl.addr != d.addr) &&
          (s.slot d.slot).info?.all fun i => i.cls == d.cls :=
  ⟨takes_car _, membershipLaw_of_check (by decide), by decide⟩

/-- A STREAM member of `busy`, with replies still free, for REMOVE_UNIT and ISOLATE. -/
theorem witness_remove_isolate :
    let s : State := { busy with clnk := (quiet .restore).clnk }
    s.TakesWork ∧ s.MembershipLaw ∧ s.unit 4 = member 4 4 .stream ∧ (4 : Byte).toNat = (4 : UnitIx).val ∧
      UnitState.stream ≠ .isolated :=
  ⟨⟨⟨⟨rfl, rfl⟩, .inr (.inr (.inr rfl)), rfl, by decide⟩, rfl⟩, membershipLaw_of_check (by decide), rfl, rfl, by decide⟩

/-- Units in ISOLATED, LIVE, FAILED and HELD, on a segment that serves and on one that does not. -/
theorem witness_admit_force :
    [UnitState.isolated, .live, .failed, .held].all (fun st =>
      memberCheck (car (door st)) && (car (door st)).unit 0 == some (door st) && (car (door st)).serves .a &&
        !(settling .normal).serves .a) = true ∧
      (car (door .live)).TakesWork ∧ (0 : Byte).toNat = (0 : UnitIx).val :=
  ⟨by decide, takes_car _, rfl⟩

/-- The three pending conditions whose PROCEED the statement gives, on a usable segment in RESTORE. -/
theorem witness_resolve :
    [Condition.imageUnusable, .versionAhead, .contextUnknown].all (fun k =>
      let e := { door .held with pending := some k }
      memberCheck (car e) && (car e).unit 0 == some e && (car e).serves .a && (car e).usable .a) = true ∧
      (car { door .held with pending := some .linkTest }).TakesWork :=
  ⟨by decide, takes_car _⟩

theorem witness_release :
    let e := { door .live with restrained := true }
    (car e).TakesWork ∧ (car e).unit 0 = some e ∧ e.state = .live ∧ e.restrained = true ∧ (quiet .supplied).TakesWork :=
  ⟨takes_car _, rfl, rfl, rfl, takes_quiet⟩

/-- A content at its highest position, for an EMPTY record and a FROZEN one. -/
theorem witness_context_write :
    let s := car (door .held)
    let s' : State :=
      { s with ctxs := (Vector.replicate 24 .blank).set 0 { ContextRecord.blank with validity := .frozen } }
    let p : List Byte := [0, 8, 1, 0, 100, 0, 100, 0, 0, 7, 0, 0, 0, 0]
    (s.TakesWork ∧ s'.TakesWork) ∧
      (p.length ≤ 1060 ∧ u8 p 0 = (0 : UnitIx).val ∧ s.unit 0 = some (door .held) ∧ (s.ctx 0).validity = .empty ∧
        (s'.ctx 0).validity = .frozen ∧ s.contextWriteNeed p = none ∧ s'.contextWriteNeed p = none) ∧
      (firstBad (contentChecks .door p) = none ∧ leaf? (u8 p 1) = some .indefinite ∧ u8 p 2 = 1 ∧
        u16 p 3 ≤ u16 p 5 ∧ 1 ≤ u16 p 5 ∧ u8 p 10 = 0) :=
  ⟨⟨takes_car _, ⟨⟨⟨rfl, rfl⟩, .inr (.inr (.inr rfl)), rfl, by decide⟩, rfl⟩⟩, by decide, by decide⟩

theorem witness_clear_flags :
    (car (door .live)).TakesWork ∧ (16 : Byte).toNat ≤ 16 ∧ (car (door .live)).unit 0 = some (door .live) ∧
      (0x1F : Byte).toNat < 32 ∧ (0x00 : Byte).toNat < 32 ∧ ¬(0xFF : Byte).toNat < 32 :=
  ⟨takes_car _, by decide, rfl, by decide, by decide, by decide⟩

set_option maxRecDepth 20000 in
/-- An open of one block and of 128 for a slot of the unit's class; and a store whose slots own every block. -/
theorem witness_image_open :
    (car (door .isolated)).TakesWork ∧
      (let s := car (door .isolated)
       [1, 128].all (fun (len : Byte) =>
         let p : List Byte := [0, 0, 2, 4, 1, 54, len, 0, 0, 0, 5]
         decide (p.length = 11 ∧ s.gapc.state = .restore ∧ u8 p 0 = (0 : SlotIx).val ∧ class? (u8 p 1) = some .door ∧
           1 ≤ u8 p 6 ∧ u8 p 6 ≤ 128 ∧ s.inUse 0 = false ∧ firstFit (s.availableTo 0) (u8 p 6) = some 0) &&
         allUnits.all (fun u => (s.unit u).all fun e => e.decl.slot != 0 || e.decl.cls == .door)) = true) :=
  ⟨takes_car _, by decide⟩

/-- Four slots own every block, so that a fifth finds none. -/
def full : State :=
  { quiet .supplied with
    ims :=
      { slots := #v[.valid { image with len := 128, first := 0 }, .valid { image with len := 128, first := 128 },
          .valid { image with len := 128, first := 256 }, .damaged { image with len := 128, first := 384 } .mismatch,
          .empty, .empty, .empty, .empty]
        mem := [], port := none } }

set_option maxRecDepth 20000 in
theorem witness_image_open_full :
    full.TakesWork ∧ full.inUse 4 = false ∧ firstFit (full.availableTo 4) 1 = none :=
  ⟨⟨⟨⟨rfl, rfl⟩, .inl rfl, rfl, by decide⟩, rfl⟩, by decide, by decide⟩

/-- A LOADING slot with the last block named and with the cursor named; slots not in use in SUPPLIED. -/
theorem witness_long_requests :
    let s : State := { working (.imageErase 0) with clnk := (quiet .supplied).clnk }
    s.TakesWork ∧ s.slot 0 = .loading image 0 [] ∧ (0 : Byte).toNat = (0 : SlotIx).val ∧
      (List.replicate 1024 (0 : Byte)).length = 1024 ∧ (1 : Byte).toNat < image.len ∧ (1 : Byte) ≠ 0xFF ∧
      s.gapc.state = .supplied ∧ s.inUse 0 = false :=
  ⟨⟨⟨⟨rfl, rfl⟩, .inl rfl, rfl, by decide⟩, rfl⟩, rfl, rfl, List.length_replicate, by decide, by decide, rfl, by decide⟩

/-- While a long request is in progress, of a defined unit and an EMPTY entry, and of the first numbers out of range. -/
theorem witness_queries :
    (working (.imageErase 0)).Takes ∧ (car (door .live)).Takes ∧ (car (door .live)).unit 0 = some (door .live) ∧
      (car (door .live)).unit 23 = none ∧ (23 : Byte).toNat = (23 : UnitIx).val ∧ (7 : Byte).toNat = (7 : SlotIx).val ∧
      24 ≤ (24 : Byte).toNat ∧ 8 ≤ (8 : Byte).toNat :=
  ⟨(takes_working _).1, (takes_car _).1, rfl, rfl, rfl, rfl, by decide, by decide⟩

end Sys2Proof.Tests
end

/-! The offset stage and the filter window (R2, R3): what a corrected sample is, what a window holds after a sample enters,
and what its filtered code can be. -/

namespace Sys2Proof.Machine

/-! ### The offset stage (R2) -/

theorem corrected_le (raw : Code) (off : Int) : corrected raw off ≤ 4095 := by
  unfold corrected
  omega

theorem corrected_of_sum_nonpos {raw : Code} {off : Int} (h : (raw.toNat : Int) + off ≤ 0) : corrected raw off = 0 := by
  unfold corrected
  omega

theorem corrected_of_limit_le_sum {raw : Code} {off : Int} (h : 4095 ≤ (raw.toNat : Int) + off) :
    corrected raw off = 4095 := by
  unfold corrected
  omega

theorem corrected_eq_sum {raw : Code} {off : Int} (h0 : 0 ≤ (raw.toNat : Int) + off)
    (h1 : (raw.toNat : Int) + off ≤ 4095) : (corrected raw off : Int) = (raw.toNat : Int) + off := by
  unfold corrected
  omega

/-! ### The window (R3) -/

@[simp] theorem pushSample_nil (n v : Nat) : pushSample n [] v = List.replicate n v := rfl

theorem pushSample_of_ne_nil (n : Nat) {w : List Nat} (hw : w ≠ []) (v : Nat) : pushSample n w v = (w ++ [v]).drop 1 := by
  simp [pushSample, hw]

/-- Nothing enters a window but the sample, whether the window is filled or moves on by one place. -/
theorem mem_pushSample {n : Nat} {w : List Nat} {u v : Nat} (h : u ∈ pushSample n w v) : u ∈ w ∨ u = v := by
  by_cases hw : w = []
  · subst hw
    exact .inr (List.eq_of_mem_replicate h)
  · rw [pushSample_of_ne_nil n hw] at h
    simpa using List.mem_of_mem_drop h

theorem pushSample_forall_le {b n v : Nat} {w : List Nat} (hw : ∀ u ∈ w, u ≤ b) (hv : v ≤ b) :
    ∀ u ∈ pushSample n w v, u ≤ b := by
  intro u hu
  obtain hu | rfl := mem_pushSample hu
  · exact hw u hu
  · exact hv

/-- A window that holds one value in every place is not changed by a further sample of that value. -/
@[simp] theorem pushSample_replicate_self (n v : Nat) :
    pushSample n (List.replicate n v) v = List.replicate n v := by
  cases n with
  | zero => rfl
  | succ n => rw [pushSample_of_ne_nil _ (by simp), ← List.replicate_succ', List.drop_replicate, Nat.add_sub_cancel]

/-! ### The filtered code (R3) -/

theorem filteredCode_replicate {n : Nat} (hn : 0 < n) (v : Nat) : filteredCode (List.replicate n v) = v := by
  simp [filteredCode, Nat.mul_div_cancel_left v hn]

/-- An average is no greater than a bound on what it averages. -/
theorem filteredCode_le {b : Nat} {w : List Nat} (hw : ∀ v ∈ w, v ≤ b) : filteredCode w ≤ b := by
  have hsum : w.sum ≤ w.length * b := by simpa using List.sum_le_card_nsmul w b hw
  exact Nat.div_le_of_le_mul hsum

/-- A channel whose corrected input stays at `v` reads `v`, from its first sample on. -/
theorem filteredCode_pushSample_steady {n : Nat} (hn : 0 < n) (v : Nat) :
    filteredCode (pushSample n [] v) = v ∧ filteredCode (pushSample n (List.replicate n v) v) = v := by
  rw [pushSample_nil, pushSample_replicate_self]
  exact ⟨filteredCode_replicate hn v, filteredCode_replicate hn v⟩

/-- Settles O14, from the three cases of the offset stage, the bound a window keeps, and the steady channel. -/
theorem offsetStageSaturates : Obligations.OffsetStageSaturates := by
  refine ⟨fun raw off => ⟨fun h => corrected_of_sum_nonpos h.le, fun h => corrected_of_limit_le_sum h.le,
    fun ⟨h0, h1⟩ => corrected_eq_sum h0 h1⟩, by decide, by decide, ?_, ?_⟩
  · intro n w raw off hw
    have hwin := pushSample_forall_le (n := n) hw (corrected_le raw off)
    exact ⟨hwin, filteredCode_le hwin⟩
  · intro n raw off hn
    constructor
    · intro h
      rw [corrected_of_limit_le_sum h]
      exact filteredCode_pushSample_steady hn 4095
    · intro h
      rw [corrected_of_sum_nonpos h]
      exact filteredCode_pushSample_steady hn 0

end Sys2Proof.Machine

/-! Version comparison and the well-formed test of a boot report (R98, R99, R102): what one field decides, and when a
report may stand without a version. -/

namespace Sys2Proof.Machine

/-! ### One field compared (R102) -/

theorem compareField_of_lt {a b : Nat} (h : a < b) (next : Comparison) : compareField a b next = .less := if_pos h

theorem compareField_of_gt {a b : Nat} (h : b < a) (next : Comparison) : compareField a b next = .greater := by
  simp [compareField, h, h.le]

@[simp] theorem compareField_self (a : Nat) (next : Comparison) : compareField a a next = next := by
  simp [compareField]

theorem compareField_eq_less_iff {a b : Nat} {next : Comparison} :
    compareField a b next = .less ↔ a < b ∨ a = b ∧ next = .less := by
  obtain h | rfl | h := lt_trichotomy a b
  · simp [compareField_of_lt h, h]
  · simp
  · simp [compareField_of_gt h, h.ne', h.le]

theorem compareField_eq_greater_iff {a b : Nat} {next : Comparison} :
    compareField a b next = .greater ↔ b < a ∨ a = b ∧ next = .greater := by
  obtain h | rfl | h := lt_trichotomy a b
  · simp [compareField_of_lt h, h.ne, h.le]
  · simp
  · simp [compareField_of_gt h, h]

/-- Fields that differ answer LESS or GREATER only, so every other outcome comes from the fields that follow. -/
theorem compareField_eq_iff {a b : Nat} {next c : Comparison} (hl : c ≠ .less) (hg : c ≠ .greater) :
    compareField a b next = c ↔ a = b ∧ next = c := by
  obtain h | rfl | h := lt_trichotomy a b
  · simp [compareField_of_lt h, h.ne, hl.symm]
  · simp
  · simp [compareField_of_gt h, h.ne', hg.symm]

/-! ### Versions compared (R102) -/

theorem compareVersion_eq_less_iff {v w : Version} :
    compareVersion (some v) w = .less ↔
      v.major < w.major ∨ v.major = w.major ∧ (v.minor < w.minor ∨ v.minor = w.minor ∧ v.build < w.build) := by
  simp [compareVersion, compareField_eq_less_iff, BitVec.lt_def, BitVec.toNat_inj]

theorem compareVersion_eq_greater_iff {v w : Version} :
    compareVersion (some v) w = .greater ↔
      w.major < v.major ∨ v.major = w.major ∧ (w.minor < v.minor ∨ v.minor = w.minor ∧ w.build < v.build) := by
  simp [compareVersion, compareField_eq_greater_iff, BitVec.lt_def, BitVec.toNat_inj]

theorem compareVersion_eq_equal_iff {v w : Version} :
    compareVersion (some v) w = .equal ↔ v.major = w.major ∧ v.minor = w.minor ∧ v.build = w.build := by
  simp [compareVersion, compareField_eq_iff, BitVec.toNat_inj]

theorem compareVersion_eq_unordered_iff {v : Option Version} {w : Version} :
    compareVersion v w = .unordered ↔ v = none := by
  cases v with
  | none => exact iff_of_true rfl rfl
  | some v => simp [compareVersion, compareField_eq_iff]

/-! ### The well-formed test (R98; R99, test 2) -/

theorem reportWellFormed_iff {r : BootReport} :
    reportWellFormed r = true ↔
      r.cls.isSome = true ∧ (1 ≤ r.capability ∧ r.capability ≤ 8) ∧
        (r.mode = some .run ∧ r.version.isSome = true ∨
          r.mode = some .boot ∧ ∃ h, r.held = some h ∧ h ≤ 128 ∧ (h = 0 ∨ r.version.isSome = true)) := by
  unfold reportWellFormed
  cases hmode : r.mode with
  | none => simp
  | some m =>
    cases m with
    | run => simp [and_assoc]
    | boot => simp [and_assoc, Option.any_eq_true]

/-- What R102 says of blank units, since R98 gives a RUN report a version and a BOOT report a count h (log entry 29). -/
theorem blank_of_reportWellFormed {r : BootReport} (hr : reportWellFormed r = true) (hv : r.version = none) :
    r.mode = some .boot ∧ r.held = some 0 := by
  obtain ⟨-, -, ⟨-, hversion⟩ | ⟨hboot, h, hheld, -, rfl | hversion⟩⟩ := reportWellFormed_iff.mp hr
  · simp [hv] at hversion
  · exact ⟨hboot, hheld⟩
  · simp [hv] at hversion

/-- Settles O15, from the outcome each field decides, and the two modes of a well-formed report. -/
theorem versionsCompareFieldByField : Obligations.VersionsCompareFieldByField :=
  ⟨fun _ _ => ⟨compareVersion_eq_less_iff, compareVersion_eq_greater_iff, compareVersion_eq_equal_iff⟩,
    fun _ _ => compareVersion_eq_unordered_iff, fun _ => blank_of_reportWellFormed, by decide⟩

end Sys2Proof.Machine

/-! The permit outputs under every command (R37, R170, R171). The end of a command recomputes the outputs, so a command that
reaches it leaves the law true from any state; of the others, some move nothing that the law reads, and the two that stop the
part drop the outputs. -/

namespace Sys2Proof.Machine

/-! ### Commands that recompute the outputs (R171) -/

theorem State.finishAfter_permitLaw (s : State) (last : Option Requester) : (s.finishAfter last).PermitLaw :=
  (s.ends_finishAfter last).permits

theorem State.finish_permitLaw (s : State) : s.finish.PermitLaw :=
  s.finishAfter_permitLaw none

theorem State.coldStart_permitLaw (s : State) (leavesLost : Bool) : (s.coldStart leavesLost).PermitLaw :=
  State.finish_permitLaw _

theorem State.warmReset_permitLaw (s : State) : s.warmReset.PermitLaw :=
  State.finish_permitLaw _

/-- A transmission's end runs to the end of the command or, after the RESET reply, into the warm reset. -/
theorem State.transmitDone_permitLaw (s : State) : s.transmitDone.PermitLaw := by
  unfold State.transmitDone
  split
  · dsimp only
    split
    · exact State.warmReset_permitLaw _
    · exact State.finish_permitLaw _
  · exact State.finish_permitLaw _

/-! ### Commands that drop the outputs (R37, R170) -/

/-- The outputs that fall while the part has no power, or RESET is held low, are as the law has them. -/
theorem State.silence_permitLaw {s : State} (hoff : s.powered = true → s.resetLow = true) : s.silence.PermitLaw := by
  intro x
  have hfallen : perGet s.silence.perm.output x = false := by cases x <;> rfl
  refine iff_of_false (by simp [hfallen]) ?_
  rintro ⟨hpowered, hreleased, -⟩
  exact Bool.noConfusion (hreleased.symm.trans (hoff hpowered))

/-! ### Commands that may leave the outputs alone -/

/-- A release of the RESET line that starts no reset: the line was not low, or the part has no power. -/
theorem State.PermitLaw.resetLineReleased {s : State} (h : s.PermitLaw) (hidle : ¬(s.resetLow && s.powered) = true) :
    ({ s with resetLow := false } : State).PermitLaw := by
  intro x
  refine (h x).trans (and_congr_right fun hpowered => and_congr_left fun _ => ?_)
  simpa [hpowered] using hidle

/-- A command that is taken runs to its end, and one that is not changes nothing. -/
theorem State.PermitLaw.finish_or_same {s : State} (h : s.PermitLaw) (c : Prop) [Decidable c] (worked : State) :
    (if c then worked.finish else s).PermitLaw := by
  split
  · exact worked.finish_permitLaw
  · exact h

/-- A request is lost or discarded, which changes nothing, or answered at the end of the command (R191). -/
theorem State.PermitLaw.request {s : State} (h : s.PermitLaw) (kind tag : Byte) (query : Bool) (p : List Byte)
    (need : Option (BitVec 16)) (act : State → Answer) : (s.request kind tag query p need act).PermitLaw := by
  unfold State.request
  split
  · exact h
  · exact State.finish_permitLaw _

/-- A comparison in LOST counts, or performs the cold start (R8). -/
theorem State.PermitLaw.comparatorSample {s : State} (h : s.PermitLaw) (line : Code) :
    (s.comparatorSample line).PermitLaw := by
  unfold State.comparatorSample
  dsimp only
  split
  · exact State.coldStart_permitLaw _ _
  · exact h

/-! ### Every command -/

theorem execResetLineReleased_permitLaw {s t : State} (h : s.PermitLaw) (ht : execResetLineReleased s = .next t) :
    t.PermitLaw := by
  cases ht
  split
  · split
    · exact State.coldStart_permitLaw _ _
    · exact State.warmReset_permitLaw _
  · next hidle => exact h.resetLineReleased hidle

theorem execSegmentAnswer_permitLaw {s t : State} {x : Seg} {a : AnswerFrame} (h : s.PermitLaw)
    (ht : execSegmentAnswer x a s = .next t) : t.PermitLaw := by
  cases ht
  split
  · exact h
  · split <;> exact State.finish_permitLaw _

theorem execArrayAccessDone_permitLaw {s t : State} (h : s.PermitLaw) (ht : execArrayAccessDone s = .next t) :
    t.PermitLaw := by
  unfold execArrayAccessDone at ht
  split at ht
  · cases ht
    exact h
  · split at ht
    · cases ht
      exact h
    · split at ht
      · cases ht
      · cases ht
        exact State.finishAfter_permitLaw _ _

/-- Every command keeps the law: by recomputing the outputs, by dropping them, or by moving nothing that the law reads. -/
theorem exec_permitLaw {c : Instr} {s t : State} (h : s.PermitLaw) (ht : exec c s = .next t) : t.PermitLaw := by
  cases c with
  | powerApplied =>
    cases ht
    exact State.coldStart_permitLaw _ _
  | resetLineAsserted =>
    cases ht
    exact State.silence_permitLaw fun _ => rfl
  | powerLoss =>
    cases ht
    exact State.silence_permitLaw fun hpowered => Bool.noConfusion hpowered
  | resetLineReleased => exact execResetLineReleased_permitLaw h ht
  | segmentAnswer => exact execSegmentAnswer_permitLaw h ht
  | arrayAccessDone => exact execArrayAccessDone_permitLaw h ht
  | lineComparatorSample line =>
    cases ht
    split
    · exact h.comparatorSample line
    · exact h
  | transmitDone =>
    cases ht
    split
    · exact s.transmitDone_permitLaw
    · exact h
  | controlBytePause =>
    cases ht
    split <;> exact h
  | unknownKind =>
    cases ht
    split
    · exact h
    · exact State.finish_permitLaw _
  | tick | controlFrameBad | replyKindFrameDiscarded =>
    cases ht
    exact h
  | monitorSample | settleExpiry | segmentFrameSent | answerTimeout | segmentBytePause | pollTimerDue | verifyPollDue
  | verifyDeadline | segmentFrameDiscarded =>
    cases ht
    exact h.finish_or_same _ _
  | setMonitor | setTiming | setMasks | setPermitEnable | setSegment | defineUnit | removeUnit | saveConfig | imageOpen
  | imageData | imageClose | imageErase | forceRestore | isolate | admitUnit | resolve | releaseUnit | contextWrite
  | clearFlags | reset | queryStatus | queryMonitor | queryUnit | querySlot | queryStreams | queryContext =>
    cases ht
    exact h.request _ _ _ _ _ _

/-- Settles O3: an idle part stands still, and the law reads nothing of the queue from which a step takes its command. -/
theorem everyStepKeepsPermitLaw : Obligations.EveryStepKeepsPermitLaw := by
  intro s t h ht
  unfold step at ht
  split at ht
  · cases ht
    exact h
  · next c rest _ => exact exec_permitLaw (s := { s with pending := rest }) h ht

end Sys2Proof.Machine

/-! A window part cut loose by an abandonment mark (R83, R86, R139). A link that carries a marked window part, of no blocks and
no members, with a part of the window in flight queued behind it, meets every law of O8: the law of the carried parts asks
nothing of the exchange in flight where a part is queued behind it. The answer timeout abandons the marked part to the front of
the queue, the arbiter takes it from there, finds no frame of it to send, and leaves the line idle. -/

namespace Sys2Proof.Machine

/-- A window part with nothing to send. -/
def idlePart : WindowPart where
  slot := 0
  level := 7
  start := 0
  blocks := []
  members := []

/-- A window part of one block. -/
def blockPart : WindowPart :=
  { idlePart with blocks := [[]] }

/-- A window part in flight and marked, its wait begun at tick 0 with no time left. -/
def markedPart : InFlight where
  exchange := .window idlePart
  frame := { unit := none, dest := 0, body := .restart }
  seq := 0
  todo := []
  phase := .waiting 0 0
  cut := false
  marked := true

/-- A running link that carries the marked part, with the part of one block queued behind it. -/
def markedLink : Link :=
  { (Link.initial true).start with queue := [.window blockPart], inFlight := some markedPart }

/-- A part in RESTORE with a window in flight that segment A carries, on that link. -/
def markedPartState : State :=
  { State.reset with
    gapc := { GapCtl.initial 0 with state := .restore }
    rsch :=
      { active := some
          { slot := 0, level := 7, len := 1, w := 1, cursor := 0, members := [], window := some (0, 1) }
        stack := []
        marks := [] }
    seng := some
      { slot := 0, level := 7, start := 0, count := 1, phase := .carrying, buffer := [], participants := [],
        parts := ⟨.carrying, .ended, .ended⟩ }
    links := ⟨markedLink, (Link.initial true).start, (Link.initial true).start⟩
    pending := [.answerTimeout .a] }

theorem markedPartState_unit (u : UnitIx) : markedPartState.unit u = none := by
  simp [markedPartState, State.unit, State.reset]

theorem markedPartState_usable (x : Seg) : markedPartState.usable x = true := by
  cases x <;> rfl

theorem markedPartState_running (x : Seg) : (perGet markedPartState.links x).halted = false := by
  cases x <;> rfl

theorem markedPartState_membershipLaw : markedPartState.MembershipLaw := by
  have hactive : markedPartState.activeUnits = [] := rfl
  have hsuspended : markedPartState.suspendedUnits = [] := rfl
  refine ⟨List.nodup_nil, fun u => ?_, fun u => ?_, fun _ => .inr rfl⟩
  · simp [hactive, markedPartState_unit]
  · simp [hsuspended, markedPartState_unit]

theorem markedPartState_flightLaw : markedPartState.FlightLaw := by
  intro w hw
  obtain rfl := Option.some.inj hw
  exact ⟨_, rfl, rfl, rfl, fun p hp => absurd hp List.not_mem_nil⟩

theorem markedLink_parted : markedLink.Parted :=
  ⟨markedPart, rfl, .inr ⟨⟨blockPart, List.mem_singleton_self _⟩, fun p hp => by
    obtain rfl : p = blockPart := by simpa [markedLink] using hp
    exact List.cons_ne_nil _ _⟩⟩

theorem markedPartState_carryLaw : markedPartState.CarryLaw := by
  intro _ _
  refine ⟨fun _ x _ => markedPartState_running x, fun u e hu => ?_, fun w hw _ => ?_⟩
  · simp [markedPartState_unit] at hu
  · obtain rfl := Option.some.inj hw
    refine ⟨⟨.a, by decide⟩, fun x hx => ⟨markedPartState_running x, ?_⟩⟩
    cases x with
    | a => exact markedLink_parted
    | b | c => exact absurd rfl hx

/-- The state as the timeout leaves it before the end of the command. -/
def abandonedPartState : State :=
  ({ markedPartState with pending := [] } : State).onLink .a (·.abandon (.window idlePart))

theorem step_markedPartState : step markedPartState = .next abandonedPartState.finish := rfl

theorem abandonedPartState_line_idle :
    ((perGet abandonedPartState.links .a).arbitrate abandonedPartState.framesOf).inFlight = none := by
  decide

/-- The window's part on segment A is left with nothing in flight on its link. -/
theorem finish_abandonedPartState_not_carryLaw : ¬abandonedPartState.finish.CarryLaw := by
  intro h
  have hends := abandonedPartState.ends_finish
  have hsame := hends.same
  generalize abandonedPartState.finish = t at *
  have hpower : t.powered = true := by rw [hsame]; rfl
  have hreset : t.resetLow = false := by rw [hsame]; rfl
  have hwindow : t.seng = markedPartState.seng := by rw [hsame]; rfl
  obtain ⟨-, -, hparts⟩ := h hpower hreset
  obtain ⟨-, f, hf, -⟩ := (hparts _ hwindow rfl).2 .a (by decide)
  rw [hends.links .a, abandonedPartState_line_idle] at hf
  cases hf

/-- Refutes O8: the law of the carried parts is lost at the answer timeout of a marked window part. -/
theorem not_everyStepKeepsMembershipFlightAndCarryLaw : ¬ Obligations.EveryStepKeepsMembershipFlightAndCarryLaw := by
  intro h
  have hstack : markedPartState.StackLaw := ⟨Nat.zero_le 4, List.nodup_singleton _⟩
  have hlink : markedPartState.LinkLaw := fun x _ => ⟨markedPartState_usable x, .inr rfl⟩
  have hkept := h _ _ hstack markedPartState_membershipLaw step_markedPartState
  exact finish_abandonedPartState_not_carryLaw
    ((hkept.2 markedPartState_flightLaw).2 hlink markedPartState_carryLaw)

end Sys2Proof.Machine

/-! What the restore band's work can do to the records, the links and the unit table: `Scheduler.Evolves` names the changes that
the stream records go through, and `State.Works` adds what stands. One lemma for each operation of the band says that it is such
work, so that a law of the device is proved of the changes and not of each operation. -/

namespace Sys2Proof.Machine

/-! ### The changes of the records (R113 to R133) -/

/-- A record edited in place: its slot and length stand, and no member comes to owe a block at or above the length. -/
def StreamRecord.EditedTo (r r' : StreamRecord) : Prop :=
  r'.slot = r.slot ∧ r'.len = r.len ∧
    ((∀ m ∈ r.members, ∀ b ∈ m.owed, b < r.len) → ∀ m ∈ r'.members, ∀ b ∈ m.owed, b < r.len)

/-- An edit whose members were members before. -/
theorem StreamRecord.EditedTo.of_members {r r' : StreamRecord} (hslot : r'.slot = r.slot) (hlen : r'.len = r.len)
    (hm : ∀ m ∈ r'.members, m ∈ r.members) : r.EditedTo r' :=
  ⟨hslot, hlen, fun h m hm' => h m (hm m hm')⟩

theorem StreamRecord.editedTo_refl (r : StreamRecord) : r.EditedTo r :=
  .of_members rfl rfl fun _ hm => hm

theorem StreamRecord.EditedTo.trans {r q p : StreamRecord} (h : r.EditedTo q) (h' : q.EditedTo p) : r.EditedTo p := by
  obtain ⟨hslot, hlen, ho⟩ := h
  obtain ⟨hslot', hlen', ho'⟩ := h'
  refine ⟨hslot'.trans hslot, hlen'.trans hlen, fun hr => ?_⟩
  rw [← hlen]
  exact ho' (hlen ▸ ho hr)

theorem StreamRecord.editedTo_place (r : StreamRecord) (p : Nat) : r.EditedTo (r.place p) :=
  .of_members rfl rfl fun _ hm => hm

theorem StreamRecord.editedTo_removeAll (r : StreamRecord) (p : UnitIx → Bool) : r.EditedTo (r.removeAll p) :=
  .of_members rfl rfl fun _ hm => (StreamRecord.mem_removeAll hm).1

theorem StreamRecord.editedTo_removeActive (r : StreamRecord) (p : UnitIx → Bool) : r.EditedTo (r.removeActive p) := by
  unfold StreamRecord.removeActive
  split
  · exact (r.editedTo_removeAll p).trans (StreamRecord.editedTo_place _ _)
  · exact r.editedTo_removeAll p

theorem mem_blocksFrom {h len b : Nat} : b ∈ blocksFrom h len ↔ h ≤ b ∧ b < len := by
  simp [blocksFrom, and_comm]

/-- A new member owes blocks of the record alone (R117). -/
theorem StreamRecord.editedTo_enrol (r : StreamRecord) (u : UnitIx) (e : UnitEntry) (keep : Bool) :
    r.EditedTo (r.enrol u e keep) := by
  refine ⟨rfl, rfl, fun h m hm b hb => ?_⟩
  simp only [StreamRecord.enrol, List.mem_append, List.mem_singleton] at hm
  rcases hm with hm | rfl
  · exact h m hm b hb
  · exact (mem_blocksFrom.1 hb).2

/-- The changes that the records go through, with the slot table as given: the marks, an edit of the active record or of the
suspended ones, removal from the stack, and freeing, pushing, popping and forming an active record. -/
inductive Scheduler.Evolves (slot : SlotIx → Slot) : Scheduler → Scheduler → Prop
  | refl (c : Scheduler) : Evolves slot c c
  | trans {c d e : Scheduler} : Evolves slot c d → Evolves slot d e → Evolves slot c e
  | marks (c : Scheduler) (l : List UnitIx) : Evolves slot c { c with marks := l }
  | active {c : Scheduler} {r r' : StreamRecord} :
    c.active = some r → r.EditedTo r' → Evolves slot c { c with active := some r' }
  | stack (c : Scheduler) (f : StreamRecord → StreamRecord) :
    (∀ r : StreamRecord, r.EditedTo (f r)) → Evolves slot c { c with stack := c.stack.map f }
  | thin (c : Scheduler) (p : StreamRecord → Bool) : Evolves slot c { c with stack := c.stack.filter p }
  | free (c : Scheduler) : Evolves slot c { c with active := none }
  | push {c : Scheduler} {r : StreamRecord} :
    c.active = some r → c.stack.length < 4 → Evolves slot c { c with active := none, stack := r :: c.stack }
  | pop {c : Scheduler} {r : StreamRecord} {rest : List StreamRecord} :
    c.active = none → c.stack = r :: rest → Evolves slot c { c with active := some r, stack := rest }
  | form {c : Scheduler} {r : StreamRecord} {i : SlotInfo} :
    c.active = none → c.hasSlot r.slot = false → slot r.slot = .valid i → r.len = i.len → r.members = [] →
      Evolves slot c { c with active := some r }

theorem Scheduler.Evolves.mapActive {slot : SlotIx → Slot} (c : Scheduler) (f : StreamRecord → StreamRecord)
    (hf : ∀ r : StreamRecord, r.EditedTo (f r)) : Scheduler.Evolves slot c { c with active := c.active.map f } := by
  obtain ⟨active, stack, marks⟩ := c
  cases active with
  | none => exact .refl _
  | some r => exact .active rfl (hf r)

theorem Scheduler.Evolves.removeAll {slot : SlotIx → Slot} (c : Scheduler) (p : UnitIx → Bool) :
    Scheduler.Evolves slot c (c.removeAll p) :=
  (Scheduler.Evolves.mapActive c (·.removeActive p) fun r => r.editedTo_removeActive p).trans
    ((Scheduler.Evolves.stack _ (·.removeAll p) fun r => r.editedTo_removeAll p).trans (.thin _ _))

/-! ### The work of the restore band -/

/-- Every unit's window capability lies in 1..8 (R54). -/
def State.CapabilitiesInRange (s : State) : Prop :=
  ∀ u e, s.unit u = some e → 1 ≤ e.window ∧ e.window ≤ 8

/-- Work of the restore band from `s` to `t`: within the frame, with the image store, the control link and the permit outputs as
they are; the gap controller moves between SUPPLIED and RESTORE alone, the records change by the named changes, no link halts,
starts or changes its yield setting, and capabilities stay in range. -/
structure State.Works (s t : State) : Prop where
  frame : s.RestoreFrame t
  ims : t.ims = s.ims
  clnk : t.clnk = s.clnk
  perm : t.perm = s.perm
  gap : t.gapc.state = s.gapc.state ∨ s.gapc.state.carries = true ∧ t.gapc.state.carries = true
  records : Scheduler.Evolves s.slot s.rsch t.rsch
  links : ∀ x, (perGet t.links x).halted = (perGet s.links x).halted ∧
    (perGet t.links x).yieldOn = (perGet s.links x).yieldOn
  windows : 1 ≤ s.timing.maxWindow → s.timing.maxWindow ≤ 8 → s.CapabilitiesInRange → t.CapabilitiesInRange

theorem State.RestoreFrame.timing {s t : State} (h : s.RestoreFrame t) : t.timing = s.timing := by
  rw [h]

theorem State.RestoreFrame.tick {s t : State} (h : s.RestoreFrame t) : t.tick = s.tick := by
  rw [h]

theorem State.RestoreFrame.running {s t : State} (h : s.RestoreFrame t) : t.running = s.running := by
  unfold State.RestoreFrame at h
  rw [h]
  rfl

theorem State.RestoreFrame.usable {s t : State} (h : s.RestoreFrame t) (x : Seg) : t.usable x = s.usable x := by
  unfold State.RestoreFrame at h
  rw [h]
  rfl

theorem State.Works.slot {s t : State} (h : s.Works t) (k : SlotIx) : t.slot k = s.slot k := by
  unfold State.slot
  rw [h.ims]

/-- The gap states of SUPPLIED and RESTORE are not told apart by what carries. -/
theorem State.Works.carries {s t : State} (h : s.Works t) : t.gapc.state.carries = s.gapc.state.carries := by
  rcases h.gap with h | ⟨h, h'⟩
  · rw [h]
  · rw [h, h']

theorem State.Works.serves {s t : State} (h : s.Works t) (x : Seg) : t.serves x = s.serves x := by
  unfold State.serves
  rw [h.carries, h.frame.usable]

theorem State.Works.refl (s : State) : s.Works s :=
  ⟨.refl s, rfl, rfl, rfl, .inl rfl, .refl _, fun _ => ⟨rfl, rfl⟩, fun _ _ h => h⟩

theorem State.Works.trans {s t r : State} (h : s.Works t) (h' : t.Works r) : s.Works r where
  frame := h.frame.trans h'.frame
  ims := h'.ims.trans h.ims
  clnk := h'.clnk.trans h.clnk
  perm := h'.perm.trans h.perm
  gap := by
    have hs := h.carries
    rcases h'.gap with hg | ⟨hg, hg'⟩
    · exact hg ▸ h.gap
    · exact .inr ⟨hs ▸ hg, hg'⟩
  records := h.records.trans ((funext h.slot : t.slot = s.slot) ▸ h'.records)
  links x := ⟨(h'.links x).1.trans (h.links x).1, (h'.links x).2.trans (h.links x).2⟩
  windows hl hu hw := h'.windows (h.frame.timing ▸ hl) (h.frame.timing ▸ hu) (h.windows hl hu hw)

theorem State.Works.foldl {α : Type} (f : State → α → State) (l : List α) (h : ∀ a ∈ l, ∀ s : State, s.Works (f s a))
    (s : State) : s.Works (l.foldl f s) := by
  induction l generalizing s with
  | nil => exact .refl s
  | cons a l ih => exact (h a (by simp) s).trans (ih (fun b hb => h b (by simp [hb])) _)

/-! ### Units, links, flags -/

/-- The records change, and nothing else. -/
theorem State.rsch_works {s : State} {c : Scheduler} (h : Scheduler.Evolves s.slot s.rsch c) :
    s.Works { s with rsch := c } :=
  ⟨s.rsch_frame c, rfl, rfl, rfl, .inl rfl, h, fun _ => ⟨rfl, rfl⟩, fun _ _ h => h⟩

/-- The window in flight and the contexts change freely. -/
theorem State.seng_works (s : State) (w : Option Window) : s.Works { s with seng := w } :=
  ⟨rfl, rfl, rfl, rfl, .inl rfl, .refl _, fun _ => ⟨rfl, rfl⟩, fun _ _ h => h⟩

theorem State.ctxs_works (s : State) (c : Vector ContextRecord 24) : s.Works { s with ctxs := c } :=
  ⟨rfl, rfl, rfl, rfl, .inl rfl, .refl _, fun _ => ⟨rfl, rfl⟩, fun _ _ h => h⟩

theorem State.putCtx_works (s : State) (u : UnitIx) (r : ContextRecord) : s.Works (s.putCtx u r) :=
  s.ctxs_works _

theorem State.freezeAndAge_works (s : State) (u : UnitIx) : s.Works (s.freezeAndAge u) :=
  s.ctxs_works _

/-- The unit table changes with every capability in range. -/
theorem State.units_works (s : State) (us : Vector (Option UnitEntry) 24)
    (h : 1 ≤ s.timing.maxWindow → s.timing.maxWindow ≤ 8 → s.CapabilitiesInRange →
      ({ s with units := us } : State).CapabilitiesInRange) : s.Works { s with units := us } :=
  ⟨rfl, rfl, rfl, rfl, .inl rfl, .refl _, fun _ => ⟨rfl, rfl⟩, h⟩

/-- An entry whose capability stands is in range where it was. -/
theorem State.CapabilitiesInRange.set {s : State} (h : s.CapabilitiesInRange) {u : UnitIx} {o : Option UnitEntry}
    (ho : ∀ e, o = some e → 1 ≤ e.window ∧ e.window ≤ 8) : (s.putUnit u o).CapabilitiesInRange := by
  intro v e hv
  rw [State.unit_putUnit] at hv
  split at hv
  · exact ho e hv
  · exact h v e hv

/-- An entry changed by `f` has the capability it had. -/
theorem State.CapabilitiesInRange.map {s : State} (h : s.CapabilitiesInRange) {u : UnitIx} {f : UnitEntry → UnitEntry}
    (hf : ∀ e, (f e).window = e.window) : ∀ e, (s.unit u).map f = some e → 1 ≤ e.window ∧ e.window ≤ 8 := by
  intro e he
  obtain ⟨d, hd, rfl⟩ := Option.map_eq_some_iff.1 he
  exact hf d ▸ h u d hd

theorem State.modUnit_works (s : State) (u : UnitIx) (f : UnitEntry → UnitEntry)
    (hf : ∀ e : UnitEntry, (f e).window = e.window := by intro _; rfl) : s.Works (s.modUnit u f) :=
  s.units_works _ fun _ _ h => h.set (h.map hf)

/-- A unit's entry changed so that its capability comes from the configured maximum. -/
theorem State.modUnit_works_of_range (s : State) (u : UnitIx) (f : UnitEntry → UnitEntry)
    (hf : 1 ≤ s.timing.maxWindow → s.timing.maxWindow ≤ 8 → ∀ e : UnitEntry,
      1 ≤ e.window ∧ e.window ≤ 8 → 1 ≤ (f e).window ∧ (f e).window ≤ 8) :
    s.Works (s.modUnit u f) :=
  s.units_works _ fun hl hu h => h.set fun e he => by
    obtain ⟨d, hd, rfl⟩ := Option.map_eq_some_iff.1 he
    exact hf hl hu d (h u d hd)

theorem State.move_works (s : State) (u : UnitIx) (st : UnitState) (f : UnitEntry → UnitEntry)
    (hf : ∀ e : UnitEntry, (f e).window = e.window := by intro _; rfl) : s.Works (s.move u st f) :=
  (s.units_works _ fun _ _ h => h.set (h.map (f := fun e => f (e.goto st)) fun _ => hf _)).trans
    (State.rsch_works (.marks _ _))

/-- A link changed by an operation that neither halts nor starts it. -/
theorem State.onLink_works (s : State) (x : Seg) (f : Link → Link)
    (hf : ∀ l : Link, (f l).halted = l.halted ∧ (f l).yieldOn = l.yieldOn := by intro _; exact ⟨rfl, rfl⟩) :
    s.Works (s.onLink x f) := by
  refine ⟨s.onLink_frame x f, rfl, rfl, rfl, .inl rfl, .refl _, fun y => ?_, fun _ _ h => h⟩
  have hy : perGet (s.onLink x f).links y = if x = y then f (perGet s.links y) else perGet s.links y :=
    perGet_perMod s.links x y f
  rw [hy]
  split
  · exact hf _
  · exact ⟨rfl, rfl⟩

theorem State.hand_works (s : State) (u : UnitIx) (ex : Exchange) : s.Works (s.hand u ex) := by
  unfold State.hand
  split
  · exact .refl s
  · exact s.onLink_works _ _

theorem State.withdrawLink_works (s : State) (u : UnitIx) : s.Works (s.withdrawLink u) := by
  unfold State.withdrawLink
  split
  · exact .refl s
  · exact s.onLink_works _ _

theorem State.withdraw_works (s : State) (u : UnitIx) : s.Works (s.withdraw u) :=
  (State.rsch_works (.removeAll s.rsch (· == u))).trans ((State.seng_works _ _).trans (State.withdrawLink_works _ _))

/-- The flags change, so long as the masks stand. -/
theorem State.cflu_works (s : State) (c : FlagUnit) (hr : c.respOpen = s.cflu.respOpen)
    (ha : c.alertMask = s.cflu.alertMask) : s.Works { s with cflu := c } :=
  ⟨s.cflu_frame c hr ha, rfl, rfl, rfl, .inl rfl, .refl _, fun _ => ⟨rfl, rfl⟩, fun _ _ h => h⟩

theorem FlagUnit.setDevice_masks (c : FlagUnit) (f : DeviceFlag) :
    (c.setDevice f).respOpen = c.respOpen ∧ (c.setDevice f).alertMask = c.alertMask := by
  rw [FlagUnit.setDevice_spec]
  exact ⟨rfl, rfl⟩

theorem State.setDevice_works (s : State) (f : DeviceFlag) : s.Works (s.setDevice f) :=
  s.cflu_works _ (s.cflu.setDevice_masks f).1 (s.cflu.setDevice_masks f).2

theorem State.setUnitFlag_works (s : State) (u : UnitIx) (f : UnitFlag) : s.Works (s.setUnitFlag u f) := by
  unfold State.setUnitFlag
  split
  · exact .refl s
  · next e he =>
    refine (s.units_works _ fun _ _ h => h.set (u := u) fun d hd => ?_).trans (State.cflu_works _ _ ?_ ?_)
    · obtain rfl := Option.some.inj hd
      exact h u e he
    · split
      · rfl
      · exact (FlagUnit.setDevice_masks _ _).1
    · split
      · rfl
      · exact (FlagUnit.setDevice_masks _ _).2

/-! ### Conditions, faults, PROBE, LIVE, CONTEXT -/

theorem State.toHeld_works (s : State) (u : UnitIx) (k : Condition) : s.Works (s.toHeld u k) :=
  (s.withdraw_works u).trans ((State.move_works _ _ _ _).trans (State.setUnitFlag_works _ _ _))

theorem State.toFailed_works (s : State) (u : UnitIx) : s.Works (s.toFailed u) :=
  (s.withdraw_works u).trans ((State.move_works _ _ _ _).trans (State.setUnitFlag_works _ _ _))

theorem State.raise_works (s : State) (u : UnitIx) (k : Condition) (d : State → State) (h : ∀ t : State, t.Works (d t)) :
    s.Works (s.raise u k d) := by
  unfold State.raise
  simp only
  split
  · exact (s.setUnitFlag_works _ _).trans (State.toHeld_works _ _ _)
  · exact (s.setUnitFlag_works _ _).trans (h _)

theorem State.fault_works (s : State) (u : UnitIx) (again : State → State) (h : ∀ t : State, t.Works (again t)) :
    s.Works (s.fault u again) := by
  unfold State.fault
  simp only
  split
  · exact (s.modUnit_works _ _).trans (State.raise_works _ _ _ _ fun t => t.toFailed_works u)
  · exact (s.modUnit_works _ _).trans (h _)

theorem State.enterProbeWith_works (s : State) (u : UnitIx) (r : ProbeRecord) (ex : Exchange) :
    s.Works (s.enterProbeWith u r ex) := by
  unfold State.enterProbeWith
  split
  · exact .refl s
  · split
    · exact (s.move_works _ _ _).trans (State.hand_works _ _ _)
    · exact s.move_works _ _ _

theorem State.enterProbe_works (s : State) (u : UnitIx) : s.Works (s.enterProbe u) :=
  s.enterProbeWith_works _ _ _

theorem State.pollDueNow_works (s : State) (u : UnitIx) : s.Works (s.pollDueNow u) :=
  (s.modUnit_works _ _).trans (State.hand_works _ _ _)

theorem State.enterLive_works (s : State) (u : UnitIx) (restrained : Bool) : s.Works (s.enterLive u restrained) := by
  unfold State.enterLive
  simp only
  split
  · exact (s.move_works _ _ _).trans ((State.setUnitFlag_works _ _ _).trans (State.setUnitFlag_works _ _ _))
  · exact (s.move_works _ _ _).trans (State.setUnitFlag_works _ _ _)

theorem State.queueForm_works (s : State) (u : UnitIx) (form : WriteForm) : s.Works (s.queueForm u form) :=
  (s.modUnit_works _ _).trans (State.hand_works _ _ _)

theorem State.enterContext_works (s : State) (u : UnitIx) : s.Works (s.enterContext u) := by
  unfold State.enterContext
  split
  · exact .refl s
  · refine State.Works.trans (t := s.move u .context id) (s.move_works _ _ _) ?_
    simp only
    generalize s.move u .context id = t
    split
    · split
      · exact t.queueForm_works _ _
      · exact t.raise_works _ _ _ fun q => q.queueForm_works _ _
    · split <;> exact t.queueForm_works _ _

theorem State.contextFault_works (s : State) (u : UnitIx) : s.Works (s.contextFault u) :=
  s.fault_works _ _ fun t => t.hand_works _ _

theorem State.contextOutcome_works (s : State) (u : UnitIx) (a : Option ContextAck) : s.Works (s.contextOutcome u a) := by
  unfold State.contextOutcome
  split
  · exact .refl s
  · split
    · exact .refl s
    · split
      · exact (s.putCtx_works _ _).trans (State.enterLive_works _ _ _)
      · unfold State.contextRefused
        split
        · exact s.raise_works _ _ _ fun t => t.queueForm_works _ _
        · exact s.contextFault_works _
      · exact s.contextFault_works _

/-! ### The scheduler's own work -/

theorem State.enlist_works (s : State) (u : UnitIx) : s.Works (s.enlist u) := by
  unfold State.enlist
  split
  · exact .refl s
  · split
    · exact .refl s
    · simp only
      split
      · exact .refl s
      · split
        · refine (State.rsch_works (.mapActive s.rsch _ fun r => ?_)).trans (State.move_works _ _ _ _)
          split
          · exact (r.editedTo_enrol _ _ _).trans (StreamRecord.editedTo_place _ _)
          · exact r.editedTo_enrol _ _ _
        · split
          · refine (State.rsch_works (.stack s.rsch _ fun r => ?_)).trans (State.move_works _ _ _ _)
            split
            · exact r.editedTo_enrol _ _ _
            · exact r.editedTo_refl
          · exact .refl s

theorem State.handJoin_works (s : State) (u : UnitIx) : s.Works (s.handJoin u) := by
  unfold State.handJoin
  split
  · exact .refl s
  · split
    · exact s.hand_works _ _
    · exact .refl s

theorem State.join_works (s : State) (u : UnitIx) : s.Works (s.join u) :=
  (s.enlist_works u).trans (State.handJoin_works _ u)

theorem State.enterWait_works (s : State) (u : UnitIx) (held : Nat) (v : Option Version) :
    s.Works (s.enterWait u held v) :=
  (s.move_works _ _ _).trans (State.join_works _ _)

/-- A record is formed with none active, for a slot that has none (R116). -/
theorem State.form_works (s : State) (leader : UnitIx) (ha : s.rsch.active = none)
    (hk : ∀ e, s.unit leader = some e → s.rsch.hasSlot e.decl.slot = false) : s.Works (s.form leader) := by
  unfold State.form
  split
  · exact .refl s
  · next e he =>
    split
    · exact .refl s
    · next i hi =>
      have hv : s.slot e.decl.slot = .valid i := by
        cases h : s.slot e.decl.slot <;> simp_all [Slot.valid?]
      refine (State.rsch_works (.form ha ?_ hv rfl rfl)).trans ((State.Works.foldl _ _ (fun u _ t => t.enlist_works u) _).trans
        ((State.rsch_works (.mapActive _ (·.place 0) fun r => r.editedTo_place 0)).trans
          (State.Works.foldl _ _ (fun u _ t => t.handJoin_works u) _)))
      exact hk e he

theorem State.refreshWidths_works (s : State) : s.Works s.refreshWidths :=
  State.rsch_works
    ((Scheduler.Evolves.mapActive s.rsch (fun r => { r with w := s.width r }) fun _ => .of_members rfl rfl fun _ h => h).trans
      (.stack _ (fun r => { r with w := s.width r }) fun _ => .of_members rfl rfl fun _ h => h))

theorem State.enterVerify_works (s : State) (u : UnitIx) : s.Works (s.enterVerify u) :=
  s.move_works _ _ _

theorem State.handVerify_works (s : State) (u : UnitIx) : s.Works (s.handVerify u) :=
  s.hand_works _ _

theorem State.complete_works (s : State) : s.Works s.complete := by
  unfold State.complete
  split
  · exact .refl s
  · next r hr =>
    refine (State.rsch_works (.active hr ?_)).trans
      ((State.Works.foldl _ _ (fun (m : Member) _ t => t.enterVerify_works m.unit) _).trans
        (State.Works.foldl _ _ (fun u _ t => t.handVerify_works u) _))
    exact .of_members rfl rfl fun _ hm => (List.mem_filter.1 hm).1

theorem State.push_works (s : State) (h : s.rsch.stack.length < 4) : s.Works s.push := by
  unfold State.push
  split
  · exact .refl s
  · next r hr =>
    exact (State.rsch_works (.push hr h)).trans (State.Works.foldl _ _ (fun (m : Member) _ t => t.move_works m.unit _ _) _)

/-- Moving members leaves the records as they are. -/
theorem State.foldl_move_records (l : List Member) (st : UnitState) (s : State) :
    (l.foldl (fun s m => s.move m.unit st id) s).rsch.active = s.rsch.active ∧
      (l.foldl (fun s m => s.move m.unit st id) s).rsch.stack = s.rsch.stack := by
  induction l generalizing s with
  | nil => exact ⟨rfl, rfl⟩
  | cons m l ih => exact ih (s.move m.unit st id)

/-- Moving members leaves every unit's definition as it is. -/
theorem State.foldl_move_decl (l : List Member) (st : UnitState) (s : State) (u : UnitIx) :
    ((l.foldl (fun s m => s.move m.unit st id) s).unit u).map (·.decl) = (s.unit u).map (·.decl) := by
  induction l generalizing s with
  | nil => rfl
  | cons m l ih =>
    refine (ih (s.move m.unit st id)).trans ?_
    rw [State.unit_move]
    split
    · cases s.unit u <;> rfl
    · rfl

/-- A push leaves no record active, and a slot that has no record has none after it (R126). -/
theorem State.push_records (s : State) :
    s.push.rsch.active = none ∧ (∀ k, s.push.rsch.hasSlot k = s.rsch.hasSlot k) ∧
      ∀ u, (s.push.unit u).map (·.decl) = (s.unit u).map (·.decl) := by
  unfold State.push
  split
  · next h => exact ⟨h, fun _ => rfl, fun _ => rfl⟩
  · next r hr =>
    obtain ⟨ha, hs⟩ := State.foldl_move_records r.members .suspended
      { s with rsch := { s.rsch with active := none, stack := r :: s.rsch.stack } }
    refine ⟨ha, fun k => ?_, fun u => State.foldl_move_decl _ _ _ u⟩
    simp [Scheduler.hasSlot, ha, hs, hr]

/-- An eligible unit's slot has no record (R115). -/
theorem State.eligible_slot {s : State} {u : UnitIx} {e : UnitEntry} (h : s.eligible u = true) (he : s.unit u = some e) :
    s.rsch.hasSlot e.decl.slot = false := by
  simp only [State.eligible, he, Option.any_some, Bool.and_eq_true, Bool.not_eq_true'] at h
  exact h.1.2

theorem State.preempt_works (s : State) : s.Works s.preempt := by
  unfold State.preempt
  split
  · next r u hr hu =>
    split
    · exact .refl s
    · split
      · next hlen =>
        refine (s.push_works hlen).trans (State.form_works _ _ s.push_records.1 fun e he => ?_)
        obtain ⟨-, hslot, hdecl⟩ := s.push_records
        have hd := (hdecl u).symm.trans (congrArg (Option.map (·.decl)) he)
        obtain ⟨d, hd', hde⟩ := Option.map_eq_some_iff.1 hd
        have hde : d.decl = e.decl := hde
        rw [hslot, ← hde]
        exact State.eligible_slot (State.leader_eligible hu) hd'
      · split
        · exact .refl s
        · exact (State.rsch_works (.marks _ _)).trans (State.raise_works _ _ _ _ fun t => .refl t)
  · exact .refl s

theorem State.pop_works (s : State) (r : StreamRecord) (rest : List StreamRecord) (ha : s.rsch.active = none)
    (hs : s.rsch.stack = r :: rest) : s.Works (s.pop r rest) := by
  unfold State.pop
  refine (State.rsch_works (.pop ha hs)).trans
    ((State.Works.foldl (fun s m => s.move m.unit .stream id) r.members (fun (m : Member) _ t => t.move_works m.unit _ _)
      _).trans ?_)
  simp only
  generalize List.foldl _ _ _ = t
  refine t.refreshWidths_works.trans ((State.complete_works _).trans ?_)
  generalize t.refreshWidths.complete = q
  split
  · exact .refl q
  · next a haq =>
    split
    · exact .refl q
    · exact (State.rsch_works (.active haq (a.editedTo_place _))).trans (State.preempt_works _)

theorem State.freeAndForm_works (n : Nat) (s : State) : s.Works (State.freeAndForm n s) := by
  induction n generalizing s with
  | zero => exact .refl s
  | succ n ih =>
    unfold State.freeAndForm
    split
    · split
      · exact (State.rsch_works (.free _)).trans (ih _)
      · exact .refl s
    · next ha =>
      split
      · next r rest hs => exact (s.pop_works r rest ha hs).trans (ih _)
      · split
        · cases hl : s.leader with
          | none => exact .refl s
          | some u => exact s.form_works u ha fun e he => State.eligible_slot (State.leader_eligible hl) he
        · exact .refl s

theorem State.beginWindow_works (s : State) : s.Works s.beginWindow := by
  unfold State.beginWindow
  split
  · exact .refl s
  · next r hr =>
    simp only
    split
    · refine (State.rsch_works (.active hr ?_)).trans (State.seng_works _ _)
      exact .of_members rfl rfl fun _ h => h
    · exact .refl s

theorem State.settleStreams_works (s : State) : s.Works s.settleStreams :=
  (State.freeAndForm_works 12 s).trans ((State.refreshWidths_works _).trans (State.beginWindow_works _))

/-- A report of demand moves the gap controller between SUPPLIED and RESTORE alone (R21). -/
theorem GapState.onDemand_spec (g : GapState) (d : Bool) :
    g.onDemand d = g ∨ g.carries = true ∧ (g.onDemand d).carries = true := by
  cases g <;> cases d <;> decide

theorem State.reportDemand_works (s : State) : s.Works s.reportDemand := by
  unfold State.reportDemand
  simp only
  split
  · exact .refl s
  · refine State.Works.trans (t := { s with
        gapc := { s.gapc with demand := s.demandNow, state := s.gapc.state.onDemand s.demandNow }
        smon := s.smon.watch (s.gapc.state.onDemand s.demandNow) }) ?_ (State.cflu_works _ _ ?_ ?_)
    · exact ⟨rfl, rfl, rfl, rfl, GapState.onDemand_spec _ _, .refl _, fun _ => ⟨rfl, rfl⟩, fun _ _ h => h⟩
    · split
      · exact (s.cflu.setDevice_masks _).1
      · rfl
    · split
      · exact (s.cflu.setDevice_masks _).2
      · rfl

theorem State.settled_works (s : State) : s.Works s.settled :=
  s.settleStreams_works.trans (State.reportDemand_works _)

theorem State.boundary_works (s : State) (c n : Nat) (taken : List (UnitIx × Nat)) : s.Works (s.boundary c n taken) := by
  unfold State.boundary
  simp only
  generalize hq : State.complete _ = q
  have hs : s.Works q := by
    refine hq ▸ (State.rsch_works (.mapActive s.rsch _ fun r => ?_)).trans (State.complete_works _)
    refine ⟨rfl, rfl, fun h m hm b hb => ?_⟩
    obtain ⟨m', hm', rfl⟩ := List.mem_map.1 hm
    exact h m' hm' b (List.mem_filter.1 hb).1
  split
  · exact hs
  · next r hr =>
    split
    · exact hs
    · exact (hs.trans (State.rsch_works (.active hr (r.editedTo_place _)))).trans
        ((State.refreshWidths_works _).trans (State.preempt_works _))

theorem State.takeReading_works (s : State) (u : UnitIx) (r : Reading) : s.Works (s.takeReading u r) := by
  have h : s.Works (s.modUnit u fun e =>
      { e with firstWindow := false, window := if r.single then 1 else e.window }) := by
    refine s.modUnit_works_of_range _ _ fun _ _ e he => ?_
    simp only
    split
    · omega
    · exact he
  unfold State.takeReading
  simp only
  split
  · exact h.trans (State.fault_works _ _ _ fun t => .refl t)
  · exact h

theorem State.endWindow_works (s : State) : s.Works s.endWindow := by
  unfold State.endWindow
  split
  · exact .refl s
  · split
    · exact (s.seng_works none).trans ((State.Works.foldl _ _ (fun p _ t => t.takeReading_works p.1 p.2) _).trans
        (State.boundary_works _ _ _ _))
    · exact .refl s

theorem State.endPart_works (s : State) (x : Seg) : s.Works (s.endPart x) :=
  (s.seng_works _).trans (State.endWindow_works _)

theorem State.joinOutcome_works (s : State) (u : UnitIx) (keep acked : Bool) : s.Works (s.joinOutcome u keep acked) := by
  unfold State.joinOutcome
  split
  · exact .refl s
  · split
    · exact .refl s
    · split
      · simp only
        split
        · exact (s.modUnit_works _ _).trans (State.complete_works _)
        · exact s.modUnit_works _ _
      · exact s.fault_works _ _ fun t => t.hand_works _ _

/-! ### Probe, verify, poll -/

theorem State.probeFault_works (s : State) (u : UnitIx) (p : Nat) : s.Works (s.probeFault u p) :=
  s.fault_works _ _ fun t => (t.modUnit_works _ _).trans (State.hand_works _ _ _)

theorem State.restart_works (s : State) (u : UnitIx) (p : Nat) (c : RestartCause) : s.Works (s.restart u p c) :=
  (s.modUnit_works _ _).trans (State.hand_works _ _ _)

theorem State.decideVersion_works (s : State) (u : UnitIx) (p : Nat) (r : BootReport) (i : SlotInfo) :
    s.Works (s.decideVersion u p r i) := by
  unfold State.decideVersion
  split
  · split
    · exact (s.modUnit_works _ _).trans (State.enterLive_works _ _ _)
    · exact (s.modUnit_works _ _).trans (State.enterContext_works _ _)
  · exact s.raise_works _ _ _ fun t => t.restart_works _ _ _
  · exact s.restart_works _ _ _
  · exact s.enterWait_works _ _ _

/-- What is learned of a report gives the unit the smaller of its reported capability and the maximum (R104). -/
theorem UnitEntry.learn_window (e : UnitEntry) (r : BootReport) (n : Nat) : (e.learn r n).window = min r.capability n := by
  unfold UnitEntry.learn
  split <;> rfl

theorem State.judgeReport_works (s : State) (u : UnitIx) (p : Nat) (r : BootReport) (hr : 1 ≤ r.capability) :
    s.Works (s.judgeReport u p r) := by
  unfold State.judgeReport
  split
  · exact .refl s
  · simp only
    refine (s.modUnit_works_of_range u (·.learn r s.timing.maxWindow) fun hl hu e _ => ?_).trans ?_
    · rw [e.learn_window]
      omega
    · generalize s.modUnit u _ = t
      split
      · exact t.raise_works _ _ _ fun q => q.toFailed_works _
      · split
        · split
          · exact t.restart_works _ _ _
          · exact t.enterWait_works _ _ _
        · exact t.decideVersion_works _ _ _ _
        · exact t.raise_works _ _ _ fun q => q.toFailed_works _

theorem State.probeOutcome_works (s : State) (u : UnitIx) (sent : Nat) (r : Option BootReport) :
    s.Works (s.probeOutcome u sent r) := by
  unfold State.probeOutcome
  split
  · split
    · exact s.probeFault_works _ _
    · next r =>
      split
      · exact s.probeFault_works _ _
      · next hw =>
        split
        · exact (s.modUnit_works _ _).trans (State.raise_works _ _ _ _ fun t => t.probeFault_works _ _)
        · have hw' : reportWellFormed r = true := by simpa using hw
          exact (s.modUnit_works _ _).trans
            (State.judgeReport_works _ _ _ _ (reportWellFormed_iff.1 hw').2.1.1)
  · exact .refl s

theorem State.restartOutcome_works (s : State) (u : UnitIx) (acked : Bool) : s.Works (s.restartOutcome u acked) := by
  unfold State.restartOutcome
  split
  · split
    · exact (s.modUnit_works _ _).trans (State.enterWait_works _ _ _ _)
    · exact s.probeFault_works _ _
  · exact .refl s

theorem State.setVerify_works (s : State) (u : UnitIx) (v : VerifyRecord) : s.Works (s.setVerify u v) :=
  s.modUnit_works _ _

theorem State.verifyFault_works (s : State) (u : UnitIx) (v : VerifyRecord) : s.Works (s.verifyFault u v) :=
  s.fault_works _ _ fun t => (t.setVerify_works _ _).trans (State.hand_works _ _ _)

theorem State.verifyRequestOutcome_works (s : State) (u : UnitIx) (acked : Bool) :
    s.Works (s.verifyRequestOutcome u acked) := by
  unfold State.verifyRequestOutcome
  split
  · split
    · exact .refl s
    · split
      · exact s.setVerify_works _ _
      · exact s.verifyFault_works _ _
  · exact .refl s

theorem State.mismatchDefault_works (s : State) (u : UnitIx) : s.Works (s.mismatchDefault u) := by
  refine s.fault_works _ _ fun t => ?_
  split
  · exact t.enterWait_works _ _ _
  · exact t.move_works _ _ _

theorem State.verifyReady_works (s : State) (u : UnitIx) (v : VerifyRecord) (crc : Crc32) :
    s.Works (s.verifyReady u v crc) := by
  unfold State.verifyReady
  split
  · exact .refl s
  · refine (s.setVerify_works u { v with lastCrc := some crc }).trans ?_
    simp only
    generalize s.setVerify u _ = t
    split
    · exact .refl t
    · split
      · exact (t.modUnit_works _ _).trans (State.enterContext_works _ _)
      · exact t.raise_works _ _ _ fun q => q.mismatchDefault_works _

theorem State.verifyPollOutcome_works (s : State) (u : UnitIx) (r : Option VerifyReport) :
    s.Works (s.verifyPollOutcome u r) := by
  unfold State.verifyPollOutcome
  split
  · split
    · exact s.verifyReady_works _ _ _
    · split
      · exact s.verifyFault_works _ _
      · exact s.setVerify_works _ _
    · exact .refl s
  · exact .refl s

theorem State.pollLoss_works (s : State) (u : UnitIx) : s.Works (s.pollLoss u) :=
  (s.move_works _ _ _).trans ((State.freezeAndAge_works _ _).trans (State.enterProbe_works _ _))

theorem State.pollOutcome_works (s : State) (u : UnitIx) (r : Option ContextReport) : s.Works (s.pollOutcome u r) := by
  unfold State.pollOutcome
  split
  · exact .refl s
  · split
    · exact .refl s
    · split
      · exact (s.modUnit_works _ _).trans (State.putCtx_works _ _ _)
      · exact s.pollLoss_works _
      · split
        · exact s.pollLoss_works _
        · exact s.modUnit_works _ _

/-- An outcome handed to its owner is work of the band (R81). -/
theorem State.unitOutcome_works (s : State) (ex : Exchange) (a : Option AnswerBody) : s.Works (s.unitOutcome ex a) := by
  cases ex with
  | window _ => exact .refl s
  | probe u p => exact s.probeOutcome_works _ _ _
  | restart u => exact s.restartOutcome_works _ _
  | join u keep => exact s.joinOutcome_works _ _ _
  | verifyRequest u => exact s.verifyRequestOutcome_works _ _
  | verifyPoll u => exact s.verifyPollOutcome_works _ _
  | contextSequence _ => exact .refl s
  | contextPoll u => exact s.pollOutcome_works _ _

theorem State.endExchange_works (s : State) (x : Seg) : s.Works (s.onLink x (·.endExchange)) :=
  s.onLink_works _ _

/-! ### Segment-usable and segment-down -/

theorem State.resume_works (s : State) (u : UnitIx) : s.Works (s.resume u) := by
  unfold State.resume
  split
  · exact s.pollDueNow_works u
  · split
    · exact s.enterProbe_works u
    · exact .refl s

theorem State.probeDark_works (s : State) (p : UnitIx → Bool) : s.Works (s.probeDark p) :=
  State.Works.foldl _ _ (fun u _ t => t.enterProbe_works u) _

theorem UnitEntry.goto_window (e : UnitEntry) (st : UnitState) : (e.goto st).window = e.window := rfl

theorem UnitEntry.atSegmentDown_window (e : UnitEntry) : e.atSegmentDown.window = e.window := by
  unfold UnitEntry.atSegmentDown
  split <;> rfl

/-- Segment `x` taken DOWN, before the window in flight is looked at. -/
def State.takenDown (s : State) (x : Seg) : State :=
  { s.onLink x (·.halt) with
    units := Vector.ofFn fun u : UnitIx => (s.unit u).map fun e => if e.decl.seg = x then e.atSegmentDown else e
    rsch := { s.rsch.removeAll (s.unitOn x) with marks := s.rsch.marks.filter fun u => !s.unitOn x u }
    seng := s.seng.map (·.segmentDown x)
    cflu := s.cflu.setDevice (.segDown x) }

theorem State.segmentDown_eq (s : State) (x : Seg) : s.segmentDown x = (s.takenDown x).endWindow := rfl

theorem State.unit_takenDown (s : State) (x : Seg) (u : UnitIx) :
    (s.takenDown x).unit u = (s.unit u).map fun e => if e.decl.seg = x then e.atSegmentDown else e :=
  getElem_ofFn_ix _ u

/-- Units, records, the window in flight and a device flag change together. -/
theorem State.parts_works (s : State) (us : Vector (Option UnitEntry) 24) (c : Scheduler) (w : Option Window)
    (f : DeviceFlag) (hc : Scheduler.Evolves s.slot s.rsch c)
    (hus : s.CapabilitiesInRange → ({ s with units := us } : State).CapabilitiesInRange) :
    s.Works { s with units := us, rsch := c, seng := w, cflu := s.cflu.setDevice f } :=
  (s.units_works us fun _ _ => hus).trans
    ((State.rsch_works (s := { s with units := us }) hc).trans ((State.seng_works _ w).trans (State.setDevice_works _ f)))

/-- Once segment `x`'s link has halted, what taking it DOWN does beside is work of the band (R13, R62, R131, R146). -/
theorem State.takenDown_works (s : State) (x : Seg) : (s.onLink x (·.halt)).Works (s.takenDown x) := by
  refine State.parts_works (s.onLink x (·.halt)) _ _ _ _ ((Scheduler.Evolves.removeAll s.rsch (s.unitOn x)).trans (.marks _ _))
    fun h u e he => ?_
  rw [State.unit, getElem_ofFn_ix] at he
  obtain ⟨d, hd, rfl⟩ := Option.map_eq_some_iff.1 he
  have hd' := h u d hd
  split
  · rw [d.atSegmentDown_window]
    exact hd'
  · exact hd'

theorem State.segmentDown_works (s : State) (x : Seg) : (s.onLink x (·.halt)).Works (s.segmentDown x) :=
  (s.takenDown_works x).trans (State.endWindow_works _)

/-! ### Unit requests -/

theorem State.freezeIfLive_works (s : State) (u : UnitIx) : s.Works (s.freezeIfLive u) := by
  unfold State.freezeIfLive
  split
  · exact s.freezeAndAge_works u
  · exact .refl s

theorem State.force_works (s : State) (u : UnitIx) : s.Works (s.force u) :=
  (s.withdraw_works u).trans ((State.freezeIfLive_works _ u).trans
    ((State.modUnit_works _ _ _).trans (State.enterProbe_works _ _)))

theorem State.readmit_works (s : State) (u : UnitIx) : s.Works (s.readmit u) :=
  (s.move_works _ _ _).trans ((State.freezeAndAge_works _ _).trans (State.enterProbe_works _ _))

theorem State.remove_works (s : State) (u : UnitIx) : s.Works (s.remove u) :=
  (s.withdraw_works u).trans
    ((State.units_works _ _ fun _ _ h => h.set fun _ he => by cases he).trans
      ((State.ctxs_works _ _).trans ((State.rsch_works (.marks _ _)).trans (State.cflu_works _ _ rfl rfl))))

theorem State.define_works (s : State) (d : Definition) : s.Works (s.define d) := by
  refine State.Works.trans ?_ (State.enterProbe_works _ d.unit)
  refine (s.units_works _ fun hl hu h => h.set (u := d.unit) fun e he => ?_).trans
    ((State.ctxs_works _ _).trans (State.cflu_works _ (s.cflu.forgetUnit d.unit (BitVec.allOnes 13)) rfl rfl))
  obtain rfl := Option.some.inj he
  exact ⟨hl, hu⟩

theorem State.unlessDown_works (s : State) (u : UnitIx) (e : UnitEntry) (go : State → State)
    (h : ∀ t : State, t.Works (go t)) : s.Works (s.unlessDown u e go) := by
  unfold State.unlessDown
  split
  · exact h s
  · exact s.move_works _ _ _

/-- A pending condition's default action is work of the band (R179). -/
theorem State.proceed_works (s : State) (u : UnitIx) (e : UnitEntry) : s.Works (s.proceed u e) := by
  unfold State.proceed
  split
  · exact .refl s
  · exact s.fault_works _ _ fun t => t.enterProbeWith_works _ _ _
  · exact s.toFailed_works u
  · exact s.toFailed_works u
  · exact s.toFailed_works u
  · exact s.enterProbeWith_works _ _ _
  · exact s.unlessDown_works _ _ _ fun t => (t.move_works _ _ _).trans
      ((State.rsch_works (.marks _ _)).trans (State.join_works _ _))
  · exact s.mismatchDefault_works u
  · exact s.unlessDown_works _ _ _ fun t => (t.move_works _ _ _).trans (State.queueForm_works _ _ _)
  · exact s.unlessDown_works _ _ _ fun t => (t.move_works _ _ _).trans (State.queueForm_works _ _ _)

theorem State.resolveAs_works (s : State) (u : UnitIx) (e : UnitEntry) (a : ResolveAction) : s.Works (s.resolveAs u e a) := by
  cases a with
  | proceed => exact s.proceed_works u e
  | retry => exact (s.modUnit_works _ _).trans (State.enterProbe_works _ _)
  | fail => exact s.toFailed_works u

end Sys2Proof.Machine

/-! What a command is made of. `State.Does` names the changes that the state goes through within a command, each with the test
that the model makes before it; `exec_reaches` says that every command is a chain of them, ended as commands end or by a reset.
What holds of every command is then proved of the named changes. -/

namespace Sys2Proof.Machine

/-! ### The named changes -/

/-- From `s` to `t` the records stand, and an entry's capability stands, with no unit newly joined. -/
def State.Steady (s t : State) : Prop :=
  t.rsch.active = s.rsch.active ∧ t.rsch.stack = s.rsch.stack ∧
    ∀ u e', t.unit u = some e' → ∃ e, s.unit u = some e ∧ e'.window = e.window ∧ (e'.joined = true → e.joined = true)

/-- The changes that command `c` is made of. -/
inductive State.Does (c : Instr) : State → State → Prop
  /-- Work of the restore band that leaves the window sizes right. -/
  | works {s t : State} : s.Works t → s.Steady t → State.Does c s t
  /-- Work of the restore band that the scheduler then settles, with the window sizes recomputed (R120). -/
  | settled {s t : State} : s.Works t → State.Does c s t.settleStreams
  | tick (s : State) : c = .tick → State.Does c s { s with tick := s.tick + 1 }
  | supply (s : State) (powered resetLow : Bool) : State.Does c s { s with powered := powered, resetLow := resetLow }
  /-- The control link changes, with no reply owed beyond the fourth (R194). -/
  | clnk (s : State) (k : ControlLink) :
    k.owed.length ≤ max 4 s.clnk.owed.length → State.Does c s { s with clnk := k }
  /-- The supply monitor changes; a usable class stays usable. -/
  | monitor (s : State) (m : Monitor) :
    (m.settings = s.smon.settings ∨ ∃ tag p, c = .setMonitor tag p) →
      (m.senseOn = s.smon.senseOn ∨ ∃ tag p, c = .setSegment tag p) →
      (∀ x, (perGet s.smon.classes x).current.usable = true → (perGet m.classes x).current.usable = true) →
      (s.WindowLaw → ({ s with smon := m } : State).WindowLaw) → State.Does c s { s with smon := m }
  /-- A class changes, and the segment's link halts (R92). -/
  | down (s : State) (x : Seg) (k : LineClass) :
    State.Does c s
      (({ s with smon := { s.smon with classes := perMod s.smon.classes x fun q => { q with current := k } } } :
        State).onLink x (·.halt))
  /-- A link leaves HALTED where its segment serves (R78). -/
  | start (s : State) (x : Seg) : s.serves x = true → State.Does c s (s.onLink x (·.start))
  /-- The gap controller changes in a state in which no link runs. -/
  | gap (s : State) (g : GapCtl) : s.gapc.state.carries = false → State.Does c s { s with gapc := g }
  | gapStart (s : State) : State.Does c s s.gapStart
  | restore (s : State) : s.gapc.state = .settle → State.Does c s s.enterRestore
  /-- The unit table and the contexts are given up (R31). -/
  | tables (s : State) :
    State.Does c s { s with units := Vector.replicate 24 none, ctxs := Vector.replicate 24 .blank }
  | silence (s : State) : State.Does c s s.silence
  | port (s : State) : State.Does c s { s with ims := { s.ims with port := none } }
  /-- The work of the long request stops (R52, R199). -/
  | cut (s : State) : State.Does c s s.cutLong
  /-- An access of the long request ends with the array or the configuration record written (R46, R47, R199). -/
  | write (s : State) (m : List Host.Cell) (r : Option ConfigRecord) :
    s.ims.port = some .longRequest → (s.MemoryLaw → Memory.wf m) →
      State.Does c s { s with ims := { s.ims with mem := m, port := none }, cfgr := r }
  /-- A LOADING slot keeps what it declares (R46, R47). -/
  | declared (s : State) (k : SlotIx) (i : SlotInfo) (cursor : Nat) (written : List Nat) (v : Slot) :
    s.slot k = .loading i cursor written → v.info? = some i → State.Does c s (s.putSlot k v)
  | emptied (s : State) (k : SlotIx) : s.inUse k = false → State.Does c s (s.putSlot k .empty)
  /-- A slot not in use is opened on the first fit (R43, R44). -/
  | opened (s : State) (k : SlotIx) (i : SlotInfo) :
    s.inUse k = false → 1 ≤ i.len → i.len ≤ 128 → firstFit (s.availableTo k) i.len = some i.first →
      State.Does c s (s.putSlot k (.loading i 0 []))
  | timing (s : State) (t : TimingSettings) :
    (∃ tag p, c = .setTiming tag p) → 1 ≤ t.maxWindow → t.maxWindow ≤ 8 → State.Does c s (s.applyTiming t)
  | masks (s : State) (r : BitVec 9) (a : BitVec 17) :
    (∃ tag p, c = .setMasks tag p) → State.Does c s { s with cflu := { s.cflu with respOpen := r, alertMask := a } }
  | enable (s : State) (p : PerSeg Bool) :
    (∃ tag p, c = .setPermitEnable tag p) → State.Does c s { s with perm := { s.perm with enable := p } }
  | permits (s : State) : State.Does c s s.recomputePermits
  | yield (s : State) (x : Seg) (v : Bool) :
    (∃ tag p, c = .setSegment tag p) → State.Does c s (s.onLink x (·.setYield v))
  /-- A free choice counts (log entries 4 and 32). -/
  | choice (s : State) (n : Nat) : State.Does c s { s with freeCount := n }

/-- A chain of the named changes. -/
abbrev State.Chain (c : Instr) : State → State → Prop :=
  Relation.ReflTransGen (State.Does c)

/-- The end of a command, made no times or several. -/
abbrev State.Ended : State → State → Prop :=
  Relation.ReflTransGen State.Ends

/-- Where command `c` leads from `s`: through a chain of the named changes, and, where it performs a reset, through the rebuild
of every block, to the end of the command. -/
def State.Reaches (c : Instr) (s t : State) : Prop :=
  ∃ q, State.Chain c s q ∧
    (State.Ended q t ∨ s.Resets c ∧ ∃ n ctxs l, State.Ended (q.cutLong.rebuild n ctxs l) t)

theorem State.ended_finishAfter (s : State) (last : Option Requester) : State.Ended s (s.finishAfter last) :=
  .single (s.ends_finishAfter last)

theorem State.ended_finish (s : State) : State.Ended s s.finish :=
  s.ended_finishAfter none

theorem State.Chain.reaches {c : Instr} {s q : State} (h : State.Chain c s q) : State.Reaches c s q :=
  ⟨q, h, .inl .refl⟩

theorem State.Chain.reaches_finishAfter {c : Instr} {s q : State} (h : State.Chain c s q) (last : Option Requester) :
    State.Reaches c s (q.finishAfter last) :=
  ⟨q, h, .inl (q.ended_finishAfter last)⟩

theorem State.Chain.reaches_finish {c : Instr} {s q : State} (h : State.Chain c s q) : State.Reaches c s q.finish :=
  h.reaches_finishAfter none

theorem State.Chain.reaches_coldStart {c : Instr} {s q : State} (h : State.Chain c s q) (hr : s.Resets c) (lost : Bool) :
    State.Reaches c s (q.coldStart lost) :=
  ⟨q, h, .inr ⟨hr, _, _, _, State.ended_finish _⟩⟩

theorem State.Chain.reaches_warmReset {c : Instr} {s q : State} (h : State.Chain c s q) (hr : s.Resets c) :
    State.Reaches c s q.warmReset :=
  ⟨q, h, .inr ⟨hr, _, _, _, State.ended_finish _⟩⟩

/-! ### Work that leaves the window sizes right -/

theorem State.Steady.refl (s : State) : s.Steady s :=
  ⟨rfl, rfl, fun _ e he => ⟨e, he, rfl, id⟩⟩

theorem State.Steady.trans {s t r : State} (h : s.Steady t) (h' : t.Steady r) : s.Steady r := by
  obtain ⟨ha, hs, hu⟩ := h
  obtain ⟨ha', hs', hu'⟩ := h'
  refine ⟨ha'.trans ha, hs'.trans hs, fun u e' he' => ?_⟩
  obtain ⟨d, hd, hw, hj⟩ := hu' u e' he'
  obtain ⟨e, he, hw', hj'⟩ := hu u d hd
  exact ⟨e, he, hw.trans hw', fun h => hj' (hj h)⟩

theorem State.Steady.foldl {α : Type} (f : State → α → State) (h : ∀ a, ∀ s : State, s.Steady (f s a)) (l : List α)
    (s : State) : s.Steady (l.foldl f s) := by
  induction l generalizing s with
  | nil => exact .refl s
  | cons a l ih => exact (h a s).trans (ih _)

/-- Nothing of the records and the unit table changes. -/
theorem State.Steady.of_same {s t : State} (ha : t.rsch.active = s.rsch.active) (hs : t.rsch.stack = s.rsch.stack)
    (hu : ∀ u, t.unit u = s.unit u) : s.Steady t :=
  ⟨ha, hs, fun u e he => ⟨e, hu u ▸ he, rfl, id⟩⟩

/-- One unit's entry changes, and is not newly joined. -/
theorem State.Steady.of_unit {s t : State} {u : UnitIx} {f : UnitEntry → UnitEntry}
    (ha : t.rsch.active = s.rsch.active) (hs : t.rsch.stack = s.rsch.stack)
    (hu : ∀ v, t.unit v = if u = v then (s.unit v).map f else s.unit v)
    (hw : ∀ e : UnitEntry, (f e).window = e.window) (hj : ∀ e : UnitEntry, (f e).joined = true → e.joined = true) :
    s.Steady t := by
  refine ⟨ha, hs, fun v e' he' => ?_⟩
  rw [hu v] at he'
  split at he'
  · obtain ⟨e, he, rfl⟩ := Option.map_eq_some_iff.1 he'
    exact ⟨e, he, hw e, hj e⟩
  · exact ⟨e', he', rfl, id⟩

theorem State.modUnit_steady (s : State) (u : UnitIx) (f : UnitEntry → UnitEntry)
    (hw : ∀ e : UnitEntry, (f e).window = e.window := by intro _; rfl)
    (hj : ∀ e : UnitEntry, (f e).joined = true → e.joined = true := by intro _ h; exact h) : s.Steady (s.modUnit u f) :=
  .of_unit rfl rfl (fun v => s.unit_modUnit u v f) hw hj

theorem UnitEntry.joined_of_goto {e : UnitEntry} {st : UnitState} (h : (e.goto st).joined = true) : e.joined = true := by
  simp only [UnitEntry.goto, Bool.and_eq_true] at h
  exact h.1

theorem State.move_steady (s : State) (u : UnitIx) (st : UnitState) (f : UnitEntry → UnitEntry)
    (hw : ∀ e : UnitEntry, (f e).window = e.window := by intro _; rfl)
    (hj : ∀ e : UnitEntry, (f e).joined = true → e.joined = true := by intro _ h; exact h) : s.Steady (s.move u st f) :=
  .of_unit rfl rfl (fun v => s.unit_move u v st f) (fun _ => hw _) fun _ h => UnitEntry.joined_of_goto (hj _ h)

theorem State.hand_steady (s : State) (u : UnitIx) (ex : Exchange) : s.Steady (s.hand u ex) :=
  .of_same (by rw [s.rsch_hand]) (by rw [s.rsch_hand]) fun v => s.unit_hand u v ex

theorem State.setUnitFlag_steady (s : State) (u : UnitIx) (f : UnitFlag) : s.Steady (s.setUnitFlag u f) :=
  .of_unit (by rw [s.rsch_setUnitFlag]) (by rw [s.rsch_setUnitFlag]) (fun v => s.unit_setUnitFlag u v f) (fun _ => rfl)
    fun _ h => h

theorem State.enterProbe_steady (s : State) (u : UnitIx) : s.Steady (s.enterProbe u) := by
  unfold State.enterProbe State.enterProbeWith
  split
  · exact .refl s
  · split
    · exact (s.move_steady _ _ _).trans (State.hand_steady _ _ _)
    · exact s.move_steady _ _ _

theorem State.pollDueNow_steady (s : State) (u : UnitIx) : s.Steady (s.pollDueNow u) :=
  (s.modUnit_steady _ _).trans (State.hand_steady _ _ _)

theorem State.resume_steady (s : State) (u : UnitIx) : s.Steady (s.resume u) := by
  unfold State.resume
  split
  · exact s.pollDueNow_steady u
  · split
    · exact s.enterProbe_steady u
    · exact .refl s

theorem State.reportDemand_steady (s : State) : s.Steady s.reportDemand := by
  unfold State.reportDemand
  simp only
  split
  · exact .refl s
  · exact .of_same rfl rfl fun _ => rfl

/-! ### Chains for the shared operations -/

section
variable {c : Instr}

theorem State.Does.chain {s t : State} (h : State.Does c s t) : State.Chain c s t :=
  .single h

/-- Work that touches neither the records nor the unit table. -/
theorem State.Works.does {s t : State} (h : s.Works t) (hs : t.units = s.units) (hr : t.rsch = s.rsch) :
    State.Does c s t :=
  .works h (.of_same (by rw [hr]) (by rw [hr]) fun u => by unfold State.unit; rw [hs])

/-- Work settled by the scheduler, with the report of demand (R74). -/
theorem State.Works.chain_settled {s t : State} (h : s.Works t) : State.Chain c s t.settled :=
  (State.Does.settled h).chain.tail (.works (State.reportDemand_works _) (State.reportDemand_steady _))

theorem State.onLink_does (s : State) (x : Seg) (f : Link → Link)
    (hf : ∀ l : Link, (f l).halted = l.halted ∧ (f l).yieldOn = l.yieldOn := by intro _; exact ⟨rfl, rfl⟩) :
    State.Does c s (s.onLink x f) :=
  (s.onLink_works x f hf).does rfl rfl

/-- The debounce counters follow a change of gap state (R6). -/
theorem State.watch_does (s : State) (g : GapState) : State.Does c s { s with smon := s.smon.watch g } :=
  .monitor s _ (.inl rfl) (.inl rfl) (fun _ h => h) fun h => h

/-- Segment-usable: the link leaves HALTED where the segment serves, and its units are taken up again (R63). -/
theorem State.segmentUsable_chain (s : State) (x : Seg) (hx : s.usable x = true) : State.Chain c s (s.segmentUsable x) := by
  unfold State.segmentUsable
  split
  · next hg =>
    have hserves : s.serves x = true := by simp [State.serves, hg, hx]
    exact (State.Does.start s x hserves).chain.tail
      (.works (State.Works.foldl _ _ (fun u _ t => t.resume_works u) _)
        (State.Steady.foldl _ (fun u t => t.resume_steady u) _ _))
  · exact .refl

/-- A request is lost or discarded, or its work done and its reply owed (R191, R194). -/
theorem State.request_reaches (s : State) (kind tag : Byte) (query : Bool) (p : List Byte) (need : Option (BitVec 16))
    (act : State → Answer) (h : State.Chain c s (act s).1) (ho : (act s).1.clnk.owed = s.clnk.owed) :
    State.Reaches c s (s.request kind tag query p need act) := by
  unfold State.request
  split
  · exact State.Chain.reaches .refl
  · next hd =>
    have hlen : s.clnk.owed.length < 4 := by
      simp [State.discards] at hd
      omega
    have howe (a : Answer) (ha : State.Chain c s a.1) (ha' : a.1.clnk.owed = s.clnk.owed) :
        State.Chain c s (oweAnswer kind tag a) := by
      unfold oweAnswer
      split
      · refine ha.tail (.clnk _ _ ?_)
        simp only [ha', List.length_append, List.length_singleton]
        omega
      · exact ha
    refine (howe _ ?_ ?_).reaches_finish
    · unfold State.judge
      split
      · exact .refl
      · exact .refl
      · exact h
    · unfold State.judge
      split
      · rfl
      · rfl
      · exact ho

/-- The checks on the index of a request that names one unit change nothing. -/
theorem State.onUnit_cases {s : State} {p : List Byte} {act : UnitIx → UnitEntry → Answer} {P : Answer → Prop}
    (hrefuse : ∀ st, P (refuse s st)) (hact : ∀ u e, s.unit u = some e → P (act u e)) : P (s.onUnit p act) := by
  unfold State.onUnit
  split
  · exact hrefuse _
  · split
    · exact hrefuse _
    · next e he => exact hact _ e he

end

end Sys2Proof.Machine

/-! Every command is a chain of the named changes, ended as commands end, or by a reset. -/

namespace Sys2Proof.Machine

section
variable {c : Instr}

/-! ### Gap cycle -/

/-- A change of the gap controller in a state in which no link runs, with the counters it watches (R6). -/
theorem State.gap_chain (s : State) (g : GapCtl) (h : s.gapc.state.carries = false) :
    State.Chain c s { s with gapc := g, smon := s.smon.watch g.state } :=
  (State.Does.gap s g h).chain.tail (State.watch_does _ _)

theorem State.settleAbort_chain (s : State) (h : s.gapc.state = .settle) : State.Chain c s s.settleAbort :=
  s.gap_chain { s.gapc with state := .gap, settleStart := none, settleTime := none } (by rw [h]; rfl)

theorem State.startSettle_chain (s : State) (h : s.gapc.state.carries = false) : State.Chain c s s.startSettle :=
  s.gap_chain { s.gapc with state := .settle, settleStart := some s.tick, settleTime := some s.timing.settle } h

theorem State.gapStart_chain (s : State) : State.Chain c s s.gapStart.reportDemand :=
  (State.Does.gapStart s).chain.tail (.works (State.reportDemand_works _) (State.reportDemand_steady _))

theorem State.returnNotice_masks (s : State) (d : BitVec 17) (l : List (UnitIx × BitVec 13)) :
    (s.returnNotice d l).respOpen = s.cflu.respOpen ∧ (s.returnNotice d l).alertMask = s.cflu.alertMask :=
  ⟨rfl, rfl⟩

theorem State.cutTransmission_masks (s : State) :
    s.cutTransmission.respOpen = s.cflu.respOpen ∧ s.cutTransmission.alertMask = s.cflu.alertMask := by
  unfold State.cutTransmission
  split
  · exact s.returnNotice_masks _ _
  · exact ⟨rfl, rfl⟩

/-- DEEP as it is entered, before an accepted RESET is performed (R28, R29). -/
def State.deepEntered (s : State) : State :=
  { s with
    gapc := { s.gapc with state := .deep, durUnknown := true }
    smon := s.smon.watch .deep
    ctxs := Vector.ofFn fun u : UnitIx => (s.ctx u).loseAge
    cflu := s.cutTransmission.setDevice .deepEntered
    clnk := { s.clnk with rx := [], owed := [], tx := none, long := keepWorking s.clnk.long } }

theorem State.enterDeep_eq (s : State) :
    s.enterDeep = if s.clnk.resetAccepted then s.deepEntered.warmReset else s.deepEntered := rfl

theorem State.deepEntered_chain (s : State) (h : s.gapc.state = .gap) : State.Chain c s s.deepEntered := by
  have hgap := s.gap_chain (c := c) { s.gapc with state := .deep, durUnknown := true } (by rw [h]; rfl)
  refine ((hgap.tail ((State.ctxs_works _ (Vector.ofFn fun u : UnitIx => (s.ctx u).loseAge)).does rfl rfl)).tail
    ((State.cflu_works _ (s.cutTransmission.setDevice .deepEntered) ?_ ?_).does rfl rfl)).tail
    (.clnk _ { s.clnk with rx := [], owed := [], tx := none, long := keepWorking s.clnk.long } (by simp))
  · exact (FlagUnit.setDevice_masks _ _).1.trans s.cutTransmission_masks.1
  · exact (FlagUnit.setDevice_masks _ _).2.trans s.cutTransmission_masks.2

/-- What stopping the long request's work leaves: all but the array, the record, the port and the link (R52, R199). -/
theorem State.cutLong_spec (s : State) :
    s.cutLong =
      { s with
        ims := { s.ims with mem := s.cutLong.ims.mem, port := none }
        cfgr := s.cutLong.cfgr
        clnk := { s.clnk with long := none }
        freeCount := s.cutLong.freeCount } := by
  unfold State.cutLong
  cases h : s.cutBlock? with
  | none => rfl
  | some b =>
    simp only [Option.map_some, Option.getD_some, State.spoilBlock]
    split <;> rfl

theorem State.gapc_cutLong (s : State) : s.cutLong.gapc = s.gapc := by
  rw [s.cutLong_spec]

theorem State.enterLost_chain (s : State) (h : s.gapc.state = .deep) : State.Chain c s s.enterLost := by
  unfold State.enterLost
  simp only
  have hs := s.gapc_cutLong
  have hcut : State.Chain c s s.cutLong := (State.Does.cut s).chain
  generalize s.cutLong = t at hs hcut ⊢
  refine ((((hcut.tail (.gap t { t.gapc with state := .lost } (by rw [hs, h]; rfl))).tail
    (.monitor _ { t.smon.watch .lost with cmpRef := some (lineCodeAtOrAbove t.smon.settings.gapExit) } (.inl rfl) (.inl rfl)
      (fun _ h => h) fun h => h)).tail (.tables _)).tail
    (.clnk _ { t.clnk with rx := [], owed := [], tx := none } (by simp)))

theorem State.testDemand_works (s : State) (h : s.gapc.state = .restore) : s.Works s.testDemand := by
  have hgap (d : Bool) (g : GapState) (m : Monitor) (hm : m = s.smon ∨ m = s.smon.watch g)
      (hg : g = .restore ∨ g = .supplied) :
      s.Works { s with gapc := { s.gapc with demand := d, state := g }, smon := m } := by
    refine ⟨?_, rfl, rfl, rfl, .inr ⟨by rw [h]; rfl, ?_⟩, .refl _, fun _ => ⟨rfl, rfl⟩, fun _ _ h => h⟩
    · rcases hm with rfl | rfl <;> rfl
    · rcases hg with rfl | rfl <;> rfl
  unfold State.testDemand
  split
  · have := hgap true .restore s.smon (.inl rfl) (.inl rfl)
    rw [← h] at this
    exact this
  · exact (hgap false .supplied (s.smon.watch .supplied) (.inr rfl) (.inr rfl)).trans
      (State.cflu_works _ (s.cflu.setDevice .restoreDone) (FlagUnit.setDevice_masks _ _).1 (FlagUnit.setDevice_masks _ _).2)

theorem State.testDemand_steady (s : State) : s.Steady s.testDemand := by
  unfold State.testDemand
  split
  · exact .of_same rfl rfl fun _ => rfl
  · exact .of_same rfl rfl fun _ => rfl

theorem State.probeDark_steady (s : State) (p : UnitIx → Bool) : s.Steady (s.probeDark p) :=
  State.Steady.foldl _ (fun u t => t.enterProbe_steady u) _ _

/-- Probing DARK units leaves the gap controller as it is. -/
theorem State.gapc_hand (s : State) (u : UnitIx) (ex : Exchange) : (s.hand u ex).gapc = s.gapc := by
  unfold State.hand
  split <;> rfl

theorem State.gapc_enterProbe (s : State) (u : UnitIx) : (s.enterProbe u).gapc = s.gapc := by
  unfold State.enterProbe State.enterProbeWith
  split
  · rfl
  · split
    · exact State.gapc_hand _ _ _
    · rfl

theorem State.gapc_probeDark (s : State) (p : UnitIx → Bool) : (s.probeDark p).gapc = s.gapc := by
  unfold State.probeDark
  generalize allUnits.filter _ = l
  induction l generalizing s with
  | nil => rfl
  | cons u l ih => exact (ih _).trans (s.gapc_enterProbe u)

theorem State.settleEnd_chain (s : State) (h : s.gapc.state = .settle) : State.Chain c s s.settleEnd :=
  ((State.Does.restore s h).chain.tail (.works (State.probeDark_works _ _) (State.probeDark_steady _ _))).tail
    (.works (State.testDemand_works _ (by rw [State.gapc_probeDark]; rfl)) (State.testDemand_steady _))

/-! ### Changes of class -/

/-- A device flag set where `b` holds. -/
theorem State.setDevice_if_does (s : State) (b : Prop) [Decidable b] (f : DeviceFlag) :
    State.Does c s (if b then s.setDevice f else s) := by
  split
  · exact (s.setDevice_works f).does rfl rfl
  · exact (State.Works.refl s).does rfl rfl

theorem perGet_mod_current (p : PerSeg ClassState) (x y : Seg) (k : LineClass) :
    (perGet (perMod p x fun q => { q with current := k }) y).current = if x = y then k else (perGet p y).current := by
  rw [perGet_perMod]
  split <;> rfl

/-- The new class of a segment with its effects (R11, R13). -/
theorem State.takeClass_chain (s : State) (x : Seg) (k : LineClass) : State.Chain c s (s.takeClass x k) := by
  unfold State.takeClass State.classChanged
  simp only [perGet_mod_current, if_true]
  generalize hold : (perGet s.smon.classes x).current = old
  let t : State := { s with smon := { s.smon with classes := perMod s.smon.classes x fun q => { q with current := k } } }
  have hcurrent (h : k.usable = true ∨ old.usable = false) : State.Does c s t := by
    refine .monitor s _ (.inl rfl) (.inl rfl) (fun y hy => ?_) fun h => h
    simp only [perGet_mod_current]
    split
    · next hxy =>
      subst hxy
      rw [hold] at hy
      simpa [hy] using h
    · exact hy
  have hflag := State.setDevice_if_does (c := c) t (k = .openLine ∧ old ≠ .openLine) (.segOpen x)
  have husable : (if k = .openLine ∧ old ≠ .openLine then t.setDevice (.segOpen x) else t).usable x = k.usable := by
    have ht : t.usable x = k.usable := by simp [State.usable, t, perGet_mod_current]
    split
    · exact ht
    · exact ht
  change State.Chain c s (if old.usable == k.usable then _ else _)
  cases ho : old.usable <;> cases hk : k.usable <;> simp only [Bool.and_true, Bool.and_false, Bool.not_true, Bool.not_false,
    Bool.false_eq_true, if_true, if_false, beq_self_eq_true, beq_false, beq_true]
  · exact (hcurrent (.inr ho)).chain.tail hflag
  · exact ((((hcurrent (.inl hk)).chain.tail hflag).trans (State.segmentUsable_chain _ x (husable.trans hk)))).trans
      (State.Works.refl _).chain_settled
  · have hne : ¬(k = .openLine ∧ old ≠ .openLine) := by
      rintro ⟨rfl, -⟩
      simp [LineClass.usable] at hk
    rw [if_neg hne]
    exact (State.Does.down s x k).chain.trans (t.segmentDown_works x).chain_settled
  · exact (hcurrent (.inl hk)).chain.tail hflag

end

end Sys2Proof.Machine

/-! The sample instant, the array accesses, the segment lines and the requests as chains of the named changes. -/

namespace Sys2Proof.Machine

/-! ### One sample instant -/

/-- What a sample leaves of the monitor: the settings, the enables and the current classes; and samples stay in range. -/
structure Monitor.Sampled (m m' : Monitor) : Prop where
  settings : m'.settings = m.settings
  senseOn : m'.senseOn = m.senseOn
  classes : ∀ x, (perGet m'.classes x).current = (perGet m.classes x).current
  line : (∀ v ∈ m.winLine, v ≤ 4095) → ∀ v ∈ m'.winLine, v ≤ 4095
  hold : (∀ v ∈ m.winHold, v ≤ 4095) → ∀ v ∈ m'.winHold, v ≤ 4095
  sense : (∀ x, ∀ v ∈ perGet m.winSense x, v ≤ 4095) → ∀ x, ∀ v ∈ perGet m'.winSense x, v ≤ 4095

theorem Monitor.Sampled.trans {m n r : Monitor} (h : m.Sampled n) (h' : n.Sampled r) : m.Sampled r where
  settings := h'.settings.trans h.settings
  senseOn := h'.senseOn.trans h.senseOn
  classes x := (h'.classes x).trans (h.classes x)
  line hm := h'.line (h.line hm)
  hold hm := h'.hold (h.hold hm)
  sense hm := h'.sense (h.sense hm)

theorem Monitor.supplySample_sampled (m : Monitor) (g : GapState) (line hold : Code) :
    m.Sampled (m.supplySample g line hold).1 :=
  ⟨rfl, rfl, fun _ => rfl, fun h => pushSample_forall_le h (corrected_le line _),
    fun h => pushSample_forall_le h (corrected_le hold _), fun h => h⟩

theorem classStep_current (d : Nat) (q : ClassState) (k : LineClass) : (classStep d q k).1.current = q.current := by
  unfold classStep
  simp only
  split
  · rfl
  · split
    · split <;> rfl
    · split <;> rfl

theorem Monitor.senseSample_sampled (m : Monitor) (x : Seg) (sense : Code) : m.Sampled (m.senseSample x sense).1 := by
  refine ⟨rfl, rfl, fun y => ?_, fun h => h, fun h => h, fun h y => ?_⟩
  · simp only [Monitor.senseSample, perGet_perSet]
    split
    · next hxy =>
      subst hxy
      exact classStep_current _ _ _
    · rfl
  · simp only [Monitor.senseSample, perGet_perSet]
    split
    · exact pushSample_forall_le (h x) (corrected_le sense _)
    · exact h y

theorem State.senseStep_sampled (s : State) (x : Seg) (sense : Code) {m : Monitor} {acc : Monitor × List SupplyEvent}
    (h : m.Sampled acc.1) : m.Sampled (s.senseStep x sense acc).1 := by
  unfold State.senseStep
  split
  · exact h.trans (acc.1.senseSample_sampled x sense)
  · exact h

theorem State.sampleAll_sampled (s : State) (line hold a b d : Code) :
    s.smon.Sampled (s.sampleAll line hold a b d).1 :=
  s.senseStep_sampled _ _ (s.senseStep_sampled _ _ (s.senseStep_sampled _ _ (s.smon.supplySample_sampled _ line hold)))

/-- A SENSE sample raises changes of class alone. -/
theorem State.mem_senseStep {s : State} {x : Seg} {sense : Code} {acc : Monitor × List SupplyEvent} {e : SupplyEvent}
    (h : e ∈ (s.senseStep x sense acc).2) : e ∈ acc.2 ∨ ∃ y k, e = .newClass y k := by
  unfold State.senseStep at h
  split at h
  · rcases List.mem_append.1 h with h | h
    · exact .inl h
    · unfold Monitor.senseSample at h
      simp only at h
      split at h
      · exact .inr ⟨x, _, List.mem_singleton.1 h⟩
      · cases h
  · exact .inl h

/-- HOLD-deep is an event of GAP alone (R9). -/
theorem State.holdDeep_of_sampleAll {s : State} {line hold a b d : Code}
    (h : .holdDeep ∈ (s.sampleAll line hold a b d).2) : s.gapc.state = .gap := by
  have hsupply : .holdDeep ∈ (s.smon.supplySample s.gapc.state line hold).2 := by
    unfold State.sampleAll at h
    have hcls (y : Seg) (k : LineClass) : SupplyEvent.holdDeep ≠ .newClass y k := by simp
    have hstep {x : Seg} {sense : Code} {acc : Monitor × List SupplyEvent}
        (h : SupplyEvent.holdDeep ∈ (s.senseStep x sense acc).2) : SupplyEvent.holdDeep ∈ acc.2 := by
      rcases State.mem_senseStep h with h | ⟨y, k, h⟩
      · exact h
      · exact absurd h (hcls y k)
    exact hstep (hstep (hstep h))
  unfold Monitor.supplySample at hsupply
  simp only [List.mem_append] at hsupply
  by_contra hg
  rw [if_neg hg] at hsupply
  rcases hsupply with ((h | h) | h) | h <;> split at h <;> simp at h

section
variable {c : Instr}

theorem State.smon_sampleAll_does (s : State) (line hold a b d : Code) :
    State.Does c s { s with smon := (s.sampleAll line hold a b d).1 } := by
  have h := s.sampleAll_sampled line hold a b d
  refine .monitor s _ (.inl h.settings) (.inl h.senseOn) (fun x hx => ?_) fun ⟨hl, hh, hw⟩ =>
    ⟨h.line hl, h.hold hh, h.sense hw⟩
  rw [h.classes x]
  exact hx

/-- An event that performs no reset is a chain of the named changes. -/
theorem State.takeEvent_chain (s : State) (e : SupplyEvent) (h : s.resetsAt e = false) : State.Chain c s (s.takeEvent e) := by
  unfold State.takeEvent
  split
  · exact s.gapStart_chain
  · exact s.gapStart_chain
  · next hg => exact s.settleAbort_chain hg
  · next hg => exact s.startSettle_chain (by rw [hg]; rfl)
  · next hg => exact s.startSettle_chain (by rw [hg]; rfl)
  · next hg =>
    rw [s.enterDeep_eq, if_neg (by simpa [State.resetsAt, hg] using h)]
    exact s.deepEntered_chain hg
  · next hg => exact s.enterLost_chain hg
  · exact ((s.setDevice_works .holdLow).does rfl rfl).chain
  · exact s.takeClass_chain _ _
  · exact .refl

theorem State.Works.resetAccepted {s t : State} (h : s.Works t) : t.clnk.resetAccepted = s.clnk.resetAccepted := by
  rw [h.clnk]

theorem State.segmentUsable_clnk (s : State) (x : Seg) : (s.segmentUsable x).clnk = s.clnk := by
  unfold State.segmentUsable
  split
  · exact (State.Works.foldl _ _ (fun u _ t => t.resume_works u) _).clnk
  · rfl

theorem State.takeClass_clnk (s : State) (x : Seg) (k : LineClass) : (s.takeClass x k).clnk = s.clnk := by
  have hchanged (t : State) (old : LineClass) : (t.classChanged x old).clnk = t.clnk := by
    unfold State.classChanged
    simp only
    generalize hq : (if (perGet t.smon.classes x).current = .openLine ∧ old ≠ .openLine then t.setDevice (.segOpen x)
      else t) = q
    have hclnk : q.clnk = t.clnk := by
      rw [← hq]
      split <;> rfl
    split
    · exact ((q.segmentDown_works x).clnk).trans hclnk
    · split
      · exact (q.segmentUsable_clnk x).trans hclnk
      · exact hclnk
  unfold State.takeClass
  simp only
  split
  · exact hchanged _ _
  · exact (State.settled_works _).clnk.trans (hchanged _ _)

/-- No event accepts a RESET or forgets one, but for the one that performs it. -/
theorem State.takeEvent_resetAccepted (s : State) (e : SupplyEvent) (h : s.resetsAt e = false) :
    (s.takeEvent e).clnk.resetAccepted = s.clnk.resetAccepted := by
  unfold State.takeEvent
  split
  · exact (State.reportDemand_works _).resetAccepted
  · exact (State.reportDemand_works _).resetAccepted
  · rfl
  · rfl
  · rfl
  · next hg =>
    rw [s.enterDeep_eq, if_neg (by simpa [State.resetsAt, hg] using h)]
    rfl
  · unfold State.enterLost
    simp only
    rw [s.cutLong_spec]
  · rfl
  · rw [s.takeClass_clnk]
  · rfl

theorem State.pick_clnk (s : State) (n : Nat) : (s.pick n).2.clnk = s.clnk := by
  unfold State.pick
  split <;> rfl

theorem State.pick_chain (s : State) (n : Nat) : State.Chain c s (s.pick n).2 := by
  unfold State.pick
  split
  · exact .refl
  · exact (State.Does.choice s _).chain

theorem State.pick_resetsAt (s : State) (n : Nat) (e : SupplyEvent) : (s.pick n).2.resetsAt e = s.resetsAt e := by
  unfold State.pick
  split <;> rfl

/-- The events of a sample are a chain of the named changes, or end with the reset of an accepted RESET at a HOLD-deep. -/
theorem State.takeEvents_chain (k : Nat) (s : State) (es : List SupplyEvent) :
    State.Chain c s (State.takeEvents k s es) ∨
      .holdDeep ∈ es ∧ s.clnk.resetAccepted = true ∧ ∃ q, State.Chain c s q ∧ State.takeEvents k s es = q.warmReset := by
  induction k generalizing s es with
  | zero => exact .inl .refl
  | succ k ih =>
    unfold State.takeEvents
    have hpick := s.pick_chain (c := c) es.length
    have hclnk := s.pick_clnk es.length
    have hat := s.pick_resetsAt es.length
    generalize s.pick es.length = p at hpick hclnk hat
    simp only
    split
    · exact .inl .refl
    · next e he =>
      have hmem : e ∈ es := List.mem_of_getElem? he
      split
      · next hr =>
        have hr' : p.2.resetsAt e = true := (hat e).trans hr
        simp only [State.resetsAt, Bool.and_eq_true, beq_iff_eq] at hr hr'
        obtain ⟨⟨rfl, hg⟩, ha⟩ := hr'
        refine .inr ⟨hmem, hr.2, p.2.deepEntered, hpick.trans (State.deepEntered_chain _ hg), ?_⟩
        simp only [State.takeEvent, hg]
        rw [State.enterDeep_eq, if_pos ha]
      · next hr =>
        have hr' : p.2.resetsAt e = false := (hat e).trans (by simpa using hr)
        have hchain := (hpick.trans (p.2.takeEvent_chain e hr')).tail (State.Does.permits _)
        rcases ih (p.2.takeEvent e).recomputePermits (es.eraseIdx p.1) with h | ⟨hd, ha, q, hq, ht⟩
        · exact .inl (hchain.trans h)
        · refine .inr ⟨List.mem_of_mem_eraseIdx hd, ?_, q, hchain.trans hq, ht⟩
          have := p.2.takeEvent_resetAccepted e hr'
          rw [hclnk] at this
          exact this ▸ ha

/-- MONITOR_SAMPLE's reach. -/
theorem State.monitorSample_reaches (s : State) (line hold a b d : Code)
    (hc : c = .monitorSample line hold a b d) : State.Reaches c s (s.monitorSample line hold a b d).finish := by
  unfold State.monitorSample
  simp only
  rcases State.takeEvents_chain (c := c) (s.sampleAll line hold a b d).2.length
    { s with smon := (s.sampleAll line hold a b d).1 } (s.sampleAll line hold a b d).2 with h | ⟨hd, ha, q, hq, ht⟩
  · exact State.Chain.reaches_finish ((State.smon_sampleAll_does s line hold a b d).chain.trans h)
  · rw [ht]
    refine ⟨q, (State.smon_sampleAll_does s line hold a b d).chain.trans hq, .inr ⟨?_, _, _, _,
      (State.ended_finish _).trans (State.ended_finish _)⟩⟩
    exact .inr (.inr (.inr (.inl ⟨⟨line, hold, a, b, d, hc⟩, State.holdDeep_of_sampleAll hd, ha⟩)))

end

end Sys2Proof.Machine

/-! The array accesses, the segment lines and the requests as chains of the named changes; and every command with them. -/

namespace Sys2Proof.Machine

section
variable {c : Instr}

/-! ### Array accesses (R46 to R50, R199) -/

/-- A long request that completes makes at most one reply owed, where there is a place (R194). -/
theorem State.completeLong_does (s : State) (l : LongRequest) (st : Status) : State.Does c s (s.completeLong l st) := by
  refine .clnk s _ ?_
  split
  · simp
  · split
    · simp only [List.length_append, List.length_singleton]
      omega
    · simp

theorem State.continueLong_does (s : State) (l : LongRequest) (w : LongWork) : State.Does c s (s.continueLong l w) :=
  .clnk s _ (by simp)

theorem State.slotRun?_spec {s : State} {k : SlotIx} {t : Nat} {i : SlotInfo} (h : s.slotRun? k t = some i) :
    (s.slot k).info? = some i ∧ i.first + t < 512 := by
  unfold State.slotRun? at h
  obtain ⟨hi, ht⟩ := Option.filter_eq_some_iff.1 h
  exact ⟨hi, of_decide_eq_true ht⟩

/-- A block written by the access that ends. -/
theorem State.writeBlock_does (s : State) (b : Nat) (bytes : List Byte) (hp : s.ims.port = some .longRequest) (hb : b < 512) :
    State.Does c s (({ s with ims := { s.ims with port := none } } : State).writeBlock b bytes) :=
  .write s _ s.cfgr hp fun h => Memory.wf_writeBlock bytes h hb

theorem State.seng_does (s : State) (w : Option Window) : State.Does c s { s with seng := w } :=
  (s.seng_works w).does rfl rfl

/-- The state with the port free, from which an access ends. -/
def State.portFree (s : State) : State :=
  { s with ims := { s.ims with port := none } }

@[simp] theorem State.slot_portFree (s : State) (k : SlotIx) : s.portFree.slot k = s.slot k := rfl

theorem State.portFree_chain (s : State) : State.Chain c s s.portFree :=
  (State.Does.port s).chain

theorem State.dataWritten_chain (s : State) (l : LongRequest) (k : SlotIx) (t : Nat) (i : SlotInfo) (cursor : Nat)
    (written : List Nat) (bytes : List Byte) (hp : s.ims.port = some .longRequest) (hk : s.slot k = .loading i cursor written)
    (ht : i.first + t < 512) : State.Chain c s (s.portFree.dataWritten l k t i written bytes) :=
  ((s.writeBlock_does (i.first + t) bytes hp ht).chain.tail
    (.declared _ k i cursor written (.loading i (t + 1) (insertRising written t)) hk rfl)).tail
    (State.completeLong_does _ l _)

theorem State.closeDone_chain (s : State) (l : LongRequest) (k : SlotIx) (i : SlotInfo) (cursor : Nat)
    (written : List Nat) (crc : Crc32) (filled : Nat) (hk : s.slot k = .loading i cursor written) :
    State.Chain c s (s.closeDone l k i crc filled) := by
  unfold State.closeDone
  split
  · exact ((State.Does.declared s k i cursor written (.valid i) hk rfl).chain.tail (State.completeLong_does _ l _)).tail
      (.settled (.refl _))
  · exact (State.Does.declared s k i cursor written (.damaged i .mismatch) hk rfl).chain.tail (State.completeLong_does _ l _)

theorem State.closeAccess_chain (s : State) (l : LongRequest) (k : SlotIx) (i : SlotInfo) (cursor : Nat)
    (written fill : List Nat) (filled scanned : Nat) (crc : Crc32) (hp : s.ims.port = some .longRequest)
    (hk : s.slot k = .loading i cursor written) (ht : i.first + fill.headD scanned < 512) :
    State.Chain c s (s.portFree.closeAccess l k i fill filled scanned crc) := by
  unfold State.closeAccess
  split
  · exact (s.writeBlock_does _ _ hp ht).chain.tail (State.continueLong_does _ l _)
  · simp only
    split
    · exact s.portFree_chain.tail (State.continueLong_does _ l _)
    · exact s.portFree_chain.trans (State.closeDone_chain _ l k i cursor written _ filled hk)

theorem State.eraseDone_chain (s : State) (l : LongRequest) (k : SlotIx) : State.Chain c s (s.eraseDone l k) := by
  unfold State.eraseDone
  split
  · exact (s.completeLong_does l _).chain
  · next h => exact (State.Does.emptied s k (by simpa using h)).chain.tail (State.completeLong_does _ l _)

/-- The record written by the access that ends. -/
theorem State.recordWritten_chain (s : State) (r : ConfigRecord) (hp : s.ims.port = some .longRequest) :
    State.Chain c s { s.portFree with cfgr := some r } :=
  (State.Does.write s s.ims.mem (some r) hp fun h => h).chain

theorem State.longAccess_chain (s : State) (l : LongRequest) {t : State} (hp : s.ims.port = some .longRequest)
    (h : s.portFree.longAccess l = some t) : State.Chain c s t := by
  unfold State.longAccess at h
  split at h
  · next k b bytes _ =>
    split at h
    · next i cursor written j hk hj =>
      obtain ⟨hi, hb⟩ := State.slotRun?_spec hj
      rw [hk] at hi
      obtain rfl := Option.some.inj hi
      obtain rfl := Option.some.inj h
      exact s.dataWritten_chain l k b _ cursor written bytes hp hk hb
    · cases h
  · next k fill filled scanned crc _ =>
    split at h
    · next i cursor written j hk hj =>
      obtain ⟨hi, hb⟩ := State.slotRun?_spec hj
      rw [hk] at hi
      obtain rfl := Option.some.inj hi
      obtain rfl := Option.some.inj h
      exact s.closeAccess_chain l k _ cursor written fill filled scanned crc hp hk hb
    · cases h
  · obtain rfl := Option.some.inj h
    exact s.portFree_chain.trans (State.eraseDone_chain _ l _)
  · obtain rfl := Option.some.inj h
    exact (s.recordWritten_chain _ hp).tail (State.continueLong_does _ l _)
  · obtain rfl := Option.some.inj h
    refine ((s.recordWritten_chain _ hp).tail (.clnk _ { s.clnk with saved := true } ?_)).tail
      (State.completeLong_does _ l _)
    exact Nat.le_max_right _ _
  · obtain rfl := Option.some.inj h
    exact s.portFree_chain

theorem Link.handPart_keeps (l : Link) (w : WindowPart) :
    (l.handPart w).halted = l.halted ∧ (l.handPart w).yieldOn = l.yieldOn := by
  unfold Link.handPart
  simp only
  split <;> exact ⟨rfl, rfl⟩

theorem State.handPart_works (s : State) (w : Window) (x : Seg) : s.Works (s.handPart w x) := by
  unfold State.handPart
  split
  · exact .refl s
  · exact s.onLink_works x _ fun l => l.handPart_keeps _

theorem State.carryWindow_works (s : State) (w : Window) : s.Works (s.carryWindow w) :=
  (s.seng_works _).trans ((State.Works.foldl _ _ (fun x _ t => t.handPart_works _ x) _).trans (State.endWindow_works _))

theorem State.bufferBlock_chain (s : State) (w : Window) (bytes : List Byte) : State.Chain c s (s.bufferBlock w bytes) := by
  unfold State.bufferBlock
  simp only
  split
  · exact (s.seng_does _).chain
  · exact (s.carryWindow_works _).chain_settled

theorem State.accessDone_chain (s : State) (r : Requester) {t : State} (hp : s.ims.port = some r)
    (h : s.portFree.accessDone r = some t) : State.Chain c s t := by
  cases r with
  | stream =>
    simp only [State.accessDone, State.streamAccess] at h
    split at h
    · obtain rfl := Option.some.inj h
      exact s.portFree_chain
    · split at h
      · obtain rfl := Option.some.inj h
        exact s.portFree_chain
      · obtain ⟨i, -, rfl⟩ := Option.map_eq_some_iff.1 h
        exact s.portFree_chain.trans (State.bufferBlock_chain _ _ _)
  | longRequest =>
    simp only [State.accessDone] at h
    split at h
    · obtain rfl := Option.some.inj h
      exact s.portFree_chain
    · exact s.longAccess_chain _ hp h

/-! ### Segment lines (R80 to R90) -/

theorem State.partAnswer_chain (s : State) (x : Seg) (f : InFlight) (a : Option AnswerBody) :
    State.Chain c s (s.partAnswer x f a) := by
  unfold State.partAnswer
  simp only
  split
  · next o rest _ => exact (s.seng_does _).chain.tail (State.onLink_does _ x (·.send f.exchange o rest))
  · exact (s.seng_does _).chain.trans ((State.endExchange_works _ x).trans (State.endPart_works _ x)).chain_settled

theorem State.sequenceAnswer_chain (s : State) (x : Seg) (f : InFlight) (u : UnitIx) (a : Option AnswerBody) :
    State.Chain c s (s.sequenceAnswer x f u a) := by
  unfold State.sequenceAnswer
  split
  · exact (s.onLink_does x _).chain
  · exact ((s.endExchange_works x).trans (State.contextOutcome_works _ u _)).chain_settled

theorem State.waitEnded_chain (s : State) (x : Seg) (a : Option AnswerBody) : State.Chain c s (s.waitEnded x a) := by
  unfold State.waitEnded
  split
  · exact .refl
  · split
    · exact (s.onLink_does x _).chain
    · split
      · exact (s.onLink_does x _).chain
      · split
        · exact s.partAnswer_chain x _ a
        · exact s.sequenceAnswer_chain x _ _ a
        · exact ((s.endExchange_works x).trans (State.unitOutcome_works _ _ a)).chain_settled

theorem State.frameSent_chain (s : State) (x : Seg) : State.Chain c s (s.frameSent x) := by
  unfold State.frameSent
  split
  · exact .refl
  · split
    · exact .refl
    · split
      · exact (s.onLink_does x _).chain
      · split
        · exact (s.onLink_does x _).chain
        · exact ((s.endExchange_works x).trans (State.endPart_works _ x)).chain_settled

theorem State.frameDiscarded_chain (s : State) (x : Seg) : State.Chain c s (s.frameDiscarded x) := by
  unfold State.frameDiscarded
  split
  · exact s.waitEnded_chain x none
  · exact .refl

theorem State.clearSegRx_chain (s : State) (x : Seg) : State.Chain c s (s.clearSegRx x) :=
  (s.onLink_does x _).chain

theorem State.pollTimerDue_chain (s : State) (u : UnitIx) : State.Chain c s (s.pollTimerDue u) := by
  unfold State.pollTimerDue
  split
  · exact .refl
  · split
    · exact (State.Does.works (s.pollDueNow_works u) (s.pollDueNow_steady u)).chain
    · exact .refl

theorem State.setVerify_steady (s : State) (u : UnitIx) (v : VerifyRecord) : s.Steady (s.setVerify u v) :=
  s.modUnit_steady u _

theorem State.verifyPollDue_chain (s : State) (u : UnitIx) : State.Chain c s (s.verifyPollDue u) := by
  unfold State.verifyPollDue
  split
  · split
    · split
      · exact (State.Does.works ((s.setVerify_works u _).trans (State.hand_works _ u _))
          ((s.setVerify_steady u _).trans (State.hand_steady _ u _))).chain
      · exact .refl
    · exact .refl
  · exact .refl

theorem State.verifyDeadline_chain (s : State) (u : UnitIx) : State.Chain c s (s.verifyDeadline u) := by
  unfold State.verifyDeadline
  split
  · next e v _ _ =>
    split
    · split
      · have hstop := (State.Does.works (c := c) (s.setVerify_works u { v with pollDue := none }) (s.setVerify_steady u _)).chain.tail
          (State.onLink_does _ e.decl.seg (·.dropVerifyPoll u))
        simp only
        split
        · exact hstop
        · exact hstop.trans (State.verifyFault_works _ u _).chain_settled
      · exact .refl
    · exact .refl
  · exact .refl

end

end Sys2Proof.Machine

/-! The requests as chains of the named changes, and every command with them. -/

namespace Sys2Proof.Machine

section
variable {c : Instr}

/-- A chain of the named changes that leaves the owed replies. -/
def State.Quiet (c : Instr) (s t : State) : Prop :=
  State.Chain c s t ∧ t.clnk.owed = s.clnk.owed

theorem State.Quiet.refl {s : State} : State.Quiet c s s :=
  ⟨.refl, rfl⟩

theorem State.Quiet.trans {s t r : State} (h : State.Quiet c s t) (h' : State.Quiet c t r) : State.Quiet c s r :=
  ⟨Relation.ReflTransGen.trans h.1 h'.1, h'.2.trans h.2⟩

theorem State.Does.quiet {s t : State} (h : State.Does c s t) (ho : t.clnk.owed = s.clnk.owed) : State.Quiet c s t :=
  ⟨h.chain, ho⟩

theorem State.Works.quiet_settled {s t : State} (h : s.Works t) : State.Quiet c s t.settled :=
  ⟨h.chain_settled, by rw [t.settled_works.clnk, h.clnk]⟩

/-! ### Settings -/

theorem perGet_refilled {α : Type} (x : Seg) : perGet (⟨[], [], []⟩ : PerSeg (List α)) x = [] := by
  cases x <;> rfl

theorem Monitor.apply_classes (m : Monitor) (new : MonitorSettings) (x : Seg) :
    (perGet (m.apply new).classes x).current = (perGet m.classes x).current := by
  unfold Monitor.apply
  simp only
  split <;> split <;> cases x <;> rfl

theorem Monitor.apply_windows (m : Monitor) (new : MonitorSettings) :
    (m.apply new).winLine = (if new.n ≠ m.settings.n then [] else m.winLine) ∧
      (m.apply new).winHold = (if new.n ≠ m.settings.n then [] else m.winHold) ∧
      (m.apply new).winSense = if new.n ≠ m.settings.n then ⟨[], [], []⟩ else m.winSense := by
  unfold Monitor.apply
  simp only
  split <;> split <;> exact ⟨rfl, rfl, rfl⟩

theorem Monitor.apply_senseOn (m : Monitor) (new : MonitorSettings) : (m.apply new).senseOn = m.senseOn := by
  unfold Monitor.apply
  simp only
  split <;> split <;> rfl

theorem State.setMonitorWork_quiet (s : State) (p : List Byte) (hc : ∃ tag p, c = .setMonitor tag p) :
    State.Quiet c s (s.setMonitorWork p).1 := by
  unfold State.setMonitorWork
  simp only
  split
  · exact .refl
  · refine (State.Does.monitor s _ (.inr hc) (.inl (Monitor.apply_senseOn _ _)) (fun x hx => ?_) ?_).quiet rfl
    · rw [Monitor.apply_classes]
      exact hx
    · obtain ⟨hline, hhold, hsense⟩ := s.smon.apply_windows (monitorOf p)
      intro ⟨hl, hh, hs⟩
      refine ⟨?_, ?_, fun x => ?_⟩
      · simp only [hline]
        split
        · simp
        · exact hl
      · simp only [hhold]
        split
        · simp
        · exact hh
      · simp only [hsense]
        split
        · simp [perGet_refilled]
        · exact hs x

theorem State.timingOf_does (s : State) (p : List Byte) (hc : ∃ tag p, c = .setTiming tag p) :
    State.Does c s (s.applyTiming (timingOf p)) := by
  refine .timing s _ hc ?_ ?_
  · simp only [timingOf, clamp]
    omega
  · simp only [timingOf, clamp]
    omega

theorem State.setPermitWork_quiet (s : State) (p : List Byte) (hc : ∃ tag p, c = .setPermitEnable tag p) :
    State.Quiet c s (s.setPermitWork p).1 := by
  unfold State.setPermitWork
  split
  · exact .refl
  · exact .refl
  · exact ⟨(State.Does.enable s _ hc).chain.tail (.permits _), rfl⟩

theorem State.setSense_quiet (s : State) (x : Seg) (v : Bool) (hc : ∃ tag p, c = .setSegment tag p) :
    State.Quiet c s (s.setSense x v) := by
  unfold State.setSense
  split
  · exact .refl
  · split
    · refine (State.Does.monitor s (s.smon.senseTurnedOn x) (.inl rfl) (.inr hc) (fun _ h => h) fun ⟨hl, hh, hs⟩ =>
        ⟨hl, hh, fun y => ?_⟩).quiet rfl
      simp only [Monitor.senseTurnedOn, perGet_perSet]
      split
      · simp
      · exact hs y
    · have husable (y : Seg) (h : (perGet s.smon.classes y).current.usable = true) :
          (perGet (s.smon.senseTurnedOff x).classes y).current.usable = true := by
        simp only [Monitor.senseTurnedOff, perGet_perSet]
        split
        · rfl
        · exact h
      have hoff := (State.Does.monitor s (s.smon.senseTurnedOff x) (.inl rfl) (.inr hc) husable fun h => h).quiet rfl
      simp only
      split
      · exact hoff
      · refine hoff.trans (.trans ⟨State.segmentUsable_chain _ x ?_, by rw [State.segmentUsable_clnk]⟩ (State.Works.refl _).quiet_settled)
        simp [State.usable, Monitor.senseTurnedOff, ClassState.initial, LineClass.usable]

theorem State.setSegmentWork_quiet (s : State) (p : List Byte) (hc : ∃ tag p, c = .setSegment tag p) :
    State.Quiet c s (s.setSegmentWork p).1 := by
  unfold State.setSegmentWork
  split
  · exact .refl
  · exact .refl
  · exact .refl
  · exact (s.setSense_quiet _ _ hc).trans ((State.Does.yield _ _ _ hc).quiet rfl)

theorem State.startLong_quiet (s : State) (kind tag : Byte) (w : LongWork) : State.Quiet c s (s.startLong kind tag w).1 :=
  (State.Does.clnk s { s.clnk with long := some ⟨kind, tag, w, false⟩ } (Nat.le_max_right _ _)).quiet rfl

/-! ### Image requests -/

theorem runFrom_le (ok : Nat → Bool) (n b : Nat) : runFrom ok n b ≤ n := by
  induction n generalizing b with
  | zero => exact Nat.le_refl 0
  | succ n ih =>
    unfold runFrom
    split
    · exact Nat.succ_le_succ (ih _)
    · exact Nat.zero_le _

theorem State.imageOpenWork_quiet (s : State) (p : List Byte) : State.Quiet c s (s.imageOpenWork p).1 := by
  unfold State.imageOpenWork
  split
  · exact .refl
  · exact .refl
  · next k q _ _ =>
    split
    · exact .refl
    · next hlen =>
      obtain ⟨h1, h2⟩ : 1 ≤ u8 p 6 ∧ u8 p 6 ≤ 128 := by simpa [Nat.one_le_iff_ne_zero] using hlen
      split
      · exact .refl
      · split
        · exact .refl
        · next huse =>
          split
          · exact .refl
          · split
            · exact .refl
            · next f hf => exact (State.Does.opened s k (openedInfo p q f) (by simpa using huse) h1 h2 hf).quiet rfl

theorem State.imageDataWork_quiet (s : State) (tag : Byte) (p : List Byte) : State.Quiet c s (s.imageDataWork tag p).1 := by
  unfold State.imageDataWork
  split
  · exact .refl
  · split
    · split
      · exact s.startLong_quiet _ _ _
      · exact .refl
    · exact .refl

theorem State.imageCloseWork_quiet (s : State) (tag : Byte) (p : List Byte) : State.Quiet c s (s.imageCloseWork tag p).1 := by
  unfold State.imageCloseWork
  split
  · exact .refl
  · split
    · exact s.startLong_quiet _ _ _
    · exact .refl

theorem State.imageEraseWork_quiet (s : State) (tag : Byte) (p : List Byte) : State.Quiet c s (s.imageEraseWork tag p).1 := by
  unfold State.imageEraseWork
  split
  · exact .refl
  · split
    · exact .refl
    · split
      · exact .refl
      · exact s.startLong_quiet _ _ _

/-! ### Requests that name units -/

theorem State.defineWork_quiet (s : State) (p : List Byte) : State.Quiet c s (s.defineWork p).1 := by
  unfold State.defineWork
  split
  · exact .refl
  · split
    · exact .refl
    · split
      · exact .refl
      · split
        · exact .refl
        · split
          · split
            · exact .refl
            · exact (s.define_works _).quiet_settled
          · exact (s.define_works _).quiet_settled

theorem State.forceWork_quiet (s : State) (p : List Byte) : State.Quiet c s (s.forceWork p).1 := by
  unfold State.forceWork
  split
  · exact (State.Works.foldl _ _ (fun u _ t => t.force_works u) _).quiet_settled
  · refine State.onUnit_cases (P := fun a => State.Quiet c s a.1) (fun _ => .refl) fun u e _ => ?_
    split
    · exact (s.force_works u).quiet_settled
    · exact .refl

theorem State.isolateWork_quiet (s : State) (p : List Byte) : State.Quiet c s (s.isolateWork p).1 :=
  State.onUnit_cases (P := fun a => State.Quiet c s a.1) (fun _ => .refl) fun u e _ => by
    split
    · exact .refl
    · exact ((s.withdraw_works u).trans (State.move_works _ u .isolated id)).quiet_settled

theorem State.admitWork_quiet (s : State) (p : List Byte) : State.Quiet c s (s.admitWork p).1 :=
  State.onUnit_cases (P := fun a => State.Quiet c s a.1) (fun _ => .refl) fun u e _ => by
    split
    · exact (s.readmit_works u).quiet_settled
    · exact .refl

theorem State.resolveWork_quiet (s : State) (p : List Byte) : State.Quiet c s (s.resolveWork p).1 :=
  State.onUnit_cases (P := fun a => State.Quiet c s a.1) (fun _ => .refl) fun u e _ => by
    split
    · exact .refl
    · split
      · exact .refl
      · exact (s.resolveAs_works u e _).quiet_settled

theorem State.releaseWork_quiet (s : State) (p : List Byte) : State.Quiet c s (s.releaseWork p).1 :=
  State.onUnit_cases (P := fun a => State.Quiet c s a.1) (fun _ => .refl) fun u e _ => by
    split
    · exact (State.Does.works (s.modUnit_works u _) (s.modUnit_steady u _)).quiet rfl
    · exact .refl

theorem State.contextWriteWork_quiet (s : State) (p : List Byte) : State.Quiet c s (s.contextWriteWork p).1 :=
  State.onUnit_cases (P := fun a => State.Quiet c s a.1) (fun _ => .refl) fun u e _ => by
    split
    · exact .refl
    · split
      · exact .refl
      · split
        · exact .refl
        · exact ((s.putCtx_works u _).does rfl rfl).quiet rfl

theorem State.clearUnitFlags_quiet (s : State) (u : UnitIx) (mask : BitVec 13) : State.Quiet c s (s.clearUnitFlags u mask) :=
  .trans (t := s.modUnit u fun e => { e with flags := e.flags &&& ~~~mask })
    ((State.Does.works (s.modUnit_works u _) (s.modUnit_steady u _)).quiet rfl)
    (((State.cflu_works (s.modUnit u _) (s.cflu.forgetUnit u mask) rfl rfl).does rfl rfl).quiet rfl)

theorem State.clearFlagsWork_quiet (s : State) (p : List Byte) : State.Quiet c s (s.clearFlagsWork p).1 := by
  unfold State.clearFlagsWork
  split
  · exact .refl
  · exact .refl
  · simp only [okay, State.clearNamed]
    refine .trans (t := { s with cflu := s.cflu.clearDevice (deviceMask p) })
      (((s.cflu_works (s.cflu.clearDevice (deviceMask p)) rfl rfl).does rfl rfl).quiet rfl) ?_
    generalize ({ s with cflu := s.cflu.clearDevice (deviceMask p) } : State) = t
    generalize unitMasks p = l
    induction l generalizing t with
    | nil => exact .refl
    | cons q l ih => exact (t.clearUnitFlags_quiet q.1 q.2).trans (ih _)

/-! ### The control link's frames that are no requests, and the transmitter -/

theorem ControlLink.takePlace_owed (k : ControlLink) : k.takePlace.owed.length ≤ max 4 k.owed.length := by
  unfold ControlLink.takePlace
  split
  · split
    · split
      · simp only [List.length_append, List.length_singleton]
        omega
      · exact Nat.le_max_right _ _
    · exact Nat.le_max_right _ _
  · exact Nat.le_max_right _ _

theorem State.transmitDone_reaches (s : State) (hc : c = .transmitDone) : State.Reaches c s s.transmitDone := by
  unfold State.transmitDone
  simp only
  split
  · next htx =>
    have hchain : State.Chain c s
        { s with clnk := ({ s.clnk with tx := none, owed := s.clnk.owed.drop 1 } : ControlLink).takePlace } := by
      refine (State.Does.clnk s _ (Nat.le_trans (ControlLink.takePlace_owed _) ?_)).chain
      simp only [List.length_drop]
      omega
    split
    · next hr =>
      simp only [Bool.and_eq_true, beq_iff_eq] at hr
      exact hchain.reaches_warmReset (.inr (.inr (.inl ⟨hc, htx, hr.1, hr.2⟩)))
    · exact hchain.reaches_finish
  · exact State.Chain.reaches_finish (State.Does.clnk s { s.clnk with tx := none } (Nat.le_max_right _ _)).chain

/-! ### The outputs under RESET and without power -/

theorem State.powerLoss_chain (s : State) :
    State.Chain c s
      ({ s.cutLong with
          powered := false
          gapc := { s.cutLong.gapc with
            state := if s.cutLong.gapc.state = .lost then .gap else s.cutLong.gapc.state } } : State).silence := by
  refine Relation.ReflTransGen.tail ?_ (.silence _)
  refine (State.Does.cut s).chain.trans ?_
  generalize s.cutLong = t
  have hoff := (State.Does.supply (c := c) t false t.resetLow).chain
  split
  · next hg => exact hoff.tail (.gap _ { t.gapc with state := .gap } (by change t.gapc.state.carries = false; rw [hg]; rfl))
  · exact hoff

theorem State.reaches_ite {s : State} {b : Prop} [Decidable b] {p q : State} (hp : b → State.Reaches c s p)
    (hq : ¬b → State.Reaches c s q) : State.Reaches c s (if b then p else q) := by
  split
  · next h => exact hp h
  · next h => exact hq h

theorem State.reaches_self (s : State) : State.Reaches c s s :=
  State.Chain.reaches .refl

theorem State.resetLineReleased_reaches (s : State) (hc : c = .resetLineReleased) :
    State.Reaches c s
      (if s.resetLow && s.powered then
        if s.gapc.state = .lost then ({ s with resetLow := false } : State).coldStart true
        else ({ s with resetLow := false } : State).warmReset
      else { s with resetLow := false }) := by
  have hoff : State.Chain c s { s with resetLow := false } := (State.Does.supply s s.powered false).chain
  refine State.reaches_ite (fun h => ?_) fun _ => hoff.reaches
  simp only [Bool.and_eq_true] at h
  have hr : s.Resets c := .inr (.inl ⟨hc, h.2, h.1⟩)
  exact State.reaches_ite (fun _ => hoff.reaches_coldStart hr true) fun _ => hoff.reaches_warmReset hr

theorem State.comparatorSample_reaches (s : State) (line : Code) (hc : c = .lineComparatorSample line)
    (hg : s.gapc.state = .lost) : State.Reaches c s (s.comparatorSample line) := by
  unfold State.comparatorSample
  simp only
  refine State.reaches_ite (fun _ => ?_) fun _ => ?_
  · exact State.Chain.reaches_coldStart .refl (.inr (.inr (.inr (.inr ⟨⟨line, hc⟩, hg⟩)))) true
  · have hstep (n : Nat) : State.Does c s { s with smon := { s.smon with lineBack := n } } :=
      .monitor s _ (.inl rfl) (.inl rfl) (fun _ h => h) fun h => h
    exact (hstep _).chain.reaches

/-! ### Every command -/

/-- Every command reaches its end through the named changes. -/
theorem exec_reaches (c : Instr) (s t : State) (h : exec c s = .next t) : State.Reaches c s t := by
  have hrunning {q : State} (hq : State.Chain c s q) : State.Reaches c s (if s.running then q.finish else s) :=
    State.reaches_ite (fun _ => hq.reaches_finish) fun _ => s.reaches_self
  have hrequest {kind tag : Byte} {query : Bool} {p : List Byte} {need : Option (BitVec 16)} {act : State → Answer}
      (ha : State.Quiet c s (act s).1) (h : (.next (s.request kind tag query p need act) : Host.Outcome State Fault Refusal) = .next t) :
      State.Reaches c s t := by
    injection h with h
    exact h ▸ s.request_reaches kind tag query p need act ha.1 ha.2
  cases c with
  | arrayAccessDone =>
    simp only [exec, execArrayAccessDone] at h
    split at h
    · injection h with h
      exact h ▸ s.reaches_self
    · split at h
      · injection h with h
        exact h ▸ s.reaches_self
      · next r hr =>
        split at h
        · cases h
        · next q hq =>
          injection h with h
          exact h ▸ (s.accessDone_chain r hr hq).reaches_finishAfter _
  | powerApplied =>
    injection h with h
    exact h ▸ (State.Does.supply s true s.resetLow).chain.reaches_coldStart (.inl rfl) false
  | resetLineAsserted =>
    injection h with h
    exact h ▸ State.Chain.reaches ((State.Does.supply s s.powered true).chain.tail (.silence _))
  | resetLineReleased =>
    injection h with h
    exact h ▸ s.resetLineReleased_reaches rfl
  | powerLoss =>
    injection h with h
    exact h ▸ s.powerLoss_chain.reaches
  | monitorSample line hold a b d =>
    injection h with h
    exact h ▸ State.reaches_ite (fun _ => s.monitorSample_reaches line hold a b d rfl) fun _ => s.reaches_self
  | lineComparatorSample line =>
    injection h with h
    refine h ▸ State.reaches_ite (fun hg => ?_) fun _ => s.reaches_self
    simp only [Bool.and_eq_true, beq_iff_eq] at hg
    exact s.comparatorSample_reaches line rfl hg.2
  | tick =>
    injection h with h
    refine h ▸ State.Chain.reaches ?_
    split
    · exact (State.Does.tick s rfl).chain
    · exact .refl
  | settleExpiry =>
    injection h with h
    refine h ▸ State.reaches_ite (fun hg => (s.settleEnd_chain ?_).reaches_finish) fun _ => s.reaches_self
    simp only [Bool.and_eq_true, State.settleDue] at hg
    revert hg
    split
    · next hs _ _ => exact fun _ => hs
    · simp
  | segmentFrameSent x =>
    injection h with h
    exact h ▸ hrunning (s.frameSent_chain x)
  | segmentAnswer x a =>
    injection h with h
    refine h ▸ State.reaches_ite (fun _ => s.reaches_self) fun _ => State.reaches_ite (fun _ => ?_) fun _ => ?_
    · exact State.Chain.reaches_finish ((s.clearSegRx_chain x).trans (State.waitEnded_chain _ x _))
    · exact (s.frameDiscarded_chain x).reaches_finish
  | answerTimeout x =>
    injection h with h
    exact h ▸ State.reaches_ite (fun _ => (s.waitEnded_chain x none).reaches_finish) fun _ => s.reaches_self
  | segmentBytePause x =>
    injection h with h
    exact h ▸ hrunning ((s.clearSegRx_chain x).trans (State.frameDiscarded_chain _ x))
  | segmentFrameDiscarded x =>
    injection h with h
    exact h ▸ hrunning (s.frameDiscarded_chain x)
  | pollTimerDue u =>
    injection h with h
    exact h ▸ hrunning (s.pollTimerDue_chain u)
  | verifyPollDue u =>
    injection h with h
    exact h ▸ hrunning (s.verifyPollDue_chain u)
  | verifyDeadline u =>
    injection h with h
    exact h ▸ hrunning (s.verifyDeadline_chain u)
  | controlBytePause =>
    injection h with h
    exact h ▸ State.reaches_ite (fun _ => (State.Does.clnk s { s.clnk with rx := [] } (Nat.le_max_right _ _)).chain.reaches)
      fun _ => s.reaches_self
  | controlFrameBad =>
    injection h with h
    exact h ▸ s.reaches_self
  | replyKindFrameDiscarded kind tag =>
    injection h with h
    exact h ▸ s.reaches_self
  | unknownKind kind tag =>
    injection h with h
    refine h ▸ State.reaches_ite (fun _ => s.reaches_self) fun hd => (State.Does.clnk s _ ?_).chain.reaches_finish
    simp only [State.discards, Bool.or_eq_true, decide_eq_true_eq, not_or, not_le] at hd
    simp only [List.length_append, List.length_singleton]
    omega
  | transmitDone =>
    injection h with h
    exact h ▸ State.reaches_ite (fun _ => s.transmitDone_reaches rfl) fun _ => s.reaches_self
  | setMonitor tag p => exact hrequest (s.setMonitorWork_quiet p ⟨tag, p, rfl⟩) h
  | setTiming tag p =>
    refine hrequest ((s.timingOf_does p ⟨tag, p, rfl⟩).quiet ?_) h
    unfold State.applyTiming
    simp only
    split <;> rfl
  | setMasks tag p => exact hrequest ((State.Does.masks s (responseMasksOf p) (alertMaskOf p) ⟨tag, p, rfl⟩).quiet rfl) h
  | setPermitEnable tag p => exact hrequest (s.setPermitWork_quiet p ⟨tag, p, rfl⟩) h
  | setSegment tag p => exact hrequest (s.setSegmentWork_quiet p ⟨tag, p, rfl⟩) h
  | defineUnit tag p => exact hrequest (s.defineWork_quiet p) h
  | removeUnit tag p =>
    refine hrequest ?_ h
    exact State.onUnit_cases (P := fun a => State.Quiet _ s a.1) (fun _ => .refl) fun u _ _ => (s.remove_works u).quiet_settled
  | saveConfig tag p =>
    refine hrequest ?_ h
    split
    · exact s.startLong_quiet _ _ _
    · exact .refl
  | imageOpen tag p => exact hrequest (s.imageOpenWork_quiet p) h
  | imageData tag p => exact hrequest (s.imageDataWork_quiet tag p) h
  | imageClose tag p => exact hrequest (s.imageCloseWork_quiet tag p) h
  | imageErase tag p => exact hrequest (s.imageEraseWork_quiet tag p) h
  | forceRestore tag p => exact hrequest (s.forceWork_quiet p) h
  | isolate tag p => exact hrequest (s.isolateWork_quiet p) h
  | admitUnit tag p => exact hrequest (s.admitWork_quiet p) h
  | resolve tag p => exact hrequest (s.resolveWork_quiet p) h
  | releaseUnit tag p => exact hrequest (s.releaseWork_quiet p) h
  | contextWrite tag p => exact hrequest (s.contextWriteWork_quiet p) h
  | clearFlags tag p => exact hrequest (s.clearFlagsWork_quiet p) h
  | reset tag p =>
    exact hrequest ((State.Does.clnk s { s.clnk with resetAccepted := true } (Nat.le_max_right _ _)).quiet rfl) h
  | queryStatus tag p | queryMonitor tag p | queryStreams tag p => exact hrequest .refl h
  | queryUnit tag p | querySlot tag p | queryContext tag p =>
    refine hrequest ?_ h
    split <;> exact .refl

end

end Sys2Proof.Machine

/-! What every command keeps: a property is kept where the named changes, the end of a command and the rebuild keep it. -/

namespace Sys2Proof.Machine

/-! ### Keeping a property along a command -/

theorem State.Chain.keeps {c : Instr} {P : State → Prop} {s t : State} (h : State.Chain c s t) (hs : P s)
    (does : ∀ a b, State.Does c a b → P a → P b) : P t := by
  induction h with
  | refl => exact hs
  | tail _ hb ih => exact does _ _ hb ih

theorem State.Ended.keeps {P : State → Prop} {s t : State} (h : State.Ended s t) (hs : P s)
    (ends : ∀ a b, State.Ends a b → P a → P b) : P t := by
  induction h with
  | refl => exact hs
  | tail _ hb ih => exact ends _ _ hb ih

theorem exec_keeps {c : Instr} {P : State → Prop} {s t : State} (h : exec c s = .next t) (hs : P s)
    (does : ∀ a b, State.Does c a b → P a → P b) (ends : ∀ a b, State.Ends a b → P a → P b)
    (rebuild : ∀ a n ctxs l, P a → P (a.cutLong.rebuild n ctxs l)) : P t := by
  obtain ⟨q, hq, h | ⟨-, n, ctxs, l, h⟩⟩ := exec_reaches c s t h
  · exact State.Ended.keeps h (hq.keeps hs does) ends
  · exact State.Ended.keeps h (rebuild _ _ _ _ (hq.keeps hs does)) ends

/-- A law that reads nothing of the queue is kept by every step where every command keeps it. -/
theorem step_keeps {P : State → Prop} (hexec : ∀ c s t, exec c s = .next t → P s → P t)
    (hqueue : ∀ s rest, P s → P { s with pending := rest }) {s t : State} (h : step s = .next t) (hs : P s) : P t := by
  unfold step at h
  split at h
  · cases h
    exact hs
  · exact hexec _ _ _ h (hqueue _ _ hs)

/-! ### The queue -/

theorem State.Works.pending {s t : State} (h : s.Works t) : t.pending = s.pending := by
  rw [h.frame]

theorem State.pending_cutLong (s : State) : s.cutLong.pending = s.pending := by
  rw [s.cutLong_spec]

theorem State.Does.pending {c : Instr} {s t : State} (h : State.Does c s t) : t.pending = s.pending := by
  cases h with
  | works h _ => exact h.pending
  | settled h => exact (State.settleStreams_works _).pending.trans h.pending
  | cut => exact s.pending_cutLong
  | timing =>
    unfold State.applyTiming
    simp only
    split <;> rfl
  | _ => rfl

theorem exec_pending {c : Instr} {s t : State} (h : exec c s = .next t) : t.pending = s.pending := by
  refine exec_keeps (P := fun a => a.pending = s.pending) h rfl (fun _ _ hd ha => hd.pending.trans ha) (fun _ _ he ha => ?_)
    fun a _ _ _ ha => a.pending_cutLong.trans ha
  rw [he.same]
  exact ha

/-- Settles O1: a step's second clause is its definition, and no named change of a command touches the queue. -/
theorem stepRunsTheFrontCommand : Obligations.StepRunsTheFrontCommand := by
  refine ⟨fun c rest s h => ?_, fun c s t => exec_pending⟩
  unfold step
  rw [h]

/-! ### The image array and the windows (R2, R3, R38) -/

theorem State.MemoryLaw.cutLong {s : State} (h : s.MemoryLaw) : s.cutLong.MemoryLaw := by
  unfold State.cutLong
  cases s.cutBlock? with
  | none => exact h
  | some b =>
    simp only [Option.map_some, Option.getD_some, State.spoilBlock]
    split
    · next hb => exact Memory.wf_writeBlock _ h hb
    · exact h

theorem State.Does.memoryLaw {c : Instr} {s t : State} (h : State.Does c s t) (hs : s.MemoryLaw) : t.MemoryLaw := by
  cases h with
  | works h _ =>
    unfold State.MemoryLaw
    rw [h.ims]
    exact hs
  | settled h =>
    unfold State.MemoryLaw
    rw [(State.settleStreams_works _).ims, h.ims]
    exact hs
  | cut => exact hs.cutLong
  | write m r _ hm => exact hm hs
  | timing =>
    unfold State.applyTiming
    simp only
    split <;> exact hs
  | _ => exact hs

theorem exec_memoryLaw {c : Instr} {s t : State} (h : exec c s = .next t) (hs : s.MemoryLaw) : t.MemoryLaw := by
  refine exec_keeps h hs (fun _ _ => State.Does.memoryLaw) (fun _ _ he ha => ?_) fun _ _ _ _ ha => ha.cutLong
  rw [he.same]
  exact ha

/-- The windows of `t` are those of `s`. -/
theorem State.WindowLaw.of_same {s t : State} (h : s.WindowLaw) (hl : t.smon.winLine = s.smon.winLine)
    (hh : t.smon.winHold = s.smon.winHold) (hs : t.smon.winSense = s.smon.winSense) : t.WindowLaw := by
  unfold State.WindowLaw
  rw [hl, hh, hs]
  exact h

theorem State.Works.windowLaw {s t : State} (h : s.Works t) (hs : s.WindowLaw) : t.WindowLaw :=
  hs.of_same (by rw [h.frame]) (by rw [h.frame]) (by rw [h.frame])

theorem State.Does.windowLaw {c : Instr} {s t : State} (h : State.Does c s t) (hs : s.WindowLaw) : t.WindowLaw := by
  cases h with
  | works h _ => exact h.windowLaw hs
  | settled h => exact (State.settleStreams_works _).windowLaw (h.windowLaw hs)
  | cut =>
    rw [s.cutLong_spec]
    exact hs
  | monitor m _ _ _ hm => exact hm hs
  | timing =>
    unfold State.applyTiming
    simp only
    split <;> exact hs
  | _ => exact hs

theorem State.rebuild_windowLaw (s : State) (n : Nat) (ctxs : Vector ContextRecord 24) (l : List DeviceFlag) :
    (s.rebuild n ctxs l).WindowLaw := by
  have hw (x : Seg) : perGet (s.rebuild n ctxs l).smon.winSense x = [] := perGet_refilled x
  refine ⟨fun v hv => ?_, fun v hv => ?_, fun x v hv => ?_⟩
  · cases hv
  · cases hv
  · rw [hw] at hv
    cases hv

theorem exec_windowLaw {c : Instr} {s t : State} (h : exec c s = .next t) (hs : s.WindowLaw) : t.WindowLaw := by
  refine exec_keeps h hs (fun _ _ => State.Does.windowLaw) (fun _ _ he ha => ?_) fun a _ _ _ _ => State.rebuild_windowLaw _ _ _ _
  rw [he.same]
  exact ha

/-- Settles O2: a block is written inside the array in its canonical form, and only corrected samples enter a window. -/
theorem everyStepKeepsMemoryAndWindowLaw : Obligations.EveryStepKeepsMemoryAndWindowLaw := fun _ _ h =>
  ⟨step_keeps (fun _ _ _ => exec_memoryLaw) (fun _ _ h => h) h, step_keeps (fun _ _ _ => exec_windowLaw) (fun _ _ h => h) h⟩

/-! ### The stack and the owed replies (R113, R194) -/

/-- The slots of the records, the active one first. -/
def Scheduler.slots (c : Scheduler) : List SlotIx :=
  (c.active.toList ++ c.stack).map (·.slot)

/-- The law of the stack, of the records alone. -/
def Scheduler.Stacked (c : Scheduler) : Prop :=
  c.stack.length ≤ 4 ∧ c.slots.Nodup

theorem State.stackLaw_iff (s : State) : s.StackLaw ↔ s.rsch.Stacked := Iff.rfl

theorem Scheduler.mem_slots {c : Scheduler} {k : SlotIx} : k ∈ c.slots ↔ c.hasSlot k = true := by
  simp [Scheduler.slots, Scheduler.hasSlot, Option.any_eq_true]

theorem Scheduler.Evolves.stacked {slot : SlotIx → Slot} {c d : Scheduler} (h : Scheduler.Evolves slot c d)
    (hc : c.Stacked) : d.Stacked := by
  induction h with
  | refl => exact hc
  | trans _ _ ih ih' => exact ih' (ih hc)
  | marks => exact hc
  | active ha he =>
    obtain ⟨hlen, hnd⟩ := hc
    refine ⟨hlen, ?_⟩
    simpa [Scheduler.slots, ha, he.1] using hnd
  | stack c f hf =>
    obtain ⟨hlen, hnd⟩ := hc
    refine ⟨by simpa using hlen, ?_⟩
    have hslot : (fun r : StreamRecord => r.slot) ∘ f = fun r => r.slot := funext fun r => (hf r).1
    simpa [Scheduler.slots, hslot] using hnd
  | thin c p =>
    obtain ⟨hlen, hnd⟩ := hc
    refine ⟨Nat.le_trans (List.length_filter_le _ _) hlen, hnd.sublist ?_⟩
    exact ((List.Sublist.refl _).append List.filter_sublist).map _
  | free c =>
    obtain ⟨hlen, hnd⟩ := hc
    refine ⟨hlen, hnd.sublist ?_⟩
    exact (List.sublist_append_right c.active.toList c.stack).map _
  | push ha hl =>
    obtain ⟨-, hnd⟩ := hc
    refine ⟨by simpa using Nat.succ_le_of_lt hl, ?_⟩
    simpa [Scheduler.slots, ha] using hnd
  | pop ha hs =>
    obtain ⟨hlen, hnd⟩ := hc
    rw [hs] at hlen
    refine ⟨Nat.le_of_succ_le hlen, ?_⟩
    simpa [Scheduler.slots, ha, hs] using hnd
  | @form c r i ha hno _ _ _ =>
    obtain ⟨hlen, hnd⟩ := hc
    refine ⟨hlen, ?_⟩
    have hmem : r.slot ∉ c.slots := fun h => by
      rw [Scheduler.mem_slots, hno] at h
      cases h
    simp only [Scheduler.slots, ha, Option.toList_none, List.nil_append] at hnd hmem
    simp only [Scheduler.slots, Option.toList_some, List.singleton_append, List.map_cons, List.nodup_cons]
    exact ⟨hmem, hnd⟩

theorem Scheduler.stacked_empty : Scheduler.Stacked { active := none, stack := [], marks := [] } :=
  ⟨Nat.zero_le 4, List.nodup_nil⟩

theorem State.rsch_cutLong (s : State) : s.cutLong.rsch = s.rsch := by
  rw [s.cutLong_spec]

/-- The recomputation of the window sizes, where SET_TIMING makes one, is work of the records. -/
theorem State.applyTiming_records (s : State) (t : TimingSettings) :
    Scheduler.Evolves s.slot s.rsch (s.applyTiming t).rsch := by
  unfold State.applyTiming
  simp only
  split
  · exact (State.refreshWidths_works { s with timing := t }).records
  · exact .refl _

theorem State.Does.stackLaw {c : Instr} {s t : State} (h : State.Does c s t) (hs : s.StackLaw) : t.StackLaw := by
  cases h with
  | works h _ => exact h.records.stacked hs
  | settled h => exact (State.settleStreams_works _).records.stacked (h.records.stacked hs)
  | cut =>
    rw [State.stackLaw_iff, s.rsch_cutLong]
    exact hs
  | gapStart => exact Scheduler.stacked_empty
  | timing => exact (s.applyTiming_records _).stacked hs
  | _ => exact hs

theorem exec_stackLaw {c : Instr} {s t : State} (h : exec c s = .next t) (hs : s.StackLaw) : t.StackLaw := by
  refine exec_keeps h hs (fun _ _ => State.Does.stackLaw) (fun _ _ he ha => ?_) fun _ _ _ _ _ => Scheduler.stacked_empty
  rw [he.same]
  exact ha

theorem State.Does.owedLaw {c : Instr} {s t : State} (h : State.Does c s t) (hs : s.OwedLaw) : t.OwedLaw := by
  cases h with
  | works h _ =>
    unfold State.OwedLaw
    rw [h.clnk]
    exact hs
  | settled h =>
    unfold State.OwedLaw
    rw [(State.settleStreams_works _).clnk, h.clnk]
    exact hs
  | clnk k hk => exact Nat.le_trans hk (Nat.max_le.2 ⟨Nat.le_refl 4, hs⟩)
  | cut =>
    rw [s.cutLong_spec]
    exact hs
  | timing =>
    unfold State.applyTiming
    simp only
    split <;> exact hs
  | _ => exact hs

theorem exec_owedLaw {c : Instr} {s t : State} (h : exec c s = .next t) (hs : s.OwedLaw) : t.OwedLaw := by
  refine exec_keeps h hs (fun _ _ => State.Does.owedLaw) (fun _ _ he ha => ?_) fun _ _ _ _ _ => Nat.zero_le 4
  rw [he.same]
  exact ha

/-- Settles O4: records join the stack below its limit and are formed for a slot without one; replies become owed below
the limit. -/
theorem everyStepKeepsStackAndOwedLaw : Obligations.EveryStepKeepsStackAndOwedLaw := fun _ _ hs ho h =>
  ⟨step_keeps (fun _ _ _ => exec_stackLaw) (fun _ _ h => h) h hs, step_keeps (fun _ _ _ => exec_owedLaw) (fun _ _ h => h) h ho⟩

end Sys2Proof.Machine

/-! The laws of ALERT, of the links and of the stream records under every command. -/

namespace Sys2Proof.Machine

/-! ### ALERT (R185) -/

theorem State.alertLaw_iff (s : State) : s.AlertLaw ↔ s.cflu.alert = s.alertLevel := by
  unfold State.AlertLaw
  rw [← s.alertLevel_iff]
  exact Bool.eq_iff_iff.symm

/-- How a command leaves the outputs: recomputed at its end, fallen with the part stopped, or with nothing moved that ALERT
follows from. -/
def State.Closes (s t : State) : Prop :=
  (∃ q, State.Ends q t) ∨ (∃ q : State, q.running = false ∧ t = q.silence) ∨
    t.running = s.running ∧ t.gapc.state = s.gapc.state ∧ t.cflu = s.cflu

theorem State.Closes.rest {s t : State} (hr : t.running = s.running) (hg : t.gapc.state = s.gapc.state)
    (hc : t.cflu = s.cflu) : s.Closes t :=
  .inr (.inr ⟨hr, hg, hc⟩)

theorem State.Closes.same (s : State) : s.Closes s :=
  .rest rfl rfl rfl

theorem State.closes_finishAfter (s q : State) (last : Option Requester) : s.Closes (q.finishAfter last) :=
  .inl ⟨q, q.ends_finishAfter last⟩

theorem State.closes_finish (s q : State) : s.Closes q.finish :=
  s.closes_finishAfter q none

theorem State.closes_coldStart (s q : State) (lost : Bool) : s.Closes (q.coldStart lost) :=
  s.closes_finish _

theorem State.closes_warmReset (s q : State) : s.Closes q.warmReset :=
  s.closes_finish _

theorem State.closes_ite {s p q : State} {b : Prop} [Decidable b] (hp : b → s.Closes p) (hq : ¬b → s.Closes q) :
    s.Closes (if b then p else q) := by
  split
  · next h => exact hp h
  · next h => exact hq h

theorem exec_closes {c : Instr} {s t : State} (h : exec c s = .next t) : s.Closes t := by
  cases c with
  | powerApplied =>
    cases h
    exact s.closes_coldStart _ _
  | resetLineAsserted =>
    cases h
    exact .inr (.inl ⟨{ s with resetLow := true }, by simp [State.running], rfl⟩)
  | powerLoss =>
    cases h
    exact .inr (.inl ⟨_, rfl, rfl⟩)
  | resetLineReleased =>
    cases h
    refine State.closes_ite (fun _ => State.closes_ite (fun _ => s.closes_coldStart _ _) fun _ => s.closes_warmReset _)
      fun hidle => .rest ?_ rfl rfl
    cases hr : s.resetLow
    · simp [State.running, hr]
    · simp [hr] at hidle
      simp [State.running, hidle]
  | arrayAccessDone =>
    simp only [exec, execArrayAccessDone] at h
    split at h
    · cases h
      exact .same s
    · split at h
      · cases h
        exact .same s
      · split at h
        · cases h
        · cases h
          exact s.closes_finishAfter _ _
  | lineComparatorSample line =>
    cases h
    refine State.closes_ite (fun _ => ?_) fun _ => .same s
    unfold State.comparatorSample
    simp only
    exact State.closes_ite (fun _ => s.closes_coldStart _ _) fun _ => .rest rfl rfl rfl
  | transmitDone =>
    cases h
    refine State.closes_ite (fun _ => ?_) fun _ => .same s
    unfold State.transmitDone
    split
    · exact State.closes_ite (fun _ => s.closes_warmReset _) fun _ => s.closes_finish _
    · exact s.closes_finish _
  | controlBytePause =>
    cases h
    exact State.closes_ite (fun _ => .rest rfl rfl rfl) fun _ => .same s
  | tick | controlFrameBad | replyKindFrameDiscarded =>
    cases h
    exact .rest rfl rfl rfl
  | segmentAnswer =>
    cases h
    exact State.closes_ite (fun _ => .same s) fun _ => State.closes_ite (fun _ => s.closes_finish _) fun _ => s.closes_finish _
  | unknownKind =>
    cases h
    exact State.closes_ite (fun _ => .same s) fun _ => s.closes_finish _
  | monitorSample | settleExpiry | segmentFrameSent | answerTimeout | segmentBytePause | pollTimerDue | verifyPollDue
  | verifyDeadline | segmentFrameDiscarded =>
    cases h
    exact State.closes_ite (fun _ => s.closes_finish _) fun _ => .same s
  | setMonitor | setTiming | setMasks | setPermitEnable | setSegment | defineUnit | removeUnit | saveConfig | imageOpen
  | imageData | imageClose | imageErase | forceRestore | isolate | admitUnit | resolve | releaseUnit | contextWrite
  | clearFlags | reset | queryStatus | queryMonitor | queryUnit | querySlot | queryStreams | queryContext =>
    cases h
    exact State.closes_ite (fun _ => .same s) fun _ => s.closes_finish _

theorem exec_alertLaw {c : Instr} {s t : State} (h : exec c s = .next t) (hs : s.AlertLaw) : t.AlertLaw := by
  rcases exec_closes h with ⟨q, hq⟩ | ⟨q, hq, rfl⟩ | ⟨hr, hg, hc⟩
  · exact hq.alert
  · rw [State.alertLaw_iff]
    have hoff : q.silence.running = false := hq
    rw [State.alertLevel, hoff]
    rfl
  · rw [State.alertLaw_iff] at hs ⊢
    simp only [State.alertLevel, hr, hg, hc] at hs ⊢
    exact hs

/-! ### The links (R78) -/

theorem State.linkLaw_iff (s : State) : s.LinkLaw ↔ ∀ x, (perGet s.links x).halted = false → s.serves x = true := by
  simp only [State.LinkLaw, State.serves, Bool.and_eq_true, GapState.carries_iff]
  exact forall_congr' fun x => imp_congr_right fun _ => and_comm

/-- The law of one link holds where the link is halted or was running, and the segment serves still. -/
theorem State.LinkLaw.of_halted {s t : State} (hs : s.LinkLaw)
    (h : ∀ x, (perGet t.links x).halted = true ∨
      (perGet t.links x).halted = (perGet s.links x).halted ∧ (s.serves x = true → t.serves x = true) ∨
      t.serves x = true) : t.LinkLaw := by
  rw [State.linkLaw_iff] at hs ⊢
  intro x hx
  rcases h x with h | ⟨h, hv⟩ | h
  · rw [h] at hx
    cases hx
  · exact hv (hs x (h ▸ hx))
  · exact h

theorem State.Works.linkLaw {s t : State} (h : s.Works t) (hs : s.LinkLaw) : t.LinkLaw :=
  hs.of_halted fun x => .inr (.inl ⟨(h.links x).1, fun hv => (h.serves x).trans hv⟩)

/-- All three links halted. -/
theorem perGet_halt (p : PerSeg Link) (x : Seg) : perGet (⟨p.a.halt, p.b.halt, p.c.halt⟩ : PerSeg Link) x = (perGet p x).halt := by
  cases x <;> rfl

theorem Link.setYield_halted (l : Link) (v : Bool) : (l.setYield v).halted = l.halted := by
  unfold Link.setYield
  split
  · rfl
  · split
    · simp only
      split <;> rfl
    · rfl

theorem State.perGet_onLink (s : State) (x y : Seg) (f : Link → Link) :
    perGet (s.onLink x f).links y = if x = y then f (perGet s.links y) else perGet s.links y :=
  perGet_perMod s.links x y f

theorem State.Does.linkLaw {c : Instr} {s t : State} (h : State.Does c s t) (hs : s.LinkLaw) : t.LinkLaw := by
  cases h with
  | works h _ => exact h.linkLaw hs
  | settled h => exact (State.settleStreams_works _).linkLaw (h.linkLaw hs)
  | monitor m _ _ hm _ =>
    refine hs.of_halted fun x => .inr (.inl ⟨rfl, fun hv => ?_⟩)
    simp only [State.serves, State.usable, Bool.and_eq_true] at hv ⊢
    exact ⟨hv.1, hm x hv.2⟩
  | down x k =>
    refine hs.of_halted fun y => ?_
    simp only [State.perGet_onLink]
    by_cases hxy : x = y
    · subst hxy
      exact .inl (by simp [Link.halt])
    · refine .inr (.inl ⟨by simp [hxy], fun hv => ?_⟩)
      simp only [State.serves, State.usable, State.onLink, perGet_mod_current, if_neg hxy, Bool.and_eq_true] at hv ⊢
      exact hv
  | start x hv =>
    refine hs.of_halted fun y => ?_
    simp only [State.perGet_onLink]
    by_cases hxy : x = y
    · subst hxy
      exact .inr (.inr hv)
    · exact .inr (.inl ⟨by simp [hxy], id⟩)
  | gap g hg =>
    refine hs.of_halted fun x => .inr (.inl ⟨rfl, fun hv => ?_⟩)
    simp [State.serves, hg] at hv
  | gapStart =>
    refine hs.of_halted fun x => .inl ?_
    have := perGet_halt s.links x
    simp only [State.gapStart, this]
    rfl
  | restore hg =>
    refine hs.of_halted fun x => ?_
    simp only [State.enterRestore, State.ageAll, perGet_perOf]
    split
    · next hu => exact .inr (.inr (Bool.and_eq_true_iff.2 ⟨rfl, hu⟩))
    · refine .inr (.inl ⟨rfl, fun hv => ?_⟩)
      simp [State.serves, hg, GapState.carries] at hv
  | silence =>
    refine hs.of_halted fun x => .inl ?_
    have := perGet_halt s.links x
    simp only [State.silence, this]
    rfl
  | cut =>
    rw [s.cutLong_spec]
    exact hs
  | timing =>
    unfold State.applyTiming
    simp only
    split <;> exact hs
  | yield x v _ =>
    refine hs.of_halted fun y => .inr (.inl ⟨?_, id⟩)
    simp only [State.perGet_onLink]
    split
    · exact Link.setYield_halted _ _
    · rfl
  | _ => exact hs

theorem State.rebuild_linkLaw (s : State) (n : Nat) (ctxs : Vector ContextRecord 24) (l : List DeviceFlag) :
    (s.rebuild n ctxs l).LinkLaw := by
  intro x hx
  have hhalted : (perGet (s.rebuild n ctxs l).links x).halted = true := by cases x <;> rfl
  rw [hhalted] at hx
  cases hx

theorem State.Ends.linkLaw {s t : State} (h : State.Ends s t) (hs : s.LinkLaw) : t.LinkLaw := by
  refine hs.of_halted fun x => .inr (.inl ⟨?_, fun hv => ?_⟩)
  · rw [h.links x]
    exact (Link.arbitrate_spec _ _).1
  · rw [h.same]
    exact hv

theorem exec_linkLaw {c : Instr} {s t : State} (h : exec c s = .next t) (hs : s.LinkLaw) : t.LinkLaw :=
  exec_keeps h hs (fun _ _ => State.Does.linkLaw) (fun _ _ => State.Ends.linkLaw) fun _ _ _ _ _ => State.rebuild_linkLaw _ _ _ _

/-- Settles O5: ALERT follows its law wherever a command recomputes it or stops the part, and a link runs only from the start of
its segment. -/
theorem everyStepKeepsAlertAndLinkLaw : Obligations.EveryStepKeepsAlertAndLinkLaw := fun _ _ h =>
  ⟨step_keeps (fun _ _ _ => exec_alertLaw) (fun _ _ h => h) h, step_keeps (fun _ _ _ => exec_linkLaw) (fun _ _ h => h) h⟩

/-! ### The stream records (R41, R114, R133) -/

/-- A record's slot is VALID with its length, and its members owe blocks below it. -/
def StreamRecord.Sound (slot : SlotIx → Slot) (r : StreamRecord) : Prop :=
  ∃ i, slot r.slot = .valid i ∧ r.len = i.len ∧ ∀ m ∈ r.members, ∀ b ∈ m.owed, b < r.len

/-- Every record is sound. -/
def Scheduler.Sound (slot : SlotIx → Slot) (c : Scheduler) : Prop :=
  (∀ r, c.active = some r → r.Sound slot) ∧ ∀ r ∈ c.stack, r.Sound slot

theorem State.streamLaw_iff (s : State) : s.StreamLaw ↔ s.rsch.Sound s.slot := by
  simp only [State.StreamLaw, State.records, Scheduler.Sound, StreamRecord.Sound, List.mem_append, Option.mem_toList, or_imp,
    forall_and]

theorem StreamRecord.EditedTo.sound {slot : SlotIx → Slot} {r r' : StreamRecord} (h : r.EditedTo r') (hr : r.Sound slot) :
    r'.Sound slot := by
  obtain ⟨hslot, hlen, ho⟩ := h
  obtain ⟨i, hi, hl, hm⟩ := hr
  refine ⟨i, hslot ▸ hi, hlen.trans hl, fun m hm' b hb => ?_⟩
  rw [hlen]
  exact ho hm m hm' b hb

theorem Scheduler.Evolves.sound {slot : SlotIx → Slot} {c d : Scheduler} (h : Scheduler.Evolves slot c d)
    (hc : c.Sound slot) : d.Sound slot := by
  induction h with
  | refl => exact hc
  | trans _ _ ih ih' => exact ih' (ih hc)
  | marks => exact hc
  | active ha he => exact ⟨fun r hr => Option.some.inj hr ▸ he.sound (hc.1 _ ha), hc.2⟩
  | stack c f hf =>
    refine ⟨hc.1, fun r hr => ?_⟩
    obtain ⟨q, hq, rfl⟩ := List.mem_map.1 hr
    exact (hf q).sound (hc.2 q hq)
  | thin => exact ⟨hc.1, fun r hr => hc.2 r (List.mem_filter.1 hr).1⟩
  | free => exact ⟨fun r hr => (by cases hr), hc.2⟩
  | push ha _ =>
    refine ⟨fun r hr => (by cases hr), fun r hr => ?_⟩
    rcases List.mem_cons.1 hr with rfl | hr
    · exact hc.1 _ ha
    · exact hc.2 r hr
  | pop ha hs =>
    refine ⟨fun r hr => Option.some.inj hr ▸ hc.2 _ (hs ▸ List.mem_cons_self), fun r hr => hc.2 r ?_⟩
    rw [hs]
    exact List.mem_cons_of_mem _ hr
  | @form c r i _ _ hi hl hm =>
    refine ⟨fun q hq => ?_, hc.2⟩
    obtain rfl := Option.some.inj hq
    exact ⟨i, hi, hl, by simp [hm]⟩

theorem State.Works.streamLaw {s t : State} (h : s.Works t) (hs : s.StreamLaw) : t.StreamLaw := by
  rw [State.streamLaw_iff] at hs ⊢
  rw [show t.slot = s.slot from funext h.slot]
  exact h.records.sound hs

/-- A slot that no record has changes freely. -/
theorem State.StreamLaw.putSlot {s : State} (hs : s.StreamLaw) (k : SlotIx) (v : Slot) (hk : ∀ r ∈ s.records, r.slot ≠ k) :
    (s.putSlot k v).StreamLaw := by
  intro r hr
  obtain ⟨i, hi, h⟩ := hs r hr
  refine ⟨i, ?_, h⟩
  rw [State.slot_putSlot, if_neg (Ne.symm (hk r hr))]
  exact hi

theorem State.ne_slot_of_not_inUse {s : State} {k : SlotIx} (h : s.inUse k = false) : ∀ r ∈ s.records, r.slot ≠ k := by
  intro r hr hk
  have hmem : k ∈ s.rsch.slots := List.mem_map.2 ⟨r, hr, hk⟩
  rw [Scheduler.mem_slots] at hmem
  simp [State.inUse, hmem] at h

theorem State.streamLaw_of_no_records {s : State} (h : s.records = []) : s.StreamLaw := by
  intro r hr
  rw [h] at hr
  cases hr

theorem State.Does.streamLaw {c : Instr} {s t : State} (h : State.Does c s t) (hs : s.StreamLaw) : t.StreamLaw := by
  cases h with
  | works h _ => exact h.streamLaw hs
  | settled h => exact (State.settleStreams_works _).streamLaw (h.streamLaw hs)
  | gapStart => exact State.streamLaw_of_no_records rfl
  | cut =>
    rw [s.cutLong_spec]
    exact hs
  | declared k i cursor written v hk _ =>
    refine hs.putSlot k v fun r hr hrk => ?_
    obtain ⟨j, hj, -⟩ := hs r hr
    rw [hrk, hk] at hj
    cases hj
  | emptied k hk => exact hs.putSlot k _ (State.ne_slot_of_not_inUse hk)
  | opened k i hk => exact hs.putSlot k _ (State.ne_slot_of_not_inUse hk)
  | timing t =>
    rw [State.streamLaw_iff] at hs ⊢
    have hslot : (s.applyTiming t).slot = s.slot := by
      unfold State.applyTiming
      simp only
      split <;> rfl
    rw [hslot]
    exact (s.applyTiming_records t).sound hs
  | _ => exact hs

theorem exec_streamLaw {c : Instr} {s t : State} (h : exec c s = .next t) (hs : s.StreamLaw) : t.StreamLaw := by
  refine exec_keeps h hs (fun _ _ => State.Does.streamLaw) (fun _ _ he ha => ?_) fun _ _ _ _ _ => State.streamLaw_of_no_records rfl
  rw [he.same]
  exact ha

/-- Settles O6: a slot that has a record is neither LOADING nor free to be opened or erased, so that its record's slot stands. -/
theorem everyStepKeepsStreamLaw : Obligations.EveryStepKeepsStreamLaw := fun _ _ hs h =>
  step_keeps (fun _ _ _ => exec_streamLaw) (fun _ _ h => h) h hs

end Sys2Proof.Machine

/-! Allocation by first fit (R38, R39, R44), the window sizes (R120), and what no command moves but by its own request. -/

namespace Sys2Proof.Machine

/-! ### First fit (R44) -/

/-- Every block of [f, f + n) is inside the array and allowed. -/
def RunAt (ok : Nat → Bool) (f n : Nat) : Prop :=
  f + n ≤ 512 ∧ ∀ b, f ≤ b → b < f + n → ok b = true

theorem runAt_zero (ok : Nat → Bool) {f : Nat} (hf : f ≤ 512) : RunAt ok f 0 :=
  ⟨hf, fun b h h' => absurd h' (by omega)⟩

theorem runAt_succ (ok : Nat → Bool) (f n : Nat) : RunAt ok f (n + 1) ↔ f < 512 ∧ ok f = true ∧ RunAt ok (f + 1) n := by
  constructor
  · rintro ⟨hlen, hb⟩
    exact ⟨by omega, hb f (Nat.le_refl f) (by omega), by omega, fun b h h' => hb b (by omega) (by omega)⟩
  · rintro ⟨-, hf, hlen, hb⟩
    refine ⟨by omega, fun b h h' => ?_⟩
    rcases Nat.eq_or_lt_of_le h with rfl | h
    · exact hf
    · exact hb b h (by omega)

/-- The search from `f` finds its whole length exactly where a run of that length begins. -/
theorem runFrom_eq_iff (ok : Nat → Bool) (n f : Nat) (hf : f ≤ 512) : runFrom ok n f = n ↔ RunAt ok f n := by
  induction n generalizing f with
  | zero => exact iff_of_true rfl (runAt_zero ok hf)
  | succ n ih =>
    rw [runAt_succ]
    have hgoes : (decide (f < Config.blockCount) && ok f) = true ↔ f < 512 ∧ ok f = true := by
      rw [Bool.and_eq_true, decide_eq_true_iff]
      rfl
    unfold runFrom
    by_cases h : f < 512 ∧ ok f = true
    · rw [if_pos (hgoes.2 h), Nat.succ_inj, ih (f + 1) h.1]
      exact ⟨fun hr => ⟨h.1, h.2, hr⟩, fun hr => hr.2.2⟩
    · rw [if_neg fun h' => h (hgoes.1 h')]
      exact iff_of_false (Nat.succ_ne_zero n).symm fun hr => h ⟨hr.1, hr.2.1⟩

theorem RunAt.start_lt {ok : Nat → Bool} {f n : Nat} (h : RunAt ok f n) (hn : 1 ≤ n) : f < 512 := by
  have := h.1
  omega

theorem firstFit_eq_some_iff (ok : Nat → Bool) {len : Nat} (hlen : 1 ≤ len) (f : Nat) :
    firstFit ok len = some f ↔ RunAt ok f len ∧ ∀ g, g < f → ¬RunAt ok g len := by
  unfold firstFit
  rw [List.find?_range_eq_some]
  constructor
  · rintro ⟨hr, hf, hg⟩
    have hf' : f < 512 := List.mem_range.1 hf
    simp only [beq_iff_eq, runFrom_eq_iff ok len f hf'.le] at hr
    refine ⟨hr, fun g hgf hrun => ?_⟩
    have := hg g hgf
    simp [(runFrom_eq_iff ok len g (by omega)).2 hrun] at this
  · rintro ⟨hr, hg⟩
    have hf := hr.start_lt hlen
    refine ⟨by simp [(runFrom_eq_iff ok len f hf.le).2 hr], List.mem_range.2 hf, fun g hgf => ?_⟩
    simpa [runFrom_eq_iff ok len g (by omega)] using hg g hgf

theorem firstFit_eq_none_iff (ok : Nat → Bool) {len : Nat} (hlen : 1 ≤ len) :
    firstFit ok len = none ↔ ∀ f, ¬RunAt ok f len := by
  unfold firstFit
  simp only [List.find?_eq_none, List.mem_range, beq_iff_eq]
  constructor
  · intro h f hr
    have hf := hr.start_lt hlen
    exact h f hf ((runFrom_eq_iff ok len f hf.le).2 hr)
  · intro h f hf hr
    exact h f ((runFrom_eq_iff ok len f (Nat.le_of_lt hf)).1 hr)

/-! ### The longest run (R44, R53) -/

/-- What the count over the blocks below `m` holds: the length of the run that ends at `m`, and the longest so far. -/
structure Counted (ok : Nat → Bool) (m : Nat) (acc : Nat × Nat) : Prop where
  here : ∀ n, n ≤ acc.1 ↔ n ≤ m ∧ ∀ b, m - n ≤ b → b < m → ok b = true
  best : ∀ n, n ≤ acc.2 ↔ ∃ f, f + n ≤ m ∧ ∀ b, f ≤ b → b < f + n → ok b = true

/-- One block more. -/
def countBlock (ok : Nat → Bool) (acc : Nat × Nat) (b : Nat) : Nat × Nat :=
  if ok b then (acc.1 + 1, max acc.2 (acc.1 + 1)) else (0, acc.2)

theorem counted_zero (ok : Nat → Bool) : Counted ok 0 (0, 0) where
  here n := ⟨fun h => ⟨h, fun b _ h => absurd h (Nat.not_lt_zero b)⟩, fun h => h.1⟩
  best n :=
    ⟨fun h => ⟨0, by omega, fun b _ h' => absurd h' (by omega)⟩, fun ⟨f, h, _⟩ => by omega⟩

theorem Counted.succ {ok : Nat → Bool} {m : Nat} {acc : Nat × Nat} (h : Counted ok m acc) :
    Counted ok (m + 1) (countBlock ok acc m) := by
  unfold countBlock
  split
  · next hm =>
    have hhere : ∀ n, n ≤ acc.1 + 1 ↔ n ≤ m + 1 ∧ ∀ b, m + 1 - n ≤ b → b < m + 1 → ok b = true := by
      intro n
      cases n with
      | zero => exact iff_of_true (Nat.zero_le _) ⟨Nat.zero_le _, fun b h h' => absurd h' (by omega)⟩
      | succ n =>
        rw [Nat.succ_le_succ_iff, h.here n, Nat.succ_le_succ_iff, Nat.succ_sub_succ]
        refine and_congr_right fun _ => ⟨fun hb b h1 h2 => ?_, fun hb b h1 h2 => hb b h1 (by omega)⟩
        rcases Nat.lt_or_eq_of_le (Nat.le_of_lt_succ h2) with h2 | rfl
        · exact hb b h1 h2
        · exact hm
    refine ⟨hhere, fun n => ?_⟩
    constructor
    · intro hn
      rcases le_max_iff.1 hn with hn | hn
      · obtain ⟨f, hf, hb⟩ := (h.best n).1 hn
        exact ⟨f, by omega, hb⟩
      · obtain ⟨hle, hb⟩ := (hhere n).1 hn
        exact ⟨m + 1 - n, by omega, fun b h1 h2 => hb b h1 (by omega)⟩
    · rintro ⟨f, hf, hb⟩
      rcases Nat.lt_or_eq_of_le hf with hf | hf
      · exact le_max_of_le_left ((h.best n).2 ⟨f, by omega, hb⟩)
      · exact le_max_of_le_right ((hhere n).2 ⟨by omega, fun b h1 h2 => hb b (by omega) (by omega)⟩)
  · next hm =>
    refine ⟨fun n => ?_, fun n => ?_⟩
    · refine ⟨fun hn => ?_, fun ⟨hle, hb⟩ => ?_⟩
      · obtain rfl := Nat.le_zero.1 hn
        exact ⟨Nat.zero_le _, fun b h1 h2 => absurd h2 (by omega)⟩
      · by_contra hn
        exact hm (hb m (by omega) (Nat.lt_succ_self m))
    · rw [h.best n]
      refine ⟨fun ⟨f, hf, hb⟩ => ⟨f, by omega, hb⟩, fun ⟨f, hf, hb⟩ => ?_⟩
      cases n with
      | zero => exact ⟨0, Nat.zero_le m, fun b _ h => absurd h (Nat.not_lt_zero b)⟩
      | succ n =>
        refine ⟨f, ?_, hb⟩
        by_contra hlt
        exact hm (hb m (by omega) (by omega))

theorem counted_range (ok : Nat → Bool) (m : Nat) : Counted ok m ((List.range m).foldl (countBlock ok) (0, 0)) := by
  induction m with
  | zero => exact counted_zero ok
  | succ m ih =>
    rw [List.range_succ, List.foldl_append]
    exact ih.succ

theorem longestRun_eq (ok : Nat → Bool) : longestRun ok = ((List.range 512).foldl (countBlock ok) (0, 0)).2 := rfl

theorem le_longestRun_iff (ok : Nat → Bool) (n : Nat) : n ≤ longestRun ok ↔ ∃ f, RunAt ok f n := by
  rw [longestRun_eq]
  exact (counted_range ok 512).best n

/-- Settles O18: the search from a block counts the run that begins there, and the count over the array keeps the longest. -/
theorem firstFitTakesTheLowestRun : Obligations.FirstFitTakesTheLowestRun := fun ok =>
  ⟨fun _ f hlen => firstFit_eq_some_iff ok hlen f, fun _ hlen => firstFit_eq_none_iff ok hlen, le_longestRun_iff ok⟩

/-! ### The slots' runs (R38, R39) -/

theorem Slot.owns_of_info {v : Slot} {i : SlotInfo} (h : v.info? = some i) (b : Nat) :
    v.owns b = true ↔ i.first ≤ b ∧ b < i.first + i.len := by
  simp [Slot.owns, h]

/-- A block available to `k` lies in no other slot's run. -/
theorem State.not_mem_run_of_available {s : State} {k j : SlotIx} {b : Nat} {i : SlotInfo} (h : s.availableTo k b = true)
    (hj : j ≠ k) (hi : (s.slot j).info? = some i) : ¬(i.first ≤ b ∧ b < i.first + i.len) := by
  rw [← Slot.owns_of_info hi]
  have := List.all_eq_true.1 h j (mem_allSlots j)
  simpa [hj] using this

/-- A run that the slots' runs leave free lies before or after each of them. -/
theorem State.apart_of_runAt {s : State} {k j : SlotIx} {f len : Nat} {i : SlotInfo} (h : RunAt (s.availableTo k) f len)
    (hlen : 1 ≤ len) (hj : j ≠ k) (hi : (s.slot j).info? = some i) (hpos : 1 ≤ i.len) :
    f + len ≤ i.first ∨ i.first + i.len ≤ f := by
  by_contra hover
  have hfirst := State.not_mem_run_of_available (h.2 (max f i.first) (by omega) (by omega)) hj hi
  omega

/-- A slot that declares what it declared leaves the law. -/
theorem State.AllocationLaw.of_info {s t : State} (hs : s.AllocationLaw)
    (h : ∀ k i, (t.slot k).info? = some i → (s.slot k).info? = some i) : t.AllocationLaw :=
  ⟨fun k i hi => hs.1 k i (h k i hi), fun j k i i' hj hk => hs.2 j k i i' (h j i hj) (h k i' hk)⟩

theorem State.AllocationLaw.putSlot {s : State} (hs : s.AllocationLaw) (k : SlotIx) (v : Slot)
    (h : ∀ i, v.info? = some i → (s.slot k).info? = some i) : (s.putSlot k v).AllocationLaw := by
  refine hs.of_info fun j i hi => ?_
  rw [State.slot_putSlot] at hi
  split at hi
  · next hkj =>
    subst hkj
    exact h i hi
  · exact hi

/-- A slot opened on the first fit lies inside the array and apart from the others (R43, R44). -/
theorem State.AllocationLaw.opened {s : State} (hs : s.AllocationLaw) {k : SlotIx} {i : SlotInfo} (h1 : 1 ≤ i.len)
    (h128 : i.len ≤ 128) (hfit : firstFit (s.availableTo k) i.len = some i.first) :
    (s.putSlot k (.loading i 0 [])).AllocationLaw := by
  have hrun := ((firstFit_eq_some_iff _ h1 _).1 hfit).1
  have hslot (j : SlotIx) : ((s.putSlot k (.loading i 0 [])).slot j).info? = if k = j then some i else (s.slot j).info? := by
    rw [State.slot_putSlot]
    split <;> rfl
  refine ⟨fun j i' hj => ?_, fun j j' i' i'' hj hj' hne => ?_⟩
  · rw [hslot] at hj
    split at hj
    · obtain rfl := Option.some.inj hj
      exact ⟨h1, h128, hrun.1⟩
    · exact hs.1 j i' hj
  · rw [hslot] at hj hj'
    split at hj
    · next hkj =>
      obtain rfl := Option.some.inj hj
      subst hkj
      rw [if_neg hne] at hj'
      exact State.apart_of_runAt hrun h1 hne.symm hj' (hs.1 j' i'' hj').1
    · next hkj =>
      split at hj'
      · next hkj' =>
        obtain rfl := Option.some.inj hj'
        exact (State.apart_of_runAt hrun h1 (Ne.symm hkj) hj (hs.1 j i' hj).1).symm
      · exact hs.2 j j' i' i'' hj hj' hne

theorem State.Works.allocationLaw {s t : State} (h : s.Works t) (hs : s.AllocationLaw) : t.AllocationLaw :=
  hs.of_info fun k _ hi => h.slot k ▸ hi

theorem State.slot_cutLong (s : State) (k : SlotIx) : s.cutLong.slot k = s.slot k := by
  rw [s.cutLong_spec]
  rfl

theorem State.AllocationLaw.cutLong {s : State} (hs : s.AllocationLaw) : s.cutLong.AllocationLaw :=
  hs.of_info fun k _ hi => s.slot_cutLong k ▸ hi

theorem State.Does.allocationLaw {c : Instr} {s t : State} (h : State.Does c s t) (hs : s.AllocationLaw) :
    t.AllocationLaw := by
  cases h with
  | works h _ => exact h.allocationLaw hs
  | settled h => exact (State.settleStreams_works _).allocationLaw (h.allocationLaw hs)
  | cut => exact hs.cutLong
  | declared k i cursor written v hk hv =>
    refine hs.putSlot k v fun j hj => ?_
    rw [hk]
    exact hv.symm.trans hj
  | emptied k => exact hs.putSlot k _ fun i hi => by cases hi
  | opened k i _ h1 h128 hfit => exact hs.opened h1 h128 hfit
  | timing =>
    unfold State.applyTiming
    simp only
    split <;> exact hs
  | _ => exact hs

theorem Slot.info_afterReset (v : Slot) : v.afterReset.info? = v.info? := by
  cases v <;> rfl

theorem State.rebuild_allocationLaw {s : State} (hs : s.AllocationLaw) (n : Nat) (ctxs : Vector ContextRecord 24)
    (l : List DeviceFlag) : (s.rebuild n ctxs l).AllocationLaw := by
  refine hs.of_info fun k i hi => ?_
  have hslot : (s.rebuild n ctxs l).slot k = (s.slot k).afterReset := getElem_ofFn_ix _ k
  rw [hslot, Slot.info_afterReset] at hi
  exact hi

theorem exec_allocationLaw {c : Instr} {s t : State} (h : exec c s = .next t) (hs : s.AllocationLaw) : t.AllocationLaw := by
  refine exec_keeps h hs (fun _ _ => State.Does.allocationLaw) (fun _ _ he ha => ?_) fun _ _ _ _ ha =>
    State.rebuild_allocationLaw ha.cutLong _ _ _
  rw [he.same]
  exact ha

/-- Settles O7: a run is made by first fit alone, and a slot declares it until it is EMPTY. -/
theorem everyStepKeepsAllocationLaw : Obligations.EveryStepKeepsAllocationLaw := fun _ _ hs h =>
  step_keeps (fun _ _ _ => exec_allocationLaw) (fun _ _ h => h) h hs

end Sys2Proof.Machine

/-! The window sizes under every command (R120), and what no command moves but by its own request (R20, R50, R186, R195). -/

namespace Sys2Proof.Machine

/-! ### The window sizes (R120) -/

theorem le_foldl_min_iff (n a : Nat) (l : List Nat) : n ≤ l.foldl min a ↔ n ≤ a ∧ ∀ b ∈ l, n ≤ b := by
  induction l generalizing a with
  | nil => simp
  | cons b l ih => simp [ih, and_assoc]

/-- A record's size is right: in range, and no joined member's capability is below it. -/
def State.Sized (s : State) (r : StreamRecord) : Prop :=
  (1 ≤ r.w ∧ r.w ≤ 8) ∧ ∀ m ∈ r.members, ∀ e, s.unit m.unit = some e → e.joined = true → r.w ≤ e.window

theorem State.widthLaw_iff (s : State) :
    s.WidthLaw ↔ (1 ≤ s.timing.maxWindow ∧ s.timing.maxWindow ≤ 8) ∧ s.CapabilitiesInRange ∧
      (∀ r, s.rsch.active = some r → s.Sized r) ∧ ∀ r ∈ s.rsch.stack, s.Sized r := by
  refine and_congr_right fun _ => and_congr_right fun _ => ?_
  change (∀ r ∈ s.rsch.active.toList ++ s.rsch.stack, s.Sized r) ↔ _
  simp only [List.mem_append, Option.mem_toList, or_imp, forall_and]

/-- The size that R120 gives a record is right. -/
theorem State.width_spec {s : State} (hl : 1 ≤ s.timing.maxWindow) (hu : s.timing.maxWindow ≤ 8) (hc : s.CapabilitiesInRange)
    (r : StreamRecord) : s.Sized { r with w := s.width r } := by
  have hmem {b : Nat} (hb : b ∈ r.members.filterMap fun m => (s.unit m.unit).bind fun e =>
      if e.joined then some e.window else none) : ∃ m ∈ r.members, ∃ e, s.unit m.unit = some e ∧ e.joined = true ∧ e.window = b := by
    obtain ⟨m, hm, hb⟩ := List.mem_filterMap.1 hb
    obtain ⟨e, he, hb⟩ := Option.bind_eq_some_iff.1 hb
    split at hb
    · next hj => exact ⟨m, hm, e, he, hj, Option.some.inj hb⟩
    · cases hb
  have hle := (le_foldl_min_iff _ s.timing.maxWindow _).1 (Nat.le_refl (s.width r))
  refine ⟨⟨(le_foldl_min_iff _ _ _).2 ⟨hl, fun b hb => ?_⟩, hle.1.trans hu⟩, fun m hm e he hj => hle.2 _ ?_⟩
  · obtain ⟨m, -, e, he, -, rfl⟩ := hmem hb
    exact (hc _ e he).1
  · exact List.mem_filterMap.2 ⟨m, hm, by simp [he, hj]⟩

theorem State.refreshWidths_widthLaw {s : State} (hl : 1 ≤ s.timing.maxWindow) (hu : s.timing.maxWindow ≤ 8)
    (hc : s.CapabilitiesInRange) : s.refreshWidths.WidthLaw := by
  rw [State.widthLaw_iff]
  refine ⟨⟨hl, hu⟩, hc, fun r hr => ?_, fun r hr => ?_⟩
  · obtain ⟨q, -, rfl⟩ := Option.map_eq_some_iff.1 hr
    exact s.width_spec hl hu hc q
  · obtain ⟨q, -, rfl⟩ := List.mem_map.1 hr
    exact s.width_spec hl hu hc q

/-- A window that begins leaves the sizes and the units. -/
theorem State.WidthLaw.beginWindow {s : State} (h : s.WidthLaw) : s.beginWindow.WidthLaw := by
  unfold State.beginWindow
  split
  · exact h
  · next r hr =>
    simp only
    split
    · rw [State.widthLaw_iff] at h ⊢
      obtain ⟨ht, hc, ha, hs⟩ := h
      refine ⟨ht, hc, fun q hq => ?_, hs⟩
      obtain rfl := Option.some.inj hq
      exact ha r hr
    · exact h

theorem State.Steady.widthLaw {s t : State} (h : s.Steady t) (htiming : t.timing = s.timing)
    (hc : s.CapabilitiesInRange → t.CapabilitiesInRange) (hs : s.WidthLaw) : t.WidthLaw := by
  obtain ⟨hactive, hstack, hu⟩ := h
  rw [State.widthLaw_iff] at hs ⊢
  obtain ⟨ht, hcap, ha, hst⟩ := hs
  have hsized (r : StreamRecord) (hr : s.Sized r) : t.Sized r := by
    refine ⟨hr.1, fun m hm e' he' hj => ?_⟩
    obtain ⟨e, he, hw, hj'⟩ := hu m.unit e' he'
    exact hw ▸ hr.2 m hm e he (hj' hj)
  refine ⟨htiming ▸ ht, hc hcap, fun r hr => hsized r (ha r (hactive ▸ hr)), fun r hr => hsized r (hst r (hstack ▸ hr))⟩

theorem State.Works.widthLaw {s t : State} (h : s.Works t) (hst : s.Steady t) (hs : s.WidthLaw) : t.WidthLaw :=
  hst.widthLaw h.frame.timing (h.windows hs.1.1 hs.1.2) hs

theorem State.Works.widthLaw_settleStreams {s t : State} (h : s.Works t) (hs : s.WidthLaw) : t.settleStreams.WidthLaw := by
  have hw := h.trans (State.freeAndForm_works 12 t)
  have ht := hw.frame.timing
  exact (State.refreshWidths_widthLaw (ht ▸ hs.1.1) (ht ▸ hs.1.2) (hw.windows hs.1.1 hs.1.2 hs.2.1)).beginWindow

/-- Every entry keeps its capability, and there is no record. -/
theorem State.WidthLaw.of_map {s t : State} {f : UnitEntry → UnitEntry} (hs : s.WidthLaw) (ht : t.timing = s.timing)
    (hu : ∀ u, t.unit u = (s.unit u).map f) (hf : ∀ e, (f e).window = e.window) (hj : ∀ e, (f e).joined = true → e.joined = true)
    (hr : t.rsch = s.rsch ∨ t.rsch = { active := none, stack := [], marks := [] }) : t.WidthLaw := by
  have hcap : t.CapabilitiesInRange := fun u e' he' => by
    rw [hu u] at he'
    obtain ⟨e, he, rfl⟩ := Option.map_eq_some_iff.1 he'
    exact hf e ▸ hs.2.1 u e he
  rcases hr with hr | hr
  · refine State.Steady.widthLaw ⟨by rw [hr], by rw [hr], fun u e' he' => ?_⟩ ht (fun _ => hcap) hs
    rw [hu u] at he'
    obtain ⟨e, he, rfl⟩ := Option.map_eq_some_iff.1 he'
    exact ⟨e, he, hf e, hj e⟩
  · rw [State.widthLaw_iff, hr]
    exact ⟨ht ▸ hs.1, hcap, fun r h => (by cases h), fun r h => (by cases h)⟩

theorem UnitEntry.atGapStart_window (e : UnitEntry) : e.atGapStart.window = e.window := by
  unfold UnitEntry.atGapStart
  split <;> rfl

theorem UnitEntry.joined_of_atGapStart {e : UnitEntry} (h : e.atGapStart.joined = true) : e.joined = true := by
  unfold UnitEntry.atGapStart at h
  split at h
  · exact h
  · exact h
  · exact UnitEntry.joined_of_goto h

theorem State.unit_gapStart (s : State) (u : UnitIx) : s.gapStart.unit u = (s.unit u).map UnitEntry.atGapStart :=
  getElem_ofFn_ix _ u

theorem State.unit_enterRestore (s : State) (u : UnitIx) :
    s.enterRestore.unit u = (s.unit u).map fun e => { e with retry := 0 } :=
  getElem_ofFn_ix _ u

theorem State.Does.widthLaw {c : Instr} {s t : State} (h : State.Does c s t) (hs : s.WidthLaw) : t.WidthLaw := by
  cases h with
  | works h hst => exact h.widthLaw hst hs
  | settled h => exact h.widthLaw_settleStreams hs
  | cut =>
    rw [s.cutLong_spec]
    exact hs
  | gapStart =>
    exact hs.of_map rfl s.unit_gapStart UnitEntry.atGapStart_window (fun _ => UnitEntry.joined_of_atGapStart) (.inr rfl)
  | restore => exact hs.of_map rfl s.unit_enterRestore (fun _ => rfl) (fun _ h => h) (.inl rfl)
  | tables =>
    have hnone (u : UnitIx) : ({ s with units := Vector.replicate 24 none, ctxs := Vector.replicate 24 .blank } : State).unit u =
        none := Vector.getElem_replicate _
    refine State.Steady.widthLaw (s := s) ⟨rfl, rfl, fun u e he => ?_⟩ rfl (fun _ u e he => ?_) hs
    · rw [hnone] at he
      cases he
    · rw [hnone] at he
      cases he
  | timing t _ hl hu =>
    unfold State.applyTiming
    simp only
    split
    · exact State.refreshWidths_widthLaw (s := { s with timing := t }) hl hu hs.2.1
    · exact ⟨⟨hl, hu⟩, hs.2⟩
  | _ => exact hs

theorem State.resetConfig_maxWindow (s : State) :
    1 ≤ s.resetConfig.timing.maxWindow ∧ s.resetConfig.timing.maxWindow ≤ 8 := by
  unfold State.resetConfig
  split
  · split
    · next r _ hv =>
      simp only [recordValid, contentsValid, timingInRange, Bool.and_eq_true, decide_eq_true_eq] at hv
      exact hv.2.1.1.2.2
    · decide
  · decide

theorem State.rebuild_widthLaw (s : State) (n : Nat) (ctxs : Vector ContextRecord 24) (l : List DeviceFlag) :
    (s.rebuild n ctxs l).WidthLaw := by
  have ht := s.resetConfig_maxWindow
  rw [State.widthLaw_iff]
  refine ⟨ht, fun u e he => ?_, fun r h => (by cases h), fun r h => (by cases h)⟩
  have hu : (s.rebuild n ctxs l).unit u =
      (s.resetConfig.defs[u.val].filter s.agrees).map fun d => .fresh d s.resetConfig.timing.maxWindow := getElem_ofFn_ix _ u
  rw [hu] at he
  obtain ⟨d, -, rfl⟩ := Option.map_eq_some_iff.1 he
  exact ht

theorem exec_widthLaw {c : Instr} {s t : State} (h : exec c s = .next t) (hs : s.WidthLaw) : t.WidthLaw := by
  refine exec_keeps h hs (fun _ _ => State.Does.widthLaw) (fun _ _ he ha => ?_) fun _ _ _ _ _ => State.rebuild_widthLaw _ _ _ _
  rw [he.same]
  exact ha

/-- Settles O9: work that may disturb a size is settled, and the scheduler recomputes every size as it settles. -/
theorem everyStepKeepsWidthLaw : Obligations.EveryStepKeepsWidthLaw := fun _ _ hs h =>
  step_keeps (fun _ _ _ => exec_widthLaw) (fun _ _ h => h) h hs

/-! ### The tick counter (R20) -/

theorem State.Works.tick {s t : State} (h : s.Works t) : t.tick = s.tick :=
  h.frame.tick

theorem State.Does.tick_eq {c : Instr} {s t : State} (h : State.Does c s t) (hc : c ≠ .tick) : t.tick = s.tick := by
  cases h with
  | works h _ => exact h.tick
  | settled h => exact (State.settleStreams_works _).tick.trans h.tick
  | tick h => exact absurd h hc
  | cut => rw [s.cutLong_spec]
  | timing =>
    unfold State.applyTiming
    simp only
    split <;> rfl
  | _ => rfl

/-- The end of a command keeps what neither the outputs nor the links hold. -/
theorem State.Ended.gap_tick {s t : State} (h : State.Ended s t) : t.gapc = s.gapc ∧ t.tick = s.tick :=
  h.keeps (P := fun a => a.gapc = s.gapc ∧ a.tick = s.tick) ⟨rfl, rfl⟩ fun _ _ he ha => by
    rw [he.same]
    exact ha

/-- A reset leaves the counter at 0 and the gap controller as a reset leaves it. -/
theorem State.Ended.of_rebuild {s t : State} {n : Nat} {ctxs : Vector ContextRecord 24} {l : List DeviceFlag}
    (h : State.Ended (s.rebuild n ctxs l) t) : t.tick = 0 ∧ t.gapc = GapCtl.initial t.gapc.count := by
  obtain ⟨hg, ht⟩ := h.gap_tick
  refine ⟨ht, ?_⟩
  rw [hg]
  rfl

theorem exec_tick_eq {c : Instr} {s t : State} (h : exec c s = .next t) (hc : c ≠ .tick) :
    t.tick = s.tick ∨ s.Resets c ∧ t.tick = 0 ∧ t.gapc = GapCtl.initial t.gapc.count := by
  obtain ⟨q, hq, h | ⟨hr, n, ctxs, l, h⟩⟩ := exec_reaches c s t h
  · refine .inl (h.gap_tick.2.trans ?_)
    exact hq.keeps (P := fun a => a.tick = s.tick) rfl fun _ _ hd ha => (hd.tick_eq hc).trans ha
  · exact .inr ⟨hr, h.of_rebuild⟩

/-- Settles O11: TICK alone adds to the counter, and of the rest only the rebuild of a reset moves it. -/
theorem onlyTickAdvancesTheCounter : Obligations.OnlyTickAdvancesTheCounter := by
  refine ⟨fun s hp hr hg => ?_, fun s h => ?_, fun c s t => exec_tick_eq⟩
  · have hcounts : (s.running && s.gapc.state.counts) = true := by
      simp [State.running, hp, hr, (GapState.counts_iff _).2 hg]
    simp [exec, execTick, hcounts]
  · have hcounts : (s.running && s.gapc.state.counts) = false := by
      rcases h with h | h | h | h <;> simp [State.running, h, GapState.counts]
    simp [exec, execTick, hcounts]

/-! ### The array and the record (R50, R51, R199) -/

/-- The array and the record are those of `s`, and the port is not granted to a long request. -/
def State.Untouched (s t : State) : Prop :=
  t.ims.mem = s.ims.mem ∧ t.cfgr = s.cfgr ∧ t.ims.port ≠ some .longRequest

theorem State.Works.untouched {s t r : State} (h : t.Works r) (ht : s.Untouched t) : s.Untouched r := by
  unfold State.Untouched
  rw [h.ims, h.frame]
  exact ht

/-- With no access of a long request in progress there is nothing to cut off. -/
theorem State.cutLong_of_port {s : State} (h : s.ims.port ≠ some .longRequest) :
    s.cutLong = { s with ims := { s.ims with port := none }, clnk := { s.clnk with long := none } } := by
  simp [State.cutLong, State.cutBlock?, State.erasing?, h]

theorem State.Does.untouched {c : Instr} {s t r : State} (h : State.Does c t r) (ht : s.Untouched t) : s.Untouched r := by
  cases h with
  | works h _ => exact h.untouched ht
  | settled h => exact (State.settleStreams_works _).untouched (h.untouched ht)
  | gapStart =>
    obtain ⟨hm, hr, hp⟩ := ht
    refine ⟨hm, hr, ?_⟩
    simp only [State.gapStart]
    split
    · simp
    · exact hp
  | port => exact ⟨ht.1, ht.2.1, by simp⟩
  | cut =>
    rw [State.cutLong_of_port ht.2.2]
    exact ⟨ht.1, ht.2.1, by simp⟩
  | write m q hp => exact absurd hp ht.2.2
  | timing =>
    unfold State.applyTiming
    simp only
    split <;> exact ht
  | _ => exact ht

/-- Settles O12: the array and the record are written where an access of a long request ends or is cut off, and no command grants
the port before its end. -/
theorem arrayAndRecordChangeOnlyByLongAccesses : Obligations.ArrayAndRecordChangeOnlyByLongAccesses := by
  intro c s t h hp
  have hends {a b : State} (h : State.Ended a b) : b.ims.mem = a.ims.mem ∧ b.cfgr = a.cfgr :=
    h.keeps (P := fun b => b.ims.mem = a.ims.mem ∧ b.cfgr = a.cfgr) ⟨rfl, rfl⟩ fun _ _ he ha => by
      rw [he.same]
      exact ha
  obtain ⟨q, hq, h⟩ := exec_reaches c s t h
  obtain ⟨hm, hr, hport⟩ : s.Untouched q := hq.keeps (P := s.Untouched) ⟨rfl, rfl, hp⟩ fun _ _ => State.Does.untouched
  rcases h with h | ⟨-, n, ctxs, l, h⟩
  · exact ⟨(hends h).1.trans hm, (hends h).2.trans hr⟩
  · rw [State.cutLong_of_port hport] at h
    exact ⟨(hends h).1.trans hm, (hends h).2.trans hr⟩

/-! ### The settings (R14, R15, R87, R171, R186, R195) -/

/-- Each group of settings stands from `s` to `t`, or command `c` is the request that sets it. -/
def State.Settled (c : Instr) (s t : State) : Prop :=
  (t.smon.settings = s.smon.settings ∨ ∃ tag p, c = .setMonitor tag p) ∧
    (t.timing = s.timing ∨ ∃ tag p, c = .setTiming tag p) ∧
    (t.cflu.respOpen = s.cflu.respOpen ∧ t.cflu.alertMask = s.cflu.alertMask ∨ ∃ tag p, c = .setMasks tag p) ∧
    (t.perm.enable = s.perm.enable ∨ ∃ tag p, c = .setPermitEnable tag p) ∧
    (t.smon.senseOn = s.smon.senseOn ∧ (∀ x, (perGet t.links x).yieldOn = (perGet s.links x).yieldOn) ∨
      ∃ tag p, c = .setSegment tag p)

theorem State.Settled.refl (c : Instr) (s : State) : State.Settled c s s :=
  ⟨.inl rfl, .inl rfl, .inl ⟨rfl, rfl⟩, .inl rfl, .inl ⟨rfl, fun _ => rfl⟩⟩

theorem State.Settled.trans {c : Instr} {s t r : State} (h : State.Settled c s t) (h' : State.Settled c t r) :
    State.Settled c s r := by
  obtain ⟨hm, ht, hf, hp, hs⟩ := h
  obtain ⟨hm', ht', hf', hp', hs'⟩ := h'
  refine ⟨?_, ?_, ?_, ?_, ?_⟩
  · exact hm'.elim (fun h' => hm.imp_left h'.trans) .inr
  · exact ht'.elim (fun h' => ht.imp_left h'.trans) .inr
  · exact hf'.elim (fun h' => hf.imp_left fun h => ⟨h'.1.trans h.1, h'.2.trans h.2⟩) .inr
  · exact hp'.elim (fun h' => hp.imp_left h'.trans) .inr
  · exact hs'.elim (fun h' => hs.imp_left fun h => ⟨h'.1.trans h.1, fun x => (h'.2 x).trans (h.2 x)⟩) .inr

/-- No setting changes. -/
theorem State.Settled.of_same {c : Instr} {s t : State} (hm : t.smon.settings = s.smon.settings) (ht : t.timing = s.timing)
    (hf : t.cflu.respOpen = s.cflu.respOpen ∧ t.cflu.alertMask = s.cflu.alertMask) (hp : t.perm.enable = s.perm.enable)
    (hs : t.smon.senseOn = s.smon.senseOn) (hy : ∀ x, (perGet t.links x).yieldOn = (perGet s.links x).yieldOn) :
    State.Settled c s t :=
  ⟨.inl hm, .inl ht, .inl hf, .inl hp, .inl ⟨hs, hy⟩⟩

theorem State.Works.settings {c : Instr} {s t : State} (h : s.Works t) : State.Settled c s t := by
  have hframe := h.frame
  unfold State.RestoreFrame at hframe
  refine .of_same ?_ h.frame.timing ?_ (by rw [h.perm]) ?_ fun x => (h.links x).2
  · rw [hframe]
  · rw [hframe]
    exact ⟨rfl, rfl⟩
  · rw [hframe]

theorem State.Does.settings {c : Instr} {s t : State} (h : State.Does c s t) : State.Settled c s t := by
  have hsame := State.Settled.refl c s
  cases h with
  | works h _ => exact h.settings
  | settled h => exact h.settings.trans (State.settleStreams_works _).settings
  | monitor m hm hs _ _ => exact ⟨hm, .inl rfl, .inl ⟨rfl, rfl⟩, .inl rfl, hs.imp_left fun h => ⟨h, fun _ => rfl⟩⟩
  | down x k =>
    refine .of_same rfl rfl ⟨rfl, rfl⟩ rfl rfl fun y => ?_
    rw [State.perGet_onLink]
    split <;> rfl
  | start x _ =>
    refine .of_same rfl rfl ⟨rfl, rfl⟩ rfl rfl fun y => ?_
    rw [State.perGet_onLink]
    split <;> rfl
  | gapStart =>
    exact .of_same rfl rfl (FlagUnit.setDevice_masks _ _) rfl rfl fun x => by cases x <;> rfl
  | restore =>
    refine .of_same rfl rfl (FlagUnit.setDevice_masks _ _) rfl rfl fun x => ?_
    simp only [State.enterRestore, State.ageAll, perGet_perOf]
    split <;> rfl
  | silence => exact .of_same rfl rfl ⟨rfl, rfl⟩ rfl rfl fun x => by cases x <;> rfl
  | cut =>
    rw [s.cutLong_spec]
    exact hsame
  | timing t hc =>
    unfold State.applyTiming
    simp only
    split <;> exact ⟨.inl rfl, .inr hc, .inl ⟨rfl, rfl⟩, .inl rfl, .inl ⟨rfl, fun _ => rfl⟩⟩
  | masks r a hc => exact ⟨.inl rfl, .inl rfl, .inr hc, .inl rfl, .inl ⟨rfl, fun _ => rfl⟩⟩
  | enable p hc => exact ⟨.inl rfl, .inl rfl, .inl ⟨rfl, rfl⟩, .inr hc, .inl ⟨rfl, fun _ => rfl⟩⟩
  | permits =>
    refine .of_same rfl rfl ?_ rfl rfl fun _ => rfl
    rw [s.recomputePermits_spec]
    exact ⟨rfl, rfl⟩
  | yield x v hc => exact ⟨.inl rfl, .inl rfl, .inl ⟨rfl, rfl⟩, .inl rfl, .inr hc⟩
  | _ => exact hsame

theorem State.Ends.settings {c : Instr} {s t : State} (h : State.Ends s t) : State.Settled c s t := by
  refine .of_same ?_ ?_ ?_ ?_ ?_ fun x => ?_
  · rw [h.same]
  · rw [h.same]
  · rw [h.same]
    exact ⟨rfl, rfl⟩
  · rw [h.same]
  · rw [h.same]
  · rw [h.links x]
    exact (Link.arbitrate_spec _ _).2.1

/-- Settles O13: of the named changes each setting has its own, which its request makes. -/
theorem settingsChangeOnlyByTheirRequests : Obligations.SettingsChangeOnlyByTheirRequests := by
  intro c s t h
  obtain ⟨q, hq, h | ⟨hr, n, ctxs, l, h⟩⟩ := exec_reaches c s t h
  · have hchain : State.Settled c s q := hq.keeps (P := State.Settled c s) (.refl c s) fun _ _ hd ha => ha.trans hd.settings
    exact .inr (h.keeps (P := State.Settled c s) hchain fun _ _ he ha => ha.trans he.settings)
  · exact .inl ⟨hr, h.of_rebuild⟩

end Sys2Proof.Machine

/-! The state after the first cold start, and the rules of the shared computations: the cursor, the window answers, the capture
and the arbiter. -/

namespace Sys2Proof.Machine

/-! ### The state after the first cold start -/

theorem State.unit_reset (u : UnitIx) : State.reset.unit u = none :=
  Vector.getElem_replicate _

theorem State.slot_reset (k : SlotIx) : State.reset.slot k = .empty :=
  Vector.getElem_replicate _

theorem State.halted_reset (x : Seg) : (perGet State.reset.links x).halted = true := by
  cases x <;> rfl

theorem State.reset_permitLaw : State.reset.PermitLaw := by
  intro x
  refine iff_of_false (by cases x <;> decide) ?_
  rintro ⟨-, -, h | h, -⟩ <;> cases h

theorem State.reset_membershipLaw : State.reset.MembershipLaw := by
  refine ⟨List.nodup_nil, fun u => iff_of_false (by simp [State.activeUnits, State.reset]) ?_,
    fun u => iff_of_false (by simp [State.suspendedUnits, State.reset]) ?_, fun h => absurd rfl h⟩ <;>
  · rintro ⟨e, he, -⟩
    rw [State.unit_reset] at he
    cases he

theorem State.reset_carryLaw : State.reset.CarryLaw := by
  refine fun _ _ => ⟨fun h => ?_, fun u e he => ?_, fun w hw => ?_⟩
  · rcases h with h | h <;> cases h
  · rw [State.unit_reset] at he
    cases he
  · cases hw

theorem State.reset_widthLaw : State.reset.WidthLaw := by
  refine ⟨by decide, fun u e he => ?_, fun r hr => by cases hr⟩
  rw [State.unit_reset] at he
  cases he

theorem State.reset_allocationLaw : State.reset.AllocationLaw := by
  refine ⟨fun k i hi => ?_, fun j k i i' hi => ?_⟩ <;>
  · rw [State.slot_reset] at hi
    cases hi

theorem State.reset_windowLaw : State.reset.WindowLaw := by
  have hw (x : Seg) : perGet State.reset.smon.winSense x = [] := perGet_refilled x
  refine ⟨fun v hv => (by cases hv), fun v hv => (by cases hv), fun x v hv => ?_⟩
  rw [hw] at hv
  cases hv

/-- Settles O10: of the state after the first cold start each law holds of nothing or of the two flags that are set. -/
theorem resetMeetsTheLaws : Obligations.ResetMeetsTheLaws := by
  refine ⟨Memory.wf_nil, State.reset_windowLaw, State.reset_permitLaw, iff_of_true rfl ⟨rfl, rfl, by decide, 14, by decide⟩,
    Scheduler.stacked_empty, Nat.zero_le 4, fun x hx => ?_, State.streamLaw_of_no_records rfl, State.reset_allocationLaw,
    State.reset_membershipLaw, fun w hw => (by cases hw), State.reset_carryLaw, State.reset_widthLaw⟩
  rw [State.halted_reset] at hx
  cases hx

/-! ### The cursor (R121) -/

/-- Some member owes block `b`. -/
def StreamRecord.Owes (r : StreamRecord) (b : Nat) : Prop :=
  ∃ m ∈ r.members, b ∈ m.owed

theorem StreamRecord.mem_owedFrom (r : StreamRecord) (p b : Nat) :
    b ∈ (r.members.flatMap (·.owed)).filter (fun b => decide (p ≤ b)) ↔ r.Owes b ∧ p ≤ b := by
  simp [StreamRecord.Owes]

theorem StreamRecord.smallestFrom_eq_some {r : StreamRecord} {p b : Nat} (hb : r.Owes b) (hp : p ≤ b)
    (hmin : ∀ c, r.Owes c → p ≤ c → b ≤ c) : r.smallestFrom p = some b := by
  unfold StreamRecord.smallestFrom
  rw [List.min?_eq_some_iff]
  refine ⟨(r.mem_owedFrom p b).2 ⟨hb, hp⟩, fun c hc => ?_⟩
  obtain ⟨hc, hpc⟩ := (r.mem_owedFrom p c).1 hc
  exact hmin c hc hpc

theorem StreamRecord.smallestFrom_eq_none {r : StreamRecord} {p : Nat} (h : ∀ c, r.Owes c → c < p) :
    r.smallestFrom p = none := by
  unfold StreamRecord.smallestFrom
  rw [List.min?_eq_none_iff, List.eq_nil_iff_forall_not_mem]
  intro c hc
  obtain ⟨hc, hpc⟩ := (r.mem_owedFrom p c).1 hc
  exact Nat.lt_irrefl _ (Nat.lt_of_lt_of_le (h c hc) hpc)

theorem StreamRecord.place_cursor (r : StreamRecord) (p : Nat) :
    (r.place p).cursor = ((r.smallestFrom p) <|> (r.smallestFrom 0)).getD r.cursor := rfl

/-- Settles O16, from what the smallest owed block from a position is. -/
theorem cursorPlacement : Obligations.CursorPlacement := by
  intro r p
  refine ⟨rfl, fun b hb hp hmin => ?_, fun b hb hlt hmin => ?_, fun hnone => ?_⟩
  · rw [StreamRecord.place_cursor, StreamRecord.smallestFrom_eq_some hb hp hmin]
    rfl
  · rw [StreamRecord.place_cursor, StreamRecord.smallestFrom_eq_none hlt,
      StreamRecord.smallestFrom_eq_some hb (Nat.zero_le b) fun c hc _ => hmin c hc]
    rfl
  · have hno (q : Nat) : r.smallestFrom q = none := StreamRecord.smallestFrom_eq_none fun c hc => absurd hc (hnone c)
    rw [StreamRecord.place_cursor, hno, hno]
    rfl

/-! ### Window answers (R142) -/

/-- Settles O17: the reading's tests in their order. -/
theorem windowAnswersAreReadInOrder : Obligations.WindowAnswersAreReadInOrder := by
  refine ⟨fun c n first => rfl, fun c n first a => ⟨fun h => if_pos h, fun hstart hcount => ?_⟩⟩
  have hgood : ¬(a.start.toNat ≠ c ∨ n < a.count.toNat) := by
    rintro (h | h)
    · exact h hstart
    · exact Nat.not_lt.2 hcount h
  simp only [readAnswer, if_neg hgood]
  refine ⟨fun he => ?_, fun he hb => ?_, fun he hb hn => ?_, fun he hb hn h1 => ?_, fun he hb hn h0 => ?_⟩
  · simp [he]
  · simp [he, hb]
  · simp [he, hb, hn]
  · simp [he, hb, hn, Nat.one_le_iff_ne_zero.1 h1]
  · simp [he, hb, hn, h0]

/-! ### Capture (R156 to R159) -/

theorem dropRepeats_append (l : List (BitVec 16)) (n : BitVec 16) :
    dropRepeats (l ++ [n]) = if (dropRepeats l).contains n then dropRepeats l else dropRepeats l ++ [n] := by
  simp [dropRepeats, List.foldl_append]

theorem mem_dropRepeats (l : List (BitVec 16)) (n : BitVec 16) : n ∈ dropRepeats l ↔ n ∈ l := by
  induction l using List.reverseRecOn with
  | nil => exact Iff.rfl
  | append_singleton l m ih =>
    rw [dropRepeats_append]
    split
    · next h =>
      rw [List.contains_iff_mem] at h
      simp only [ih, List.mem_append, List.mem_singleton]
      refine ⟨.inl, fun h' => h'.elim id fun h' => ?_⟩
      subst h'
      exact ih.1 h
    · simp [ih]

theorem dropRepeats_sublist (l : List (BitVec 16)) : (dropRepeats l).Sublist l := by
  induction l using List.reverseRecOn with
  | nil => exact .refl _
  | append_singleton l m ih =>
    rw [dropRepeats_append]
    split
    · exact ih.trans (List.sublist_append_left l [m])
    · exact ih.append (.refl _)

theorem storedList_eq (l : List (BitVec 16)) :
    storedList l = ((dropRepeats l).take 4, decide (dropRepeats l ≠ l ∨ 4 < (dropRepeats l).length)) := by
  have hlen : (dropRepeats l).length = l.length ↔ dropRepeats l = l :=
    ⟨(dropRepeats_sublist l).eq_of_length, fun h => by rw [h]⟩
  simp [storedList, ← hlen, bne, Bool.beq_eq_decide_eq]

theorem dropRepeats_append_mem (l : List (BitVec 16)) (n : BitVec 16) :
    dropRepeats (l ++ [n]) = if n ∈ l then dropRepeats l else dropRepeats l ++ [n] := by
  rw [dropRepeats_append]
  simp [mem_dropRepeats]

theorem storedPosition_spec (stroke p : Nat) (old : Option Nat) :
    storedPosition stroke none old = (none, false) ∧
      (p ≤ stroke → storedPosition stroke (some p) old = (some p, false)) ∧
      (stroke < p → p ≤ stroke + stroke / 64 → storedPosition stroke (some p) old = (some stroke, false)) ∧
      (stroke + stroke / 64 < p → storedPosition stroke (some p) old = (old, true)) := by
  refine ⟨rfl, fun h => ?_, fun h h' => ?_, fun h => ?_⟩
  · simp [storedPosition, h]
  · simp [storedPosition, Nat.not_le.2 h, h']
  · simp [storedPosition, Nat.not_le.2 h, Nat.not_le.2 (Nat.lt_of_le_of_lt (Nat.le_add_right _ _) h)]

theorem checked_spec (limit new old : Nat) : checked limit new old = (if new ≤ limit then new else old, decide (limit < new)) := by
  unfold checked
  split
  · next h => simp [Nat.not_lt.2 h]
  · next h => simp [Nat.not_le.1 h]

theorem DisplayContent.store_spec (c : DisplayContent) (page route nextStop brightness : Nat) (l : List (BitVec 16)) :
    c.store page route nextStop brightness l =
      ({ page := if page ≤ 255 then page else c.page
         route := if route ≤ 9999 then route else c.route
         nextStop := if nextStop ≤ 127 then nextStop else c.nextStop
         brightness := if brightness ≤ 15 then brightness else c.brightness
         messages := (storedList l).1 },
       decide (255 < page ∨ 9999 < route ∨ 127 < nextStop ∨ 15 < brightness ∨ (storedList l).2 = true)) := by
  simp [DisplayContent.store, checked_spec, Bool.decide_or, Bool.or_assoc]

theorem AnnounceContent.store_spec (c : AnnounceContent) (volume : Nat) (l : List (BitVec 16)) :
    c.store volume l =
      ({ volume := if volume ≤ 31 then volume else c.volume, queue := (storedList l).1 },
       decide (31 < volume ∨ (storedList l).2 = true)) := by
  simp [AnnounceContent.store, checked_spec, Bool.decide_or]

/-- What is stored of a reported obstruction part, and where the range flag is set. -/
theorem storedObstruction_spec (stroke : Nat) (part : Option (Nat × Nat)) (old : Option Obstruction) :
    (part = none → (storedObstruction stroke part old).1 = none) ∧
      (∀ p n, part = some (p, n) →
        (stroke < p → (storedObstruction stroke part old).1 = old) ∧
          (p ≤ stroke → n ≤ 15 → (storedObstruction stroke part old).1 = some ⟨p, n⟩) ∧
          (p ≤ stroke → 15 < n → (storedObstruction stroke part old).1 = old.map fun o => ⟨p, o.reversals⟩)) ∧
      ((storedObstruction stroke part old).2 = true ↔ ∃ p n, part = some (p, n) ∧ (stroke < p ∨ 15 < n)) := by
  cases part with
  | none => exact ⟨fun _ => rfl, fun p n h => (by cases h), by simp [storedObstruction]⟩
  | some q =>
    obtain ⟨p, n⟩ := q
    refine ⟨fun h => (by cases h), fun p' n' h => ?_, ?_⟩
    · obtain ⟨rfl, rfl⟩ := Prod.mk.inj (Option.some.inj h)
      refine ⟨fun h => ?_, fun h h' => ?_, fun h h' => ?_⟩
      · simp [storedObstruction, h]
      · simp [storedObstruction, Nat.not_lt.2 h, h']
      · simp [storedObstruction, Nat.not_lt.2 h, Nat.not_le.2 h']
    · simp only [storedObstruction, Option.some.injEq, Prod.mk.injEq]
      constructor
      · intro h
        refine ⟨p, n, ⟨rfl, rfl⟩, ?_⟩
        by_contra hno
        obtain ⟨h1, h2⟩ := not_or.1 hno
        simp [h1, Nat.not_lt.1 h2] at h
      · rintro ⟨p', n', ⟨rfl, rfl⟩, h | h⟩
        · simp [h]
        · by_cases hp : stroke < p
          · simp [hp]
          · simp [hp, Nat.not_le.2 h]

/-- Settles O19, from what is stored of a list, a position, a checked number and an obstruction part. -/
theorem captureStoresCheckedFields : Obligations.CaptureStoresCheckedFields := by
  refine ⟨⟨dropRepeats, rfl, dropRepeats_append_mem, storedList_eq⟩, by decide, storedPosition_spec,
    fun c leaf position stroke cycles part => ?_, fun c page route nextStop brightness l => ?_, fun c volume l => ?_⟩
  · intro strokeOk
    obtain ⟨hn, hp, hflag⟩ := storedObstruction_spec (c.store leaf position stroke cycles part).1.stroke part c.obstruction
    refine ⟨(c.store leaf position stroke cycles part).1, (c.store leaf position stroke cycles part).2, rfl, fun h => ?_,
      fun h => ?_, rfl, rfl, ?_, hn, hp, ?_⟩
    · simp only [DoorContent.store]
      rw [if_pos h]
    · simp only [DoorContent.store]
      rw [if_neg h]
    · simp only [DoorContent.store, checked_spec]
    · rw [← hflag]
      have hstroke : (if 1 ≤ stroke ∧ stroke ≤ 65535 then (stroke, false) else (c.stroke, true)).2 = true ↔ ¬strokeOk := by
        by_cases h : 1 ≤ stroke ∧ stroke ≤ 65535
        · rw [if_pos h]
          exact iff_of_false (by simp) fun h' => h' h
        · rw [if_neg h]
          exact iff_of_true rfl h
      simp only [DoorContent.store, checked_spec, Bool.or_eq_true, Option.isNone_iff_eq_none, hstroke, decide_eq_true_eq, or_assoc]
  · simp only [Content.store, DisplayContent.store_spec]
  · simp only [Content.store, AnnounceContent.store_spec]

/-! ### The arbiter (R83) -/

theorem find?_eq_of_first {α : Type} {p : α → Bool} {before after : List α} {a : α} (hb : ∀ q ∈ before, p q = false)
    (ha : p a = true) : (before ++ a :: after).find? p = some a := by
  rw [List.find?_append, List.find?_eq_none.2 fun q hq => by simp [hb q hq]]
  simp [ha]

theorem find?_eq_none_of_all {α : Type} {p : α → Bool} {l : List α} (h : ∀ q ∈ l, p q = false) : l.find? p = none :=
  List.find?_eq_none.2 fun q hq => by simp [h q hq]

/-- An exchange that is no window part, context sequence or unit service is a poll. -/
theorem Exchange.isPoll_of_else {ex : Exchange} (hw : ex.isWindow = false) (hs : ex.isSequence = false)
    (hu : ex.isService = false) : ex.isPoll = true := by
  cases ex <;> simp_all [Exchange.isWindow, Exchange.isSequence, Exchange.isService, Exchange.isPoll]

/-- The arbiter's choice, found in R83's order. -/
theorem Link.choose_eq {l : Link} {before after : List Exchange} {ex : Exchange} (hq : l.queue = before ++ ex :: after)
    (hb : ∀ q ∈ before, q.isWindow = false)
    (h : ex.isWindow = true ∨
      (∀ q ∈ l.queue, q.isWindow = false) ∧
        (ex.isSequence = true ∧ (∀ q ∈ before, q.isSequence = false) ∨
          (∀ q ∈ l.queue, q.isSequence = false) ∧
            (ex.isService = true ∧ (∀ q ∈ before, q.isService = false) ∨
              (∀ q ∈ l.queue, q.isService = false) ∧ before = []))) : l.choose = some ex := by
  have hmem : ex ∈ l.queue := by simp [hq]
  unfold Link.choose
  rcases h with hw | ⟨hw, ⟨hs, hbs⟩ | ⟨hs, ⟨hu, hbu⟩ | ⟨hu, rfl⟩⟩⟩
  · rw [hq, find?_eq_of_first hb hw]
    rfl
  · rw [find?_eq_none_of_all hw, hq, find?_eq_of_first hbs hs]
    rfl
  · rw [find?_eq_none_of_all hw, find?_eq_none_of_all hs, hq, find?_eq_of_first hbu hu]
    rfl
  · have hpoll := Exchange.isPoll_of_else (hw ex hmem) (hs ex hmem) (hu ex hmem)
    rw [find?_eq_none_of_all hw, find?_eq_none_of_all hs, find?_eq_none_of_all hu, hq,
      find?_eq_of_first (fun q h => (by cases h)) hpoll]
    rfl

theorem Link.arbitrate_of_choose {l : Link} {ex : Exchange} (hh : l.halted = false) (hi : l.inFlight = none)
    (hc : l.choose = some ex) (frames : Exchange → List OutFrame) : l.arbitrate frames = l.carry ex (frames ex) := by
  simp [Link.arbitrate, hh, hi, hc]

/-- Settles O20: the choice, and what carrying it does to the link. -/
theorem arbiterTakesTheFirstInOrder : Obligations.ArbiterTakesTheFirstInOrder := by
  refine fun l frames => ⟨fun h => ?_, fun before after ex o rest hh hi hq hf hb hkind => ?_⟩
  · rcases h with h | h | h
    · exact (Link.arbitrate_spec l frames).2.2.2 (.inl h)
    · exact (Link.arbitrate_spec l frames).2.2.2 (.inr h)
    · simp [Link.arbitrate, Link.choose, h]
  · have hleave : (before ++ ex :: after).erase ex = before ++ after := by
      rw [List.erase_append_right _ fun hmem => (hb ex hmem).1 rfl, List.erase_cons_head]
    rw [Link.arbitrate_of_choose hh hi (Link.choose_eq hq (fun q h => (hb q h).2) hkind), hf]
    simp only [Link.carry, Link.send, hq, hleave]

end Sys2Proof.Machine

/-! What a reset leaves (R36, R37, R189, R201), and the outputs under RESET and without power. -/

namespace Sys2Proof.Machine

/-! ### The end of a reset -/

/-- An idle transmitter with nothing owed and something unreported begins a notice (R184). -/
theorem State.startTransmit_notice {s : State} (hon : s.linkOn = true) (htx : s.clnk.tx = none) (howed : s.clnk.owed = [])
    (hsome : s.cflu.allReported = false) :
    s.startTransmit = { s with clnk := { s.clnk with tx := some s.cflu.notice }, cflu := s.cflu.emptied } := by
  simp [State.startTransmit, hon, htx, howed, hsome]

/-- A part with power and the RESET line high begins its notice as the reset is finished (R184; log entry 19). -/
theorem State.finish_rebuild (s : State) (n : Nat) (ctxs : Vector ContextRecord 24) (l : List DeviceFlag)
    (hp : s.powered = true) (hr : s.resetLow = false)
    (hl : flagWord (if s.resetValid then l else l ++ [.configDefaulted]) ≠ 0) :
    (s.rebuild n ctxs l).finish = s.afterReset n ctxs (flagWord (if s.resetValid then l else l ++ [.configDefaulted])) := by
  generalize hw : flagWord (if s.resetValid then l else l ++ [.configDefaulted]) = w at hl
  generalize hq : s.rebuild n ctxs l = q
  have hrun : q.running = true := by simp [← hq, State.running, hp, hr]
  have hgap : q.gapc.state = .gap := by rw [← hq]; rfl
  have hgrant : q.grantPort none = q := by rw [← hq]; rfl
  have harb : q.arbitrate = q := by rw [← hq]; rfl
  have hout : perOf q.permitFor = q.perm.output := by
    have hno (x : Seg) : q.permitFor x = false := by simp [State.permitFor, hgap, GapState.carries]
    simp only [perOf, hno]
    rw [← hq]
    rfl
  have hperm : q.recomputePermits = q := by
    unfold State.recomputePermits
    rw [hout, if_pos rfl]
  have hcflu : q.cflu =
      { respOpen := s.resetConfig.respOpen, alertMask := s.resetConfig.alertMask, device := w, unrepDevice := w,
        unrepUnits := Vector.replicate 24 0, alert := false } := by
    rw [← hq, ← hw]
    rfl
  have halert : q.alertLevel = (w &&& s.resetConfig.alertMask != 0) := by
    simp [State.alertLevel, hrun, hgap, hcflu]
  have hunits : q.recomputeAlert.cflu.noticeUnits = [] := by
    simp only [State.recomputeAlert, hcflu, FlagUnit.noticeUnits, Vector.getElem_replicate]
    decide
  have htx : q.recomputeAlert.clnk.tx = none ∧ q.recomputeAlert.clnk.owed = [] := by rw [← hq]; exact ⟨rfl, rfl⟩
  have hunrep : q.recomputeAlert.cflu.unrepDevice = w := by simp [State.recomputeAlert, hcflu]
  have hsome : q.recomputeAlert.cflu.allReported = false := by
    simp only [FlagUnit.allReported, hunrep, Bool.and_eq_false_iff]
    exact .inl (by simpa using hl)
  have hon : q.recomputeAlert.linkOn = true := by
    change (q.running && q.gapc.state.counts) = true
    rw [hrun, hgap]
    rfl
  have hstart : q.recomputeAlert.startTransmit =
      { q.recomputeAlert with
        clnk := { q.clnk with tx := some (.notice w []) }, cflu := q.recomputeAlert.cflu.emptied } := by
    rw [State.startTransmit_notice hon htx.1 htx.2 hsome, FlagUnit.notice, hunits, hunrep]
    rfl
  unfold State.finish State.finishAfter
  rw [hgrant, harb, hperm, hstart]
  simp only [State.recomputeAlert, FlagUnit.emptied, hcflu, halert]
  rw [← hq]
  rfl

theorem State.afterReset_cutLong {s : State} (h : s.ims.port ≠ some .longRequest) (n : Nat)
    (ctxs : Vector ContextRecord 24) (w : BitVec 17) : s.cutLong.afterReset n ctxs w = s.afterReset n ctxs w := by
  rw [State.cutLong_of_port h]
  rfl

theorem State.resetValid_cutLong {s : State} (h : s.ims.port ≠ some .longRequest) : s.cutLong.resetValid = s.resetValid := by
  rw [State.cutLong_of_port h]
  rfl

theorem State.running_cutLong (s : State) : s.cutLong.powered = s.powered ∧ s.cutLong.resetLow = s.resetLow := by
  rw [s.cutLong_spec]
  exact ⟨rfl, rfl⟩

/-- The flags that a reset sets, as the model's words give them. -/
theorem State.flagWord_reset (s : State) (l : List DeviceFlag) :
    flagWord (if s.resetValid then l else l ++ [.configDefaulted]) = s.resetFlags (flagWord l) := by
  unfold State.resetFlags
  split
  · rfl
  · simp [flagWord, DeviceFlag.bit]

theorem State.resetFlags_ne_zero (s : State) {w : BitVec 17} (hw : w ≠ 0) : s.resetFlags w ≠ 0 := by
  unfold State.resetFlags
  split
  · exact hw
  · intro h
    have := congrArg (·.getLsbD 13) h
    simp at this

/-- The rebuild of a reset with no array access cut off. -/
theorem State.finish_reset {s : State} (hp : s.powered = true) (hr : s.resetLow = false)
    (hport : s.ims.port ≠ some .longRequest) (n : Nat) (ctxs : Vector ContextRecord 24) (l : List DeviceFlag) (w : BitVec 17)
    (hw : flagWord l = w) (hne : w ≠ 0) : (s.cutLong.rebuild n ctxs l).finish = s.afterReset n ctxs (s.resetFlags w) := by
  have hflags : flagWord (if s.cutLong.resetValid then l else l ++ [.configDefaulted]) = s.resetFlags w := by
    rw [State.resetValid_cutLong hport, s.flagWord_reset, hw]
  rw [State.finish_rebuild _ n ctxs l (s.running_cutLong.1.trans hp) (s.running_cutLong.2.trans hr) ?_, hflags,
    State.afterReset_cutLong hport]
  rw [hflags]
  exact s.resetFlags_ne_zero hne

/-- A cold start by power, and out of LOST (R36, R189). -/
theorem State.coldStart_eq {s : State} (hp : s.powered = true) (hr : s.resetLow = false)
    (hport : s.ims.port ≠ some .longRequest) (lost : Bool) :
    s.coldStart lost =
      s.afterReset 0 (Vector.replicate 24 ContextRecord.blank) (s.resetFlags (if lost then 0x4008 else 0x4000)) := by
  cases lost with
  | true => exact State.finish_reset hp hr hport _ _ _ _ (by decide) (by decide)
  | false => exact State.finish_reset hp hr hport _ _ _ _ (by decide) (by decide)

theorem ContextRecord.acrossReset_none (r : ContextRecord) (b : Option UnitEntry) : r.acrossReset b none = .blank := by
  cases b <;> rfl

/-- The contexts that a warm reset keeps (R174). -/
theorem State.keptContexts_eq (s : State) :
    (Vector.ofFn fun u : UnitIx => (s.ctx u).acrossReset s.units[u.val] (s.loadUnits s.resetConfig)[u.val]) =
      s.keptContexts := by
  unfold State.keptContexts
  refine congrArg Vector.ofFn (funext fun u => ?_)
  change (s.ctx u).acrossReset (s.unit u) _ = _
  generalize (s.loadUnits s.resetConfig)[u.val] = after
  cases after with
  | none =>
    rw [ContextRecord.acrossReset_none]
    cases s.unit u <;> rfl
  | some e =>
    cases s.unit u with
    | none => rfl
    | some b =>
      simp only [ContextRecord.acrossReset, Option.any_some, beq_iff_eq]
      by_cases hc : b.decl.cls = e.decl.cls
      · simp [hc]
      · simp [hc]

theorem State.loadUnits_cutLong {s : State} (h : s.ims.port ≠ some .longRequest) (c : ConfigData) :
    s.cutLong.loadUnits c = s.loadUnits c := by
  rw [State.cutLong_of_port h]
  rfl

theorem State.resetConfig_cutLong {s : State} (h : s.ims.port ≠ some .longRequest) : s.cutLong.resetConfig = s.resetConfig := by
  rw [State.cutLong_of_port h]
  rfl

theorem State.ctxs_cutLong (s : State) : s.cutLong.ctxs = s.ctxs ∧ s.cutLong.units = s.units ∧ s.cutLong.gapc = s.gapc := by
  rw [s.cutLong_spec]
  exact ⟨rfl, rfl, rfl⟩

theorem State.keptContexts_cutLong {s : State} (h : s.ims.port ≠ some .longRequest) : s.cutLong.keptContexts = s.keptContexts := by
  unfold State.keptContexts State.ctx State.unit
  rw [State.resetConfig_cutLong h, State.loadUnits_cutLong h, s.ctxs_cutLong.1, s.ctxs_cutLong.2.1]

theorem State.warmReset_eq {s : State} (hp : s.powered = true) (hr : s.resetLow = false)
    (hport : s.ims.port ≠ some .longRequest) :
    s.warmReset = s.afterReset s.gapc.count s.keptContexts (s.resetFlags 0x8000) := by
  have hwarm : s.warmReset = (s.cutLong.rebuild s.cutLong.gapc.count s.cutLong.keptContexts [.warmReset]).finish := by
    rw [← s.cutLong.keptContexts_eq]
    rfl
  rw [hwarm, State.keptContexts_cutLong hport, s.ctxs_cutLong.2.2]
  exact State.finish_reset hp hr hport _ _ _ _ (by decide) (by decide)

/-- RESET released with power applied performs a reset (R37, R32). -/
theorem State.releaseReset_eq {s : State} (hr : s.resetLow = true) (hp : s.powered = true) :
    exec .resetLineReleased s =
      .next (if s.gapc.state = .lost then ({ s with resetLow := false } : State).coldStart true
        else ({ s with resetLow := false } : State).warmReset) := by
  have hboth : (s.resetLow && s.powered) = true := by simp [hr, hp]
  exact congrArg _ (if_pos hboth)

/-- Settles O21: each of the three resets rebuilds every block and begins the notice of its flags. -/
theorem powerAndResetLineRebuildThePart : Obligations.PowerAndResetLineRebuildThePart := by
  refine ⟨fun s hr hport => ?_, fun s hp hr hport hg => ?_, fun s hp hr hport hg => ?_⟩
  · exact congrArg _ (State.coldStart_eq (s := { s with powered := true }) rfl hr hport false)
  · have := State.warmReset_eq (s := { s with resetLow := false }) hp rfl hport
    rw [State.releaseReset_eq hr hp, if_neg hg, this]
    rfl
  · have := State.coldStart_eq (s := { s with resetLow := false }) hp rfl hport true
    rw [State.releaseReset_eq hr hp, if_pos hg, this]
    rfl

/-! ### The way out of LOST (R8, R32) -/

/-- Settles O28: a comparison counts, or performs the cold start. -/
theorem comparatorLeavesLost : Obligations.ComparatorLeavesLost := by
  intro s line ref hp hr hg href
  have hrun : s.running = true := by simp [State.running, hp, hr]
  have habove : (s.smon.cmpRef.any fun r => decide (r ≤ corrected line s.smon.settings.offLine)) =
      decide (ref ≤ corrected line s.smon.settings.offLine) := by rw [href]; rfl
  simp only [exec, execLineComparatorSample, hrun, hg, beq_self_eq_true, Bool.and_self, if_true, State.comparatorSample, habove]
  refine ⟨fun h => ?_, fun h hd => ?_, fun h hd hport => ?_⟩
  · simp [debounce, Nat.not_le.2 h]
  · simp [debounce, h, Nat.not_le.2 hd]
  · simp only [debounce, h, decide_true, if_true, hd, State.coldStart_eq hp hr hport true]

/-! ### Under RESET and without power (R32, R37, R52, R199) -/

theorem State.powerLoss_eq {s : State} (hport : s.ims.port ≠ some .longRequest) :
    exec .powerLoss s = .next
      { s with
        powered := false
        gapc := { s.gapc with state := if s.gapc.state = .lost then .gap else s.gapc.state }
        ims := { s.ims with port := none }
        perm := { s.perm with output := ⟨false, false, false⟩ }
        cflu := { s.cflu with alert := false }
        clnk := { s.clnk with tx := none, rx := [], long := none }
        links := ⟨s.links.a.halt, s.links.b.halt, s.links.c.halt⟩ } := by
  simp only [exec, execPowerLoss, State.cutLong_of_port hport]
  rfl

/-- What a loss of power cuts off and what it leaves of the array and the record is what `cutLong` does. -/
theorem State.powerLoss_spec (s : State) :
    ∃ s', exec .powerLoss s = .next s' ∧ s'.powered = false ∧ s'.clnk.long = none ∧ s'.cfgr = s.cutLong.cfgr ∧
      s'.ims = s.cutLong.ims :=
  ⟨_, rfl, rfl, rfl, rfl, rfl⟩

theorem State.spoilBlock_spec (s : State) (b : Nat) :
    (s.spoilBlock b).ims.slots = s.ims.slots ∧
      ∀ a, a < 1024 * b ∨ 1024 * b + 1024 ≤ a → Memory.read (s.spoilBlock b).ims.mem a = Memory.read s.ims.mem a := by
  unfold State.spoilBlock
  split
  · refine ⟨rfl, fun a ha => Memory.read_writeBlock_ne _ b a _ ?_⟩
    simp only [Config.blockBytes]
    omega
  · exact ⟨rfl, fun _ _ => rfl⟩

/-- Settles O22: the outputs fall, and a loss of power cuts off the access in progress and no other. -/
theorem outputsFallWithoutPowerOrUnderReset : Obligations.OutputsFallWithoutPowerOrUnderReset := by
  refine ⟨fun s => rfl, fun s hport => State.powerLoss_eq hport, fun s kind tag muted c hport hl => ?_,
    fun s kind tag muted k t data i hport hl hi => ?_⟩
  · obtain ⟨s', hs', -, hlong, hcfgr, hims⟩ := s.powerLoss_spec
    have herasing : s.erasing? = some c := by simp [State.erasing?, hport, hl]
    have hcut : s.cutBlock? = none := by simp [State.cutBlock?, hport, hl]
    refine ⟨s', hs', ?_, hlong, ?_⟩
    · simp [State.resetValid, hcfgr, State.cutLong, herasing]
    · simp [hims, State.cutLong, hcut]
  · obtain ⟨s', hs', hpow, hlong, hcfgr, hims⟩ := s.powerLoss_spec
    have herasing : s.erasing? = none := by simp [State.erasing?, hport, hl]
    have hcut : s.cutBlock? = some (i.first + t) := by simp [State.cutBlock?, hport, hl, hi]
    obtain ⟨hslots, hmem⟩ := s.spoilBlock_spec (i.first + t)
    refine ⟨s', hs', hpow, hlong, ?_, ?_, fun a ha => ?_⟩
    · simp [hcfgr, State.cutLong, herasing]
    · simpa [hims, State.cutLong, hcut] using hslots
    · rw [← hmem a ha]
      simp [hims, State.cutLong, hcut]

end Sys2Proof.Machine

/-! Requests whose own work is one change of the state: their operands, what they change and their replies. -/

namespace Sys2Proof.Machine

/-! ### Operands -/

theorem unitIx?_of_eq {n : Nat} {u : UnitIx} (h : n = u.val) : unitIx? n = some u := by
  subst h
  exact dif_pos u.isLt

theorem slotIx?_of_eq {n : Nat} {k : SlotIx} (h : n = k.val) : slotIx? n = some k := by
  subst h
  exact dif_pos k.isLt

theorem unitIx?_of_ge {n : Nat} (h : 24 ≤ n) : unitIx? n = none :=
  dif_neg (Nat.not_lt.2 h)

theorem slotIx?_of_ge {n : Nat} (h : 8 ≤ n) : slotIx? n = none :=
  dif_neg (Nat.not_lt.2 h)

theorem seg?_segIndex (x : Seg) : seg? (u8 [BitVec.ofNat 8 (segIndex x)] 0) = some x := by
  cases x <;> rfl

theorem State.onUnit_eq {s : State} {p : List Byte} {act : UnitIx → UnitEntry → Answer} {u : UnitIx} {e : UnitEntry}
    (h : u8 p 0 = u.val) (hu : s.unit u = some e) : s.onUnit p act = act u e := by
  simp only [State.onUnit, unitIx?_of_eq h, hu]

theorem putUnit_map {s : State} {u : UnitIx} {e : UnitEntry} (hu : s.unit u = some e) (f : UnitEntry → UnitEntry) :
    s.units.set u.val (s.units[u.val].map f) = s.units.set u.val (some (f e)) := by
  rw [show s.units[u.val] = some e from hu]
  rfl

/-! ### A request answered, or started -/

/-- A request that passes its checks ends with what its work answers. -/
theorem State.request_answers {s r : State} {kind tag : Byte} {query : Bool} {p : List Byte} {need : Option (BitVec 16)}
    {act : State → Answer} (h : s.Takes) (hp : p.length ≤ 1060) (hq : query = true ∨ s.clnk.long = none)
    (hneed : need = none) (ha : oweAnswer kind tag (act s) = r) :
    ∃ t, Host.Outcome.next (s.request kind tag query p need act) = (.next t : Host.Outcome State Fault Refusal) ∧
      State.Ends r t := by
  subst hneed ha
  exact ⟨_, rfl, by rw [State.request_works h hp hq]; exact State.ends_finish _⟩

theorem fixedNeed_eq {n : Nat} {p : List Byte} (h : p.length = n) : fixedNeed n p = none :=
  (fixedNeed_spec n p).1 h

/-! ### RELEASE_UNIT, RESET -/

/-- Settles O55: each of the two is answered with its one change. -/
theorem releaseAndResetAreAnswered : Obligations.ReleaseAndResetAreAnswered := by
  refine ⟨fun s tag b u e h hb hu hlive hre => ?_, fun s tag h => ?_⟩
  · refine State.request_answers h.1 (by simp) (.inr h.2) (fixedNeed_eq rfl) ?_
    simp only [State.releaseWork, State.onUnit_eq (p := [b]) hb hu, hlive, hre, and_self, if_true, okay, State.modUnit,
      putUnit_map hu]
    rfl
  · exact State.request_answers h.1 (by simp) (.inr h.2) (fixedNeed_eq rfl) rfl

/-! ### CLEAR_FLAGS -/

/-- CLEAR_FLAGS of fields in range and of defined units clears what it names (R182). -/
theorem State.clearFlagsWork_eq {s : State} {p : List Byte} (hc : firstBad (clearChecks p) = none)
    (hd : s.firstUndefined ((unitMasks p).map (·.1)) = none) :
    s.clearFlagsWork p =
      okay (s.clearNamed (deviceMask p) (unitMasks p))
        (.deviceFlags (s.clearNamed (deviceMask p) (unitMasks p)).cflu.device) := by
  simp only [State.clearFlagsWork, hc, hd]

theorem unitMask?_word (high low : Byte) (mask : BitVec 13)
    (h : high = 0xFF ∧ low = 0xFF ∧ mask = BitVec.allOnes 13 ∨
      high.toNat < 32 ∧ mask = BitVec.ofNat 13 (256 * high.toNat + low.toNat)) :
    unitMask? (high.toNat * 256 + low.toNat) = some mask := by
  rcases h with ⟨rfl, rfl, rfl⟩ | ⟨hh, rfl⟩
  · exact if_pos (by decide)
  · have hlt : high.toNat * 256 + low.toNat < 2 ^ 13 := by
      have := low.isLt
      omega
    rw [unitMask?, if_neg (by omega), if_pos hlt, Nat.mul_comm]

/-- Settles O57: CLEAR_FLAGS clears the flag, or the unit's flags, that it names. -/
theorem clearFlagsClears : Obligations.ClearFlagsClears := by
  refine fun s tag h => ⟨fun n hn => ?_, fun b high low u e mask hb hu hm => ?_⟩
  · refine State.request_answers h.1 (by simp) (.inr h.2) rfl ?_
    have hc : firstBad (clearChecks [1, n, 0]) = none := by
      simp [firstBad, clearChecks, deviceNumbers, unitWords, u8, hn]
    have hmasks : unitMasks [1, n, 0] = [] := rfl
    have hdev : deviceMask [1, n, 0] = BitVec.twoPow 17 n.toNat := by simp [deviceMask, deviceNumbers, u8]
    rw [State.clearFlagsWork_eq hc (by rw [hmasks]; rfl), hmasks, hdev]
    rfl
  · refine State.request_answers h.1 (by simp) (.inr h.2) rfl ?_
    have hword : unitWords [0, 1, b, high, low] = [(b.toNat, high.toNat * 256 + low.toNat)] := rfl
    have hix : unitIx? b.toNat = some u := unitIx?_of_eq hb
    have hmask := unitMask?_word high low mask hm
    have hmasks : unitMasks [0, 1, b, high, low] = [(u, mask)] := by
      simp only [unitMasks, hword, List.filterMap_cons, hix, hmask, Option.bind_some, Option.map_some, List.filterMap_nil]
    have hdev : deviceMask [0, 1, b, high, low] = 0 := rfl
    have hc : firstBad (clearChecks [0, 1, b, high, low]) = none := by
      have hchecks : clearChecks [0, 1, b, high, low] = [(3, (unitIx? b.toNat).isSome),
          (4, (unitMask? (high.toNat * 256 + low.toNat)).isSome)] := rfl
      rw [hchecks, hix, hmask]
      rfl
    rw [State.clearFlagsWork_eq hc (by rw [hmasks]; simp [State.firstUndefined, hu]), hmasks, hdev]
    have hall : ~~~(0 : BitVec 17) = BitVec.allOnes 17 := rfl
    simp only [State.clearNamed, List.foldl_cons, List.foldl_nil, State.clearUnitFlags, FlagUnit.clearDevice,
      FlagUnit.forgetUnit, okay, putUnit_map hu, hall, BitVec.and_allOnes]
    rfl

/-! ### CONTEXT_WRITE -/

/-- A door content with a known position inside its stroke and no obstruction part passes every check (R156, R169). -/
theorem doorChecks_none {p : List Byte} {leaf : Leaf} (hl : leaf? (u8 p 1) = some leaf) (hk : u8 p 2 = 1)
    (hpos : u16 p 3 ≤ u16 p 5) (hs : 1 ≤ u16 p 5) (ho : u8 p 10 = 0) : firstBad (doorChecks p) = none := by
  simp [firstBad, doorChecks, hl, doorPosition, doorObstruction, hk, ho, hpos, hs, onOff?]

theorem doorContentOf_eq {p : List Byte} {leaf : Leaf} (hl : leaf? (u8 p 1) = some leaf) (hk : u8 p 2 = 1)
    (ho : u8 p 10 = 0) :
    doorContentOf p =
      { leaf := leaf, position := some (u16 p 3), stroke := u16 p 5, cycles := u24 p 7, obstruction := none } := by
  simp [doorContentOf, hl, doorPosition, doorObstruction, hk, ho]

theorem contentOf_door {c : UnitClass} (h : c = .door ∨ c = .ramp) (p : List Byte) :
    contentOf c p = .door (doorContentOf p) ∧ contentChecks c p = doorChecks p := by
  rcases h with rfl | rfl <;> exact ⟨rfl, rfl⟩

/-- Settles O56: a content whose fields are in range is the record's, captured now. -/
theorem contextWriteFreezesItsContent : Obligations.ContextWriteFreezesItsContent := by
  intro s tag p u e h hp hu he hst hval hneed
  have writes (hgood : firstBad (contentChecks e.decl.cls p) = none) :
      s.contextWriteWork p = okay (s.putCtx u (.hostWritten s.tick (contentOf e.decl.cls p))) .nothing := by
    have hv : ¬((s.ctx u).validity ≠ .empty ∧ (s.ctx u).validity ≠ .frozen) := by
      rintro ⟨h1, h2⟩
      exact hval.elim h1 h2
    simp only [State.contextWriteWork, State.onUnit_eq hu he, if_neg hv, if_neg hst, hgood]
  refine ⟨fun hgood => State.request_answers h.1 hp (.inr h.2) hneed
    (by rw [writes hgood]; rfl), fun leaf hc hl hk hpos hs ho => ?_⟩
  obtain ⟨hcontent, hchecks⟩ := contentOf_door hc p
  have := writes (hchecks ▸ doorChecks_none hl hk hpos hs ho)
  rw [hcontent, doorContentOf_eq hl hk ho] at this
  exact State.request_answers h.1 hp (.inr h.2) hneed (by rw [this]; rfl)

/-! ### Image requests and SAVE_CONFIG -/

theorem State.otherClass?_none {s : State} {k : SlotIx} {c : UnitClass}
    (h : ∀ u e, s.unit u = some e → e.decl.slot = k → e.decl.cls = c) : s.otherClass? k c = none := by
  refine List.find?_eq_none.2 fun u _ hu => ?_
  obtain ⟨e, he, hb⟩ := (Option.any_eq_true _ _).1 hu
  simp only [Bool.and_eq_true, beq_iff_eq, bne_iff_ne] at hb
  exact hb.2 (h u e he hb.1)

/-- IMAGE_OPEN past its checks allocates by first fit (R43, R44). -/
theorem State.imageOpenWork_eq {s : State} {p : List Byte} {k : SlotIx} {c : UnitClass}
    (hg : s.gapc.state = .supplied ∨ s.gapc.state = .restore) (hk : u8 p 0 = k.val) (hc : class? (u8 p 1) = some c)
    (hl : 1 ≤ u8 p 6 ∧ u8 p 6 ≤ 128) (hin : s.inUse k = false)
    (hcls : ∀ u e, s.unit u = some e → e.decl.slot = k → e.decl.cls = c) :
    (∀ f, firstFit (s.availableTo k) (u8 p 6) = some f →
      s.imageOpenWork p = okay (s.putSlot k (.loading (openedInfo p c f) 0 [])) (.firstBlock f)) ∧
    (firstFit (s.availableTo k) (u8 p 6) = none →
      s.imageOpenWork p = refuse s (.full (longestRun (s.availableTo k)))) := by
  have hcarries := (GapState.carries_iff _).2 hg
  have hnone := State.otherClass?_none hcls
  refine ⟨fun f hf => ?_, fun hf => ?_⟩ <;>
    simp only [State.imageOpenWork, slotIx?_of_eq hk, hc, hl, and_self, decide_true, Bool.not_true, Bool.false_eq_true,
      if_false, hcarries, hin, hnone, hf]

/-- Settles O58: past its checks the request takes the first fit, or is refused where there is none. -/
theorem imageOpenAllocates : Obligations.ImageOpenAllocates := by
  intro s tag p k c h hp hg hk hc hl1 hl2 hin hcls
  obtain ⟨hsome, hnone⟩ := State.imageOpenWork_eq hg hk hc ⟨hl1, hl2⟩ hin hcls
  refine ⟨fun f hf => ?_, fun hf => ?_⟩
  · exact State.request_answers h.1 (by omega) (.inr h.2) (fixedNeed_eq hp) (by rw [hsome f hf]; rfl)
  · exact State.request_answers h.1 (by omega) (.inr h.2) (fixedNeed_eq hp) (by rw [hnone hf]; rfl)

/-- Settles O59: each of the four, past its checks, is in progress with its work. -/
theorem longRequestsStart : Obligations.LongRequestsStart := by
  refine fun s tag h => ⟨fun k i cursor written hslot => ⟨fun b index data hb hd => ?_, fun b hb => ?_⟩, fun hg => ⟨fun b k hb hin => ?_, ?_⟩⟩
  · intro target ht
    have hneed : imageDataNeed ([b, index, 0x04, 0x00] ++ data) = none := by
      simp [imageDataNeed, u16, u8, fixedNeed, hd]
    refine State.request_answers h.1 (by simp [hd]) (.inr h.2) hneed ?_
    have htarget : targetOf ([b, index, 0x04, 0x00] ++ data) cursor = target := by
      simp only [targetOf, wordByte, target, u8]
      by_cases hx : index = 0xFF
      · subst hx
        rfl
      · rw [if_neg hx]
        refine if_neg ?_
        exact fun hn => hx (BitVec.eq_of_toNat_eq hn)
    simp only [State.imageDataWork, slotIx?_of_eq (n := u8 ([b, index, 0x04, 0x00] ++ data) 0) hb, hslot, htarget, if_pos ht]
    rfl
  · refine State.request_answers h.1 (by simp) (.inr h.2) (fixedNeed_eq rfl) ?_
    simp only [State.imageCloseWork, slotIx?_of_eq (n := u8 [b] 0) hb, hslot]
    rfl
  · refine State.request_answers h.1 (by simp) (.inr h.2) (fixedNeed_eq rfl) ?_
    simp only [State.imageEraseWork, slotIx?_of_eq (n := u8 [b] 0) hb, (GapState.carries_iff _).2 hg, hin, Bool.not_true,
      Bool.false_eq_true, if_false]
    rfl
  · refine State.request_answers h.1 (by simp) (.inr h.2) (fixedNeed_eq rfl) ?_
    exact congrArg (oweAnswer 0x08 tag) (if_pos ((GapState.carries_iff _).2 hg))

/-! ### Queries -/

/-- Settles O60: the six queries, which are answered also while a long request is in progress. -/
theorem queriesReport : Obligations.QueriesReport := by
  intro s tag h
  have hunit (b : Byte) (u : UnitIx) (hb : b.toNat = u.val) : unitIx? (u8 [b] 0) = some u := unitIx?_of_eq hb
  refine ⟨State.request_answers h (by simp) (.inl rfl) (fixedNeed_eq rfl) rfl,
    State.request_answers h (by simp) (.inl rfl) (fixedNeed_eq rfl) rfl,
    State.request_answers h (by simp) (.inl rfl) (fixedNeed_eq rfl) rfl,
    fun b u hb => ⟨fun hu => ⟨?_, ?_⟩, fun e hu => ⟨?_, ?_⟩⟩, fun b k hb => ?_, fun b => ⟨fun hb => ⟨?_, ?_⟩, fun hb => ?_⟩⟩
  · exact State.request_answers h (by simp) (.inl rfl) (fixedNeed_eq rfl) (by simp only [hunit b u hb, hu]; rfl)
  · exact State.request_answers h (by simp) (.inl rfl) (fixedNeed_eq rfl) (by simp only [hunit b u hb, hu]; rfl)
  · exact State.request_answers h (by simp) (.inl rfl) (fixedNeed_eq rfl) (by simp only [hunit b u hb, hu]; rfl)
  · exact State.request_answers h (by simp) (.inl rfl) (fixedNeed_eq rfl) (by simp only [hunit b u hb, hu]; rfl)
  · exact State.request_answers h (by simp) (.inl rfl) (fixedNeed_eq rfl)
      (by simp only [slotIx?_of_eq (n := u8 [b] 0) hb]; rfl)
  · exact State.request_answers h (by simp) (.inl rfl) (fixedNeed_eq rfl)
      (by simp only [unitIx?_of_ge (n := u8 [b] 0) hb]; rfl)
  · exact State.request_answers h (by simp) (.inl rfl) (fixedNeed_eq rfl)
      (by simp only [unitIx?_of_ge (n := u8 [b] 0) hb]; rfl)
  · exact State.request_answers h (by simp) (.inl rfl) (fixedNeed_eq rfl)
      (by simp only [slotIx?_of_ge (n := u8 [b] 0) hb]; rfl)

end Sys2Proof.Machine

/-! The setting requests (R15, R16, R120, R171, R186, R195), and TRANSMIT_DONE (R184, R194, R197). -/

namespace Sys2Proof.Machine

/-! ### SET_MONITOR -/

/-- Settings whose fields are in range pass every check (R15). -/
theorem monitorChecks_none {m : MonitorSettings} (hn : m.n = 1 ∨ m.n = 2 ∨ m.n = 4 ∨ m.n = 8)
    (ho : ∀ v ∈ [m.offLine, m.offHold, m.offSense.a, m.offSense.b, m.offSense.c], -128 ≤ v ∧ v ≤ 127)
    (henter : 5000 ≤ m.gapEnter ∧ m.gapEnter ≤ 30000) (hexit : m.gapEnter + 500 ≤ m.gapExit ∧ m.gapExit ≤ 38000)
    (hdeep : 3000 ≤ m.holdDeep ∧ m.holdDeep ≤ 18000) (hretain : 2500 ≤ m.holdRetain ∧ m.holdRetain + 500 ≤ m.holdDeep) :
    firstBad (monitorChecks m) = none := by
  simp only [List.mem_cons, List.not_mem_nil, or_false, forall_eq_or_imp, forall_eq] at ho
  have hok : (m.n == 1 || m.n == 2 || m.n == 4 || m.n == 8) = true := by
    rcases hn with h | h | h | h <;> rw [h] <;> rfl
  simp [firstBad, monitorChecks, offsetOk, hok, ho, henter, hexit, hdeep, hretain]

/-- An N out of range is the first field that fails (R15). -/
theorem monitorChecks_n {m : MonitorSettings} (h1 : m.n ≠ 1) (h2 : m.n ≠ 2) (h4 : m.n ≠ 4) (h8 : m.n ≠ 8) :
    firstBad (monitorChecks m) = some 1 := by
  simp [firstBad, monitorChecks, h1, h2, h4, h8]

theorem thresholdsDiffer_iff (a b : MonitorSettings) :
    thresholdsDiffer a b = true ↔ a.gapEnter ≠ b.gapEnter ∨ a.gapExit ≠ b.gapExit ∨ a.holdDeep ≠ b.holdDeep ∨
      a.holdRetain ≠ b.holdRetain ∨ a.d ≠ b.d := by
  simp [thresholdsDiffer, or_assoc]

theorem Monitor.recount_classes (m : Monitor) (x : Seg) :
    perGet m.recount.classes x = { perGet m.classes x with candidate := none, count := 0 } := by
  cases x <;> rfl

/-- What new settings change of the monitor (R16). -/
theorem Monitor.apply_spec (m : Monitor) (new : MonitorSettings) :
    (m.apply new).settings = new ∧ (m.apply new).senseOn = m.senseOn ∧ (m.apply new).cmpRef = m.cmpRef ∧
      (new.n ≠ m.settings.n → (m.apply new).winLine = [] ∧ (m.apply new).winHold = [] ∧
        (m.apply new).winSense = ⟨[], [], []⟩) ∧
      (¬new.n ≠ m.settings.n → (m.apply new).winLine = m.winLine ∧ (m.apply new).winHold = m.winHold ∧
        (m.apply new).winSense = m.winSense) ∧
      (thresholdsDiffer new m.settings = true → (m.apply new).lineLost = 0 ∧ (m.apply new).lineBack = 0 ∧
        (m.apply new).holdDeep = 0 ∧ (m.apply new).holdExhausted = 0 ∧
        ∀ x, perGet (m.apply new).classes x = { perGet m.classes x with candidate := none, count := 0 }) ∧
      (¬thresholdsDiffer new m.settings = true → (m.apply new).lineLost = m.lineLost ∧
        (m.apply new).lineBack = m.lineBack ∧ (m.apply new).holdDeep = m.holdDeep ∧
        (m.apply new).holdExhausted = m.holdExhausted ∧ (m.apply new).classes = m.classes) := by
  by_cases hn : new.n ≠ m.settings.n <;> by_cases ht : thresholdsDiffer new m.settings = true
  · have e : m.apply new = { m.refill.recount with settings := new } := by simp only [Monitor.apply, if_pos hn, if_pos ht]
    rw [e]
    exact ⟨rfl, rfl, rfl, fun _ => ⟨rfl, rfl, rfl⟩, fun h => absurd hn h,
      fun _ => ⟨rfl, rfl, rfl, rfl, m.refill.recount_classes⟩, fun h => absurd ht h⟩
  · have e : m.apply new = { m.refill with settings := new } := by simp only [Monitor.apply, if_pos hn, if_neg ht]
    rw [e]
    exact ⟨rfl, rfl, rfl, fun _ => ⟨rfl, rfl, rfl⟩, fun h => absurd hn h, fun h => absurd h ht,
      fun _ => ⟨rfl, rfl, rfl, rfl, rfl⟩⟩
  · have e : m.apply new = { m.recount with settings := new } := by simp only [Monitor.apply, if_neg hn, if_pos ht]
    rw [e]
    exact ⟨rfl, rfl, rfl, fun h => absurd h hn, fun _ => ⟨rfl, rfl, rfl⟩,
      fun _ => ⟨rfl, rfl, rfl, rfl, m.recount_classes⟩, fun h => absurd ht h⟩
  · have e : m.apply new = { m with settings := new } := by simp only [Monitor.apply, if_neg hn, if_neg ht]
    rw [e]
    exact ⟨rfl, rfl, rfl, fun h => absurd h hn, fun _ => ⟨rfl, rfl, rfl⟩, fun h => absurd h ht,
      fun _ => ⟨rfl, rfl, rfl, rfl, rfl⟩⟩

/-- Settles O48: SET_MONITOR in range applies the settings with their consequences; N out of range is field 1. -/
theorem setMonitorAppliesOrRefuses : Obligations.SetMonitorAppliesOrRefuses := by
  intro s tag p h hp m inRange refill recount
  have hm : monitorOf p = m := rfl
  refine ⟨fun hn h1 h2 h3 h4 h5 h6 h7 h8 h9 h10 h11 h12 h13 => ?_, fun h1 h2 h4 h8 => ?_⟩
  · have hgood : firstBad (monitorChecks m) = none :=
      monitorChecks_none hn (by simpa using ⟨h1, h2, h3, h4, h5⟩) ⟨h6, h7⟩ ⟨h8, h9⟩ ⟨h10, h11⟩ ⟨h12, h13⟩
    have hwork : s.setMonitorWork p = okay { s with smon := s.smon.apply m } (.monitor m) := by
      simp only [State.setMonitorWork, hm, hgood]
    obtain ⟨t, ht, hends⟩ := State.request_answers (kind := 0x01) (tag := tag) (query := false) (p := p)
      (act := fun s => s.setMonitorWork p) (r := { s.replied 0x01 tag (.ok (.monitor m)) with smon := s.smon.apply m }) h.1
      (by omega) (.inr h.2) (fixedNeed_eq hp) (by simp only [hwork]; rfl)
    have hsmon : t.smon = s.smon.apply m := by rw [hends.same]
    obtain ⟨a1, a2, a3, a4, a5, a6, a7⟩ := s.smon.apply_spec m
    rw [thresholdsDiffer_iff] at a6 a7
    refine ⟨t, ht, ?_⟩
    rw [hsmon]
    exact ⟨hends, a1, a2, a3, a4, a5, a6, a7⟩
  · refine State.request_answers h.1 (by omega) (.inr h.2) (fixedNeed_eq hp) ?_
    simp only [State.setMonitorWork, hm, monitorChecks_n (m := m) h1 h2 h4 h8]
    rfl

/-! ### SET_TIMING, SET_MASKS, SET_PERMIT_ENABLE -/

/-- The outputs are recomputed at the end of a command also where the command has recomputed them (R171). -/
theorem State.finish_recomputePermits (s : State) : s.recomputePermits.finish = s.finish := by
  have hagain : ((s.recomputePermits.grantPort none).arbitrate).recomputePermits =
      ((s.grantPort none).arbitrate).recomputePermits := by
    have hfix : perOf (s.recomputePermits.grantPort none).arbitrate.permitFor =
        (s.recomputePermits.grantPort none).arbitrate.perm.output := rfl
    rw [State.recomputePermits, if_pos hfix]
    rfl
  unfold State.finish State.finishAfter
  rw [hagain]

theorem State.finish_output (s : State) : s.finish.perm.output = perOf s.permitFor := by
  have hperm : s.finish.perm = (s.outputsUpdated none).perm := by
    rcases (s.outputsUpdated none).startTransmit_spec with ⟨-, h⟩ | ⟨-, -, ⟨-, h⟩ | ⟨-, -, h⟩ | ⟨-, -, h⟩⟩ <;>
      exact congrArg (·.perm) h
  rw [hperm]
  rfl

/-- SET_PERMIT_ENABLE past its checks sets the enable and recomputes the outputs (R171). -/
theorem State.setPermitWork_eq (s : State) (x : Seg) (v : Bool) :
    let t : State := { s with perm := { s.perm with enable := perSet s.perm.enable x v } }
    s.setPermitWork [BitVec.ofNat 8 (segIndex x), if v then 1 else 0] =
      okay t.recomputePermits (.permit (perGet (perOf t.permitFor) x)) := by
  cases x <;> cases v <;> rfl

/-- SET_PERMIT_ENABLE ends with the output as recomputed in its reply (R171). -/
theorem State.setPermit_ends {s : State} (h : s.TakesWork) (tag : Byte) (x : Seg) (v : Bool) {q : State}
    (hq : q = { s with perm := { s.perm with enable := perSet s.perm.enable x v } }) :
    ∃ t, exec (.setPermitEnable tag [BitVec.ofNat 8 (segIndex x), if v then 1 else 0]) s = .next t ∧
      State.Ends (q.replied 0x04 tag (.ok (.permit (perGet (perOf q.permitFor) x)))) t ∧
      t.perm.output = perOf q.permitFor := by
  have hwork : s.setPermitWork [BitVec.ofNat 8 (segIndex x), if v then 1 else 0] =
      okay q.recomputePermits (.permit (perGet (perOf q.permitFor) x)) := by
    rw [hq]
    exact s.setPermitWork_eq x v
  generalize hR : (.permit (perGet (perOf q.permitFor) x) : Result) = R at hwork ⊢
  refine ⟨(q.replied 0x04 tag (.ok R)).finish, ?_, State.ends_finish _, State.finish_output _⟩
  refine congrArg Host.Outcome.next (Eq.trans (State.request_works h.1 (by simp) (.inr h.2)) ?_)
  rw [hwork]
  exact (q.replied 0x04 tag (.ok R)).finish_recomputePermits

theorem timingOf_eq (p : List Byte) :
    timingOf p =
      { settle := max 10 (min 2000 (u16 p 0)), answer := max 2 (min 50 (u8 p 2)), verify := max 50 (min 1000 (u16 p 3)),
        retryLimit := min 7 (u8 p 5), pollPeriod := max 20 (min 1000 (u16 p 6)),
        ageDoor := max 100 (min 10000 (u16 p 8)), ageRamp := max 100 (min 10000 (u16 p 10)),
        maxWindow := max 1 (min 8 (u8 p 12)) } := by
  simp [timingOf, clamp]

theorem masksOf_eq (p : List Byte) :
    responseMasksOf p = BitVec.ofNat 9 (u8 p 0 + 256 * u8 p 1) ∧
      alertMaskOf p = BitVec.ofNat 17 (u8 p 2 + 256 * u8 p 3 + 65536 * u8 p 4) := by
  constructor
  · exact congrArg (BitVec.ofNat 9) (by simp [flagBits, List.range_succ, Nat.mul_comm])
  · exact congrArg (BitVec.ofNat 17) (by simp [flagBits, List.range_succ, Nat.mul_comm, Nat.add_assoc])

/-- Settles O49: each of the three sets what it carries, clamped or cut to its width. -/
theorem timingMasksAndPermitEnablesAreSet : Obligations.TimingMasksAndPermitEnablesAreSet := by
  refine fun s tag p h => ⟨fun x v => ?_, fun hp => ?_, fun hp => ?_⟩
  · obtain ⟨t, ht, hends, hout⟩ := State.setPermit_ends h tag x v rfl
    exact ⟨t, ht, by rw [hout]; exact hends⟩
  · intro tm fix
    have htm : timingOf p = tm := timingOf_eq p
    refine ⟨fun hw => ?_, fun hw => ?_⟩
    · refine State.request_answers h.1 (by omega) (.inr h.2) (fixedNeed_eq hp) ?_
      simp only [htm, State.applyTiming, hw, ne_eq, not_true_eq_false, if_false]
      rfl
    · refine State.request_answers h.1 (by omega) (.inr h.2) (fixedNeed_eq hp) ?_
      simp only [htm, State.applyTiming, if_pos hw]
      rfl
  · intro r a
    refine State.request_answers h.1 (by omega) (.inr h.2) (fixedNeed_eq hp) ?_
    simp only [(masksOf_eq p).1, (masksOf_eq p).2]
    rfl

/-! ### TRANSMIT_DONE -/

/-- With no reply owed an idle transmitter sends a notice that names every unreported device flag (R184). -/
theorem State.Ends.noticed {s t : State} (h : State.Ends s t) (hon : s.linkOn = true) (htx : s.clnk.tx = none)
    (howed : s.clnk.owed = []) (hn : s.cflu.unrepDevice ≠ 0) :
    t.cflu.unrepDevice = 0 ∧
      ∃ d l, t.clnk.tx = some (.notice d l) ∧ s.cflu.unrepDevice &&& d = s.cflu.unrepDevice := by
  have hsub : s.cflu.unrepDevice &&& (s.reporting t).unrepDevice = s.cflu.unrepDevice := by
    simp only [State.reporting]
    split
    · simp
    · ext i
      simp
      tauto
  have hsome : (s.reporting t).allReported = false := by
    simp only [FlagUnit.allReported, Bool.and_eq_false_iff]
    refine .inl ?_
    simp only [beq_eq_false_iff_ne]
    intro hz
    rw [hz] at hsub
    exact hn (by simpa using hsub.symm)
  have hun := h.unreported
  rw [if_pos ⟨htx, hon, howed, hsome⟩] at hun
  obtain ⟨ht, hdev, -⟩ := hun
  exact ⟨hdev, _, _, ht, hsub⟩

theorem ControlLink.takePlace_of_not_finished {c : ControlLink} (h : ∀ l st, c.long = some l → l.work ≠ .finished st) :
    c.takePlace = c := by
  unfold ControlLink.takePlace
  cases hl : c.long with
  | none => rfl
  | some l =>
    cases hw : l.work with
    | finished st => exact absurd hw (h l st hl)
    | _ => simp only [hw]

theorem ControlLink.takePlace_finished {c : ControlLink} {l : LongRequest} {st : Status} (hl : c.long = some l)
    (hw : l.work = .finished st) (ho : c.owed.length < 4) :
    c.takePlace = { c with owed := c.owed ++ [⟨l.kind, l.tag, st⟩], long := none } := by
  simp only [ControlLink.takePlace, hl, hw, if_pos ho]

theorem State.afterReset_clnk (s : State) (c : ControlLink) (n : Nat) (ctxs : Vector ContextRecord 24) (w : BitVec 17) :
    ({ s with clnk := c } : State).afterReset n ctxs w = s.afterReset n ctxs w :=
  rfl

/-- TRANSMIT_DONE with a frame on the line. -/
theorem exec_transmitDone {s : State} (hon : s.linkOn = true) {x : Transmission} (hx : s.clnk.tx = some x) :
    exec .transmitDone s = .next s.transmitDone := by
  have hboth : (s.linkOn && s.clnk.tx.isSome) = true := by simp [hon, hx]
  exact congrArg _ (if_pos hboth)

/-- After a reply that is not the RESET reply the command ends with the place taken (R194). -/
theorem State.transmitDone_reply {s : State} (hx : s.clnk.tx = some .reply)
    (hr : (s.clnk.resetAccepted && (s.clnk.owed.length == 1)) = false) :
    s.transmitDone =
      ({ s with clnk := ControlLink.takePlace { s.clnk with tx := none, owed := s.clnk.owed.drop 1 } } : State).finish := by
  simp only [State.transmitDone, hx, hr, Bool.false_eq_true, if_false]

/-- Settles O46: each frame's end, with what goes out next. -/
theorem transmitDoneGoesOn : Obligations.TransmitDoneGoesOn := by
  intro s hp hr hg noticed
  have hon : s.linkOn = true := by simp [State.linkOn, State.running, hp, hr, (GapState.counts_iff _).2 hg]
  refine ⟨fun hx ha hl => ?_, fun l st hx ha hl hw ho => ?_, fun d l hx => ?_, fun hx ha ho hport => ?_⟩
  · rw [exec_transmitDone hon hx, State.transmitDone_reply hx (by simp [ha]),
      ControlLink.takePlace_of_not_finished (c := { s.clnk with tx := none, owed := s.clnk.owed.drop 1 }) hl]
    have hends := State.ends_finish
      { s with clnk := { s.clnk with tx := none, owed := s.clnk.owed.drop 1 } }
    refine ⟨_, rfl, hends, fun h1 => hends.reply rfl hon ?_, fun h1 => hends.noticed hon rfl ?_⟩
    · exact fun hnil => absurd (List.drop_eq_nil_iff.1 hnil) (Nat.not_le.2 h1)
    · exact List.drop_eq_nil_iff.2 h1
  · rw [exec_transmitDone hon hx, State.transmitDone_reply hx (by simp [ha]),
      ControlLink.takePlace_finished (c := { s.clnk with tx := none, owed := s.clnk.owed.drop 1 }) (l := l) (st := st) hl hw
        (by simp; omega)]
    have hends := State.ends_finish
      { s with
        clnk := { s.clnk with tx := none, long := none, owed := s.clnk.owed.drop 1 ++ [⟨l.kind, l.tag, st⟩] } }
    exact ⟨_, rfl, hends.reply rfl hon (by simp), hends⟩
  · have hdone : s.transmitDone = ({ s with clnk := { s.clnk with tx := none } } : State).finish := by
      simp only [State.transmitDone, hx]
    rw [exec_transmitDone hon hx, hdone]
    have hends := State.ends_finish { s with clnk := { s.clnk with tx := none } }
    exact ⟨_, rfl, hends, fun h1 => hends.reply rfl hon h1, fun h1 => hends.noticed hon rfl h1⟩
  · have hboth : (s.clnk.resetAccepted && (s.clnk.owed.length == 1)) = true := by simp [ha, ho]
    have hdone : s.transmitDone =
        ({ s with
          clnk := ControlLink.takePlace { s.clnk with tx := none, owed := s.clnk.owed.drop 1 } } : State).warmReset := by
      simp only [State.transmitDone, hx, hboth, if_true]
    generalize ControlLink.takePlace { s.clnk with tx := none, owed := s.clnk.owed.drop 1 } = c at hdone
    rw [exec_transmitDone hon hx, hdone, State.warmReset_eq (s := { s with clnk := c }) hp hr hport]
    rfl

end Sys2Proof.Machine

/-! Frames of the control link and the segments: the checks of R191, received and sent bytes, discarded frames
(R79, R80, R190, R203, R205). -/

namespace Sys2Proof.Machine

/-! ### A request's checks (R191, R192, R204) -/

/-- Every request is taken with its kind, tag and payload, and with the length its kind calls for. -/
theorem exec_request {c : Instr} {kind : Byte} (h : c.requestKind? = some kind) (s : State) :
    ∃ need act, exec c s = .next (s.request kind c.tag c.isQuery c.payload need act) ∧
      (∀ n, c.fixedLength? = some n → need = fixedNeed n c.payload) ∧
      (kind = 0x11 → need = imageDataNeed c.payload ∧ c.isQuery = false) ∧
      (kind = 0x26 → need = clearFlagsNeed c.payload ∧ c.isQuery = false) ∧
      (kind = 0x25 → need = s.contextWriteNeed c.payload ∧ c.isQuery = false) := by
  cases c with
  | imageData tag p =>
    cases h
    exact ⟨_, _, rfl, fun n h => (by cases h), fun _ => ⟨rfl, rfl⟩, fun h => absurd h (by decide), fun h => absurd h (by decide)⟩
  | clearFlags tag p =>
    cases h
    exact ⟨_, _, rfl, fun n h => (by cases h), fun h => absurd h (by decide), fun _ => ⟨rfl, rfl⟩, fun h => absurd h (by decide)⟩
  | contextWrite tag p =>
    cases h
    exact ⟨_, _, rfl, fun n h => (by cases h), fun h => absurd h (by decide), fun h => absurd h (by decide), fun _ => ⟨rfl, rfl⟩⟩
  | _ =>
    cases h <;>
    exact ⟨_, _, rfl, fun n h => (by cases h; rfl), fun h => absurd h (by decide), fun h => absurd h (by decide),
      fun h => absurd h (by decide)⟩

/-- What a list's length check comes to: a count that no layout holds, a length the count does not call for, the length it
calls for, and a payload that ends before its count (R192). -/
structure ListNeed (need : Option (BitVec 16)) (p : List Byte) (i most width before : Nat) : Prop where
  tooMany : i < p.length → most < u8 p i → need = some 0
  wrong : i < p.length → u8 p i ≤ most → p.length ≠ before + width * u8 p i →
    need = some (BitVec.ofNat 16 (before + width * u8 p i))
  fits : i < p.length → u8 p i ≤ most → p.length = before + width * u8 p i → need = none
  missing : p.length ≤ i → ∃ v, need = some v

theorem listNeed_spec (i : Nat) (p : List Byte) : ListNeed (listNeed i p) p i 4 2 (i + 1) where
  tooMany h h' := by rw [listNeed, if_neg (by omega), if_pos h']
  wrong h h' hne := by rw [listNeed, if_neg (by omega), if_neg (by omega)]; exact (fixedNeed_spec _ _).2 hne
  fits h h' he := by rw [listNeed, if_neg (by omega), if_neg (by omega)]; exact fixedNeed_eq he
  missing h := ⟨_, if_pos (by omega)⟩

theorem clearFlagsNeed_spec (p : List Byte) :
    (p.length = 0 → ∃ v, clearFlagsNeed p = some v) ∧ (1 ≤ p.length → 17 < u8 p 0 → clearFlagsNeed p = some 0) ∧
      (1 ≤ p.length → u8 p 0 ≤ 17 → ListNeed (clearFlagsNeed p) p (1 + u8 p 0) 24 3 (2 + u8 p 0)) := by
  refine ⟨fun h => ⟨_, if_pos (by omega)⟩, fun h h' => ?_, fun h h' => ?_⟩
  · rw [clearFlagsNeed, if_neg (by omega), if_pos h']
  · rw [clearFlagsNeed, if_neg (by omega), if_neg (by omega)]
    refine ⟨fun h1 h2 => ?_, fun h1 h2 hne => ?_, fun h1 h2 he => ?_, fun h1 => ⟨_, if_pos (by omega)⟩⟩
    · rw [if_neg (by omega), if_pos h2]
    · rw [if_neg (by omega), if_neg (by omega)]
      exact (fixedNeed_spec _ _).2 hne
    · rw [if_neg (by omega), if_neg (by omega)]
      exact fixedNeed_eq he

theorem imageDataNeed_spec (p : List Byte) :
    (4 ≤ p.length → u16 p 2 ≠ 1024 → imageDataNeed p = some 0) ∧
      (p.length < 4 ∨ u16 p 2 = 1024 ∧ p.length ≠ 1028 → imageDataNeed p = some 1028) ∧
      (u16 p 2 = 1024 → p.length = 1028 → imageDataNeed p = none) := by
  refine ⟨fun h h' => ?_, fun h => ?_, fun h h' => ?_⟩
  · rw [imageDataNeed, if_neg (by omega), if_pos h']
  · by_cases h4 : p.length < 4
    · exact if_pos h4
    · obtain ⟨he, hne⟩ := h.resolve_left h4
      rw [imageDataNeed, if_neg h4, if_neg (not_not.2 he)]
      exact (fixedNeed_spec _ _).2 hne
  · rw [imageDataNeed, if_neg (by omega), if_neg (not_not.2 h)]
    exact fixedNeed_eq h'

theorem State.contextWriteNeed_unit {s : State} {p : List Byte} (hp : 1 ≤ p.length) {u : UnitIx} (hu : u8 p 0 = u.val)
    {e : UnitEntry} (he : s.unit u = some e) :
    (e.decl.cls = .door ∨ e.decl.cls = .ramp → s.contextWriteNeed p = fixedNeed 14 p) ∧
      (e.decl.cls = .dest ∨ e.decl.cls = .saloon → s.contextWriteNeed p = listNeed 6 p) ∧
      (e.decl.cls = .announce → s.contextWriteNeed p = listNeed 2 p) := by
  simp only [State.contextWriteNeed, if_neg (show ¬p.length < 1 by omega), unitIx?_of_eq hu, Option.bind_some, he]
  cases e.decl.cls <;> simp

theorem State.contextWriteNeed_empty {s : State} {p : List Byte} (hp : 1 ≤ p.length)
    (hu : ∀ u : UnitIx, u8 p 0 = u.val → s.unit u = none) : s.contextWriteNeed p = none := by
  rw [State.contextWriteNeed, if_neg (by omega)]
  cases hix : unitIx? (u8 p 0) with
  | none => rfl
  | some u =>
    have hval : u8 p 0 = u.val := by
      unfold unitIx? at hix
      split at hix
      · cases hix
        rfl
      · cases hix
    simp only [Option.bind_some, hu u hval]

/-- A link that is off, or takes no frames. -/
theorem State.linkOn_eq_false {s : State}
    (h : s.powered = false ∨ s.resetLow = true ∨ s.gapc.state = .deep ∨ s.gapc.state = .lost) : s.linkOn = false := by
  rcases h with h | h | h | h <;> simp [State.linkOn, State.running, GapState.counts, h]

theorem State.linkOn_eq_true {s : State} (hp : s.powered = true) (hr : s.resetLow = false)
    (hg : s.gapc.state = .supplied ∨ s.gapc.state = .gap ∨ s.gapc.state = .settle ∨ s.gapc.state = .restore) :
    s.linkOn = true := by
  simp [State.linkOn, State.running, hp, hr, (GapState.counts_iff _).2 hg]

/-- Settles O47: the checks in their order, by the length each kind calls for. -/
theorem requestsAreCheckedInOrder : Obligations.RequestsAreCheckedInOrder := by
  intro c s kind hkind hwf
  obtain ⟨need, act, hexec, hfixed, hdata, hclear, hctx⟩ := exec_request hkind s
  have hp : c.payload.length ≤ 1060 := by
    simp only [Instr.wellFormed, Instr.payloadFits, Bool.and_eq_true, decide_eq_true_eq] at hwf
    exact hwf.1
  refine ⟨fun h => ?_, fun h1 h2 hg hd => ?_, ?_⟩
  · rw [hexec, State.request_off (State.linkOn_eq_false h)]
  · rw [hexec, State.request_discarded (State.linkOn_eq_true h1 h2 hg) (by simpa [State.discards] using hd)]
  intro htakes p badLength long list
  have bad {v : BitVec 16} (hv : need = some v) : badLength v.toNat := by
    refine ⟨_, hexec, ?_⟩
    rw [hv, BitVec.ofNat_toNat, BitVec.setWidth_eq]
    exact State.request_badLength htakes hp
  have badNat {n : Nat} (hv : need = some (BitVec.ofNat 16 n)) : badLength n := by
    refine ⟨_, hexec, ?_⟩
    rw [hv]
    exact State.request_badLength htakes hp
  have badSome (h : ∃ v, need = some v) : ∃ n, n < 65536 ∧ badLength n := by
    obtain ⟨v, hv⟩ := h
    exact ⟨v.toNat, v.isLt, bad hv⟩
  have busy (hn : need = none) (hq : c.isQuery = false) : long := by
    intro l hl
    refine ⟨_, hexec, ?_⟩
    rw [hn, hq]
    exact State.request_busy htakes hp hl
  have listed {i most width before : Nat} (h : ListNeed need p i most width before) (hq : c.isQuery = false) :
      list i most width before :=
    ⟨fun h1 h2 => badNat (h.tooMany h1 h2), fun h1 h2 h3 => badNat (h.wrong h1 h2 h3), fun h1 h2 h3 => busy (h.fits h1 h2 h3) hq,
      fun h1 => badSome (h.missing h1)⟩
  refine ⟨fun n hn => ⟨fun hne => ?_, fun he hq => ?_⟩, fun hk => ?_, fun hk => ?_, fun hk => ?_⟩
  · exact badNat ((hfixed n hn).trans ((fixedNeed_spec n p).2 hne))
  · exact busy ((hfixed n hn).trans (fixedNeed_eq he)) hq
  · obtain ⟨hneed, hq⟩ := hdata hk
    obtain ⟨h1, h2, h3⟩ := imageDataNeed_spec p
    exact ⟨fun a b => badNat (hneed.trans (h1 a b)), fun a => badNat (hneed.trans (h2 a)), fun a b => busy (hneed.trans (h3 a b)) hq⟩
  · obtain ⟨hneed, hq⟩ := hclear hk
    obtain ⟨h1, h2, h3⟩ := clearFlagsNeed_spec p
    rw [← hneed] at h1 h2 h3
    exact ⟨fun a b => badNat (h2 a b), fun a => badSome (h1 a), fun a b => listed (h3 a b) hq⟩
  · obtain ⟨hneed, hq⟩ := hctx hk
    refine ⟨fun h0 => badSome ⟨_, hneed.trans (if_pos (h0 ▸ Nat.zero_lt_one))⟩,
      fun h1 hu => busy (hneed.trans (State.contextWriteNeed_empty h1 hu)) hq, fun u e h1 hu he => ?_⟩
    obtain ⟨hdoor, hdisplay, hannounce⟩ := State.contextWriteNeed_unit h1 hu he
    refine ⟨fun hc => ?_, fun hc => ?_, fun hc => ?_⟩
    · have h14 := hneed.trans (hdoor hc)
      exact ⟨fun hne => badNat (h14.trans ((fixedNeed_spec 14 p).2 hne)), fun he => busy (h14.trans (fixedNeed_eq he)) hq⟩
    · exact listed (hneed.trans (hdisplay hc) ▸ listNeed_spec 6 p) hq
    · exact listed (hneed.trans (hannounce hc) ▸ listNeed_spec 2 p) hq

/-! ### Bytes of the control link (R29, R190, R193, R203) -/

theorem u8_take {l : List Byte} {i k : Nat} (h : i < k) : u8 (l.take k) i = u8 l i := by
  simp only [u8, List.getElem?_take_of_lt h]

theorem u16_take {l : List Byte} {i k : Nat} (h : i + 1 < k) : u16 (l.take k) i = u16 l i := by
  simp only [u16, u8_take h, u8_take (Nat.lt_of_succ_lt h)]

theorem u8_append {l m : List Byte} {i : Nat} (h : i < l.length) : u8 (l ++ m) i = u8 l i := by
  simp only [u8, List.getElem?_append_left h]

/-- Bytes that begin a frame and do not end it wait in the receive buffer (R190). -/
theorem FrameLayout.extend_prefix {l : FrameLayout} {frame : List Byte} {k : Nat} (hk : k < frame.length)
    (hlen : frame.length = l.header + u16 frame l.lengthAt + 2) (hlimit : u16 frame l.lengthAt ≤ l.limit) :
    l.extend (frame.take k) = (frame.take k, .waiting) := by
  have htake : (frame.take k).length = k := List.length_take_of_le hk.le
  by_cases h : k < l.lengthAt + 2
  · rw [FrameLayout.extend, htake, if_pos h]
  · rw [FrameLayout.extend, htake, u16_take (by omega), if_neg h, if_neg (by omega), if_pos (by omega)]

/-- The last byte of a frame ends it, by its CRC-16 (R190). -/
theorem FrameLayout.extend_whole {l : FrameLayout} {frame : List Byte} (hat : l.lengthAt ≤ l.header)
    (hlen : frame.length = l.header + u16 frame l.lengthAt + 2) (hlimit : u16 frame l.lengthAt ≤ l.limit) :
    l.extend frame = ([], if l.crcAgrees frame then .whole frame else .bad) := by
  rw [FrameLayout.extend, if_neg (by omega), if_neg (by omega), if_neg (by omega)]

theorem State.hearByte_on {s : State} (hon : s.linkOn = true) (b : Byte) :
    s.hearByte b =
      { s with
        clnk := { s.clnk with rx := (controlLayout.receive s.clnk.rx b).1 }
        pending := s.pending ++ (controlLayout.receive s.clnk.rx b).2.controlCommands } :=
  if_pos hon

theorem State.hearBytes_append (s : State) (l m : List Byte) : s.hearBytes (l ++ m) = (s.hearBytes l).hearBytes m :=
  List.foldl_append

/-- The state with the given bytes in the receive buffer and further commands in the queue. -/
def State.heard (s : State) (rx : List Byte) (cs : List Instr) : State :=
  { s with clnk := { s.clnk with rx := rx }, pending := s.pending ++ cs }

theorem State.heard_nil {s : State} (hrx : s.clnk.rx = []) (cs : List Instr) :
    s.heard [] cs = { s with pending := s.pending ++ cs } := by
  rw [State.heard, ← hrx]

theorem State.hearByte_heard {s : State} (hon : s.linkOn = true) (rx : List Byte) (cs : List Instr) (b : Byte) :
    (s.heard rx cs).hearByte b =
      s.heard (controlLayout.receive rx b).1 (cs ++ (controlLayout.receive rx b).2.controlCommands) := by
  rw [State.hearByte_on (s := s.heard rx cs) hon]
  simp [State.heard]

/-- A proper part of a frame waits in the buffer (R190). -/
theorem State.hearBytes_prefix {s : State} (hon : s.linkOn = true) {frame : List Byte}
    (hsync : frame[0]? = some 0xA5) (hlen : frame.length = u16 frame 1 + 7) (hlimit : u16 frame 1 ≤ 1060) (k : Nat)
    (hk : k + 1 < frame.length) : (s.heard [] []).hearBytes (frame.take (k + 1)) = s.heard (frame.take (k + 1)) [] := by
  induction k with
  | zero =>
    cases frame with
    | nil => cases hsync
    | cons b rest =>
      cases hsync
      exact State.hearByte_heard hon [] [] 0xA5
  | succ k ih =>
    have hlt : k + 1 < frame.length := by omega
    have htake : frame.take (k + 1 + 1) = frame.take (k + 1) ++ [frame[k + 1]] := (List.take_concat_get' frame (k + 1) hlt).symm
    have hne : frame.take (k + 1) ≠ [] := by
      intro h
      have := congrArg List.length h
      rw [List.length_take, List.length_nil] at this
      omega
    have hrec : controlLayout.receive (frame.take (k + 1)) frame[k + 1] = (frame.take (k + 1 + 1), .waiting) := by
      rw [FrameLayout.receive_begun _ _ hne, ← htake]
      exact FrameLayout.extend_prefix hk (by simp only [controlLayout]; omega) hlimit
    rw [htake, State.hearBytes_append, ih hlt, ← htake]
    refine (State.hearByte_heard hon _ [] _).trans ?_
    rw [hrec]
    rfl

/-- A frame byte by byte comes as one command, and leaves the buffer empty (R190; log entry 3). -/
theorem State.hearBytes_frame {s : State} (hon : s.linkOn = true) {frame : List Byte}
    (hsync : frame[0]? = some 0xA5) (hlen : frame.length = u16 frame 1 + 7) (hlimit : u16 frame 1 ≤ 1060) :
    (s.heard [] []).hearBytes frame =
      s.heard [] (Received.controlCommands (if controlLayout.crcAgrees frame then .whole frame else .bad)) := by
  have hcut : frame = frame.take (u16 frame 1 + 5 + 1) ++ [frame[u16 frame 1 + 6]] := by
    rw [List.take_concat_get' frame (u16 frame 1 + 6) (by omega), List.take_of_length_le (by omega)]
  have hne : frame.take (u16 frame 1 + 5 + 1) ≠ [] := by
    intro h
    have := congrArg List.length h
    rw [List.length_take, List.length_nil] at this
    omega
  have hrec : controlLayout.receive (frame.take (u16 frame 1 + 5 + 1)) frame[u16 frame 1 + 6] =
      ([], if controlLayout.crcAgrees frame then .whole frame else .bad) := by
    rw [FrameLayout.receive_begun _ _ hne, ← hcut]
    exact FrameLayout.extend_whole (by decide) (by simp only [controlLayout]; omega) hlimit
  conv_lhs => rw [hcut]
  rw [State.hearBytes_append, State.hearBytes_prefix hon hsync hlen hlimit _ (by omega)]
  refine (State.hearByte_heard hon _ [] _).trans ?_
  rw [hrec]
  rfl

/-! A control frame's fields. -/

theorem be16_length (v : BitVec 16) : (be16 v).length = 2 :=
  rfl

theorem u16_be16 (v : BitVec 16) (b : Byte) (rest : List Byte) : u16 (b :: (be16 v ++ rest)) 1 = v.toNat := by
  have hv := v.isLt
  simp [u16, u8, be16, BitVec.toNat_setWidth, BitVec.toNat_ushiftRight, Nat.shiftRight_eq_div_pow]
  omega

theorem controlFrame_eq (kind tag : Byte) (p : List Byte) :
    controlFrame kind tag p =
      0xA5 :: (be16 (BitVec.ofNat 16 p.length) ++ ([kind, tag] ++ (p ++
        be16 (crc16 (be16 (BitVec.ofNat 16 p.length) ++ [kind, tag] ++ p))))) := by
  simp [controlFrame]

theorem controlFrame_length (kind tag : Byte) (p : List Byte) : (controlFrame kind tag p).length = p.length + 7 := by
  simp [controlFrame, be16_length]
  omega

/-- A frame whose last two bytes are any: its length field, kind, tag, payload, and the test of its CRC-16. -/
theorem controlLayout_fields (kind tag : Byte) {p : List Byte} (hp : p.length ≤ 1060) (crc : List Byte) :
    let frame : List Byte := 0xA5 :: (be16 (BitVec.ofNat 16 p.length) ++ ([kind, tag] ++ (p ++ crc)))
    u16 frame 1 = p.length ∧ frame.getD 3 0 = kind ∧ frame.getD 4 0 = tag ∧ controlLayout.payload frame = p ∧
      controlLayout.crcAgrees frame =
        (be16 (crc16 (be16 (BitVec.ofNat 16 p.length) ++ [kind, tag] ++ p)) == crc) := by
  intro frame
  have hlen : u16 frame 1 = p.length := by
    rw [u16_be16, BitVec.toNat_ofNat, Nat.mod_eq_of_lt (by omega)]
  have hdrop : frame.drop 5 = p ++ crc := rfl
  have hhead : frame.take 5 = 0xA5 :: (be16 (BitVec.ofNat 16 p.length) ++ [kind, tag]) := rfl
  have hends : frame.take (5 + p.length) = 0xA5 :: (be16 (BitVec.ofNat 16 p.length) ++ [kind, tag] ++ p) := by
    rw [List.take_add, hhead, hdrop, List.take_left]
    rfl
  refine ⟨hlen, rfl, rfl, ?_, ?_⟩
  · change (frame.drop 5).take (u16 frame 1) = p
    rw [hlen, hdrop, List.take_left]
  · change (be16 (crc16 ((frame.take (5 + u16 frame 1)).drop 1)) == frame.drop (5 + u16 frame 1)) = _
    rw [hlen, hends, ← List.drop_drop, hdrop, List.drop_left]
    rfl

theorem controlCommand_tag {c : Instr} {kind : Byte} (h : c.requestKind? = some kind) :
    controlCommand kind c.tag c.payload = c := by
  cases c <;> cases h <;> rfl

/-- The commands that the bytes of a frame with a given CRC field come as. -/
theorem State.hearBytes_controlFrame {s : State} (hon : s.linkOn = true) (kind tag : Byte) {p : List Byte}
    (hp : p.length ≤ 1060) (hi lo : Byte) :
    let body : List Byte := be16 (BitVec.ofNat 16 p.length) ++ [kind, tag] ++ p
    (s.heard [] []).hearBytes (0xA5 :: (be16 (BitVec.ofNat 16 p.length) ++ ([kind, tag] ++ (p ++ [hi, lo])))) =
      s.heard [] (if be16 (crc16 body) = [hi, lo] then [controlCommand kind tag p] else [.controlFrameBad]) := by
  intro body
  obtain ⟨hlen, hkind, htag, hpayload, hcrc⟩ := controlLayout_fields kind tag hp [hi, lo]
  rw [State.hearBytes_frame hon rfl (by rw [hlen]; simp [be16_length]; omega) (by omega), hcrc]
  by_cases h : be16 (crc16 body) = [hi, lo]
  · rw [if_pos h, if_pos (beq_iff_eq.2 h)]
    simp only [Received.controlCommands, hkind, htag, hpayload]
  · rw [if_neg h, if_neg (fun h' => h (beq_iff_eq.1 h'))]
    rfl

theorem crc16_check : crc16 [0x31, 0x32, 0x33, 0x34, 0x35, 0x36, 0x37, 0x38, 0x39] = 0x29B1 := by
  simp [crc16, crc16Byte, List.range, List.range.loop]

/-- Settles O44: the bytes of a frame, received and built. -/
theorem controlFramesAreReceivedAndBuilt : Obligations.ControlFramesAreReceivedAndBuilt := by
  refine ⟨fun s c kind hp hr hg hrx hkind hwf => ?_, fun s b h => ?_, fun r => ?_, fun kind tag p => rfl, crc16_check⟩
  · intro frame
    have hon := State.linkOn_eq_true hp hr hg
    have hlen : c.payload.length ≤ 1060 := by
      simp only [Instr.wellFormed, Instr.payloadFits, Bool.and_eq_true, decide_eq_true_eq] at hwf
      exact hwf.1
    have hs : s = s.heard [] [] := by rw [State.heard_nil hrx, List.append_nil]
    generalize hbody : be16 (BitVec.ofNat 16 c.payload.length) ++ [kind, c.tag] ++ c.payload = body
    obtain ⟨hi, lo, hcrc⟩ : ∃ hi lo, be16 (crc16 body) = [hi, lo] := ⟨_, _, rfl⟩
    have hframe (l : Byte) : (0xA5 :: (be16 (BitVec.ofNat 16 c.payload.length) ++ ([kind, c.tag] ++ (c.payload ++ [hi])))) ++ [l] =
        0xA5 :: (be16 (BitVec.ofNat 16 c.payload.length) ++ ([kind, c.tag] ++ (c.payload ++ [hi, l]))) := by simp
    have hsplit : frame = (0xA5 :: (be16 (BitVec.ofNat 16 c.payload.length) ++ ([kind, c.tag] ++ (c.payload ++ [hi])))) ++ [lo] := by
      rw [hframe, ← hcrc, ← hbody]
      exact controlFrame_eq kind c.tag c.payload
    have hears : s.hearBytes frame = { s with pending := s.pending ++ [c] } := by
      rw [← State.heard_nil hrx, hsplit, hframe, hs, State.hearBytes_controlFrame hon kind c.tag hlen hi lo, hbody,
        if_pos hcrc, controlCommand_tag hkind, ← hs]
    refine ⟨hears, ?_, fun b hb => ?_, fun b hb => ?_, fun a b hlong => ?_⟩
    · rw [State.hearBytes_append, hears]
      refine (State.hearByte_on (s := { s with pending := s.pending ++ [c] }) hon 0xA5).trans ?_
      simp [hrx, FrameLayout.receive_hunting, controlLayout, Received.controlCommands]
    · have hne : ¬be16 (crc16 body) = [hi, b] := by
        rw [hcrc]
        rintro h
        simp only [List.cons.injEq, and_true, true_and] at h
        exact hb (by rw [hsplit, List.getLast?_concat, h])
      rw [hsplit, List.dropLast_concat, hframe, ← State.heard_nil hrx, hs,
        State.hearBytes_controlFrame hon kind c.tag hlen hi b, hbody, if_neg hne, ← hs]
    · have hskip : s.hearByte b = s := by
        conv_lhs => rw [hs]
        have hrec : controlLayout.receive [] b = ([], .waiting) := by
          rw [FrameLayout.receive_hunting]
          exact congrArg (·, Received.waiting) (if_neg hb)
        rw [State.hearByte_heard hon, hrec]
        exact hs.symm
      change (s.hearByte b).hearBytes frame = _
      rw [hskip, hears]
    · have h1 : s.hearByte 0xA5 = s.heard [0xA5] [] := by
        conv_lhs => rw [hs]
        exact State.hearByte_heard hon [] [] 0xA5
      have h2 : (s.heard [0xA5] []).hearByte a = s.heard [0xA5, a] [] := State.hearByte_heard hon [0xA5] [] a
      have hu : u16 [0xA5, a, b] 1 = 256 * a.toNat + b.toNat := by simp [u16, u8, Nat.mul_comm]
      have hbad : controlLayout.receive [0xA5, a] b = ([], .bad) := by
        change controlLayout.extend [0xA5, a, b] = _
        have : controlLayout.limit < u16 [0xA5, a, b] controlLayout.lengthAt := by
          simp only [controlLayout, hu]
          exact hlong
        exact (if_neg (Nat.lt_irrefl 3)).trans (if_pos this)
      have h3 : (s.heard [0xA5, a] []).hearByte b = s.heard [] [.controlFrameBad] := by
        rw [State.hearByte_heard hon, hbad]
        rfl
      change ((s.hearByte 0xA5).hearByte a).hearByte b = _
      rw [h1, h2, h3, State.heard_nil hrx]
  · exact if_neg (by simp [State.linkOn_eq_false h])
  · refine ⟨r.status.detail, rfl, r.status.detail_length, fun k g h => ?_, fun h => ?_, fun v h => ?_⟩
    · rw [h]
      rfl
    · rcases h with h | h | h <;> rw [h] <;> rfl
    · rw [h]
      rfl

end Sys2Proof.Machine

/-! Frames on a segment line that are sent, and frames that are discarded (R79, R80, R81, R140, R190, R191). -/

namespace Sys2Proof.Machine

/-! ### A frame sent -/

theorem State.running_eq_true {s : State} (hp : s.powered = true) (hr : s.resetLow = false) : s.running = true := by
  simp [State.running, hp, hr]

theorem exec_segmentFrameSent {s : State} (hrun : s.running = true) (x : Seg) :
    exec (.segmentFrameSent x) s = .next (s.frameSent x).finish :=
  congrArg _ (if_pos hrun)

theorem FrameBody.wantsAnswer_iff (b : FrameBody) : b.wantsAnswer = true ↔ ∀ i d, b ≠ .block i d := by
  cases b <;> simp [FrameBody.wantsAnswer]

/-- Settles O30: the bytes of the frame being sent, and what follows its last byte. -/
theorem frameSentBeginsTheWaitOrTheNextFrame : Obligations.FrameSentBeginsTheWaitOrTheNextFrame := by
  intro s x f hp hr hf hphase
  have hrun := State.running_eq_true hp hr
  refine ⟨⟨f.frame.body.payload, ?_, fun i d hb => ?_, fun hb => FrameBody.payload_length _ hb⟩, fun hb => ?_,
    fun i d o rest hb htodo => ?_⟩
  · rcases (perGet s.links x).sending?_spec with ⟨g, hg, -, h⟩ | ⟨h, -⟩
    · rw [hf] at hg
      cases hg
      exact h
    · exact absurd hphase (h f hf)
  · rw [hb]
    exact ⟨rfl, rfl⟩
  · have hsent : s.frameSent x =
        { s with
          links := perSet s.links x
            { perGet s.links x with inFlight := some { f with phase := .waiting s.tick s.timing.answer } } } := by
      simp only [State.frameSent, hf, hphase, ne_eq, not_true_eq_false, if_false, (FrameBody.wantsAnswer_iff _).2 hb, if_true]
      rfl
    exact ⟨_, exec_segmentFrameSent hrun x, hsent ▸ State.ends_finish _⟩
  · have hwants : f.frame.body.wantsAnswer = false := by rw [hb]; rfl
    have hsent : s.frameSent x = s.onLink x (·.send f.exchange o rest) := by
      simp only [State.frameSent, hf, hphase, ne_eq, not_true_eq_false, if_false, hwants, Bool.false_eq_true, htodo]
    exact ⟨_, exec_segmentFrameSent hrun x, hsent ▸ State.ends_finish _⟩

/-! ### Discarded frames on a segment -/

/-- The wait of the frame in flight has lasted its timeout (R80). -/
theorem State.timedOut_eq_true {s : State} {x : Seg} {f : InFlight} {t0 : Tick} {n : Nat}
    (hf : (perGet s.links x).inFlight = some f) (hphase : f.phase = .waiting t0 n) (hn : n ≤ (s.tick - t0).toNat) :
    s.timedOut x = true := by
  simp only [State.timedOut, Link.wait?, hf, Option.bind_some, hphase, Option.any_some, State.since]
  exact decide_eq_true hn

/-- No wait has lasted its timeout (R80). -/
theorem State.timedOut_eq_false {s : State} {x : Seg}
    (h : ∀ f t0 n, (perGet s.links x).inFlight = some f → f.phase = .waiting t0 n → (s.tick - t0).toNat < n) :
    s.timedOut x = false := by
  unfold State.timedOut Link.wait?
  cases hf : (perGet s.links x).inFlight with
  | none => rfl
  | some f =>
    cases hphase : f.phase with
    | sending => simp only [Option.bind_some, hphase, Option.any_none]
    | waiting t0 n =>
      simp only [Option.bind_some, hphase, Option.any_some, State.since]
      exact decide_eq_false (Nat.not_le.2 (h f t0 n hf hphase))

/-- A frame with another address or sequence number than the frame that awaits an answer fails the test (R79). -/
theorem Link.accepts_eq_false {l : Link} {a : AnswerFrame}
    (h : ∀ f, l.inFlight = some f → a.address ≠ f.frame.dest ∨ a.seq ≠ f.seq) : l.accepts a = false := by
  unfold Link.accepts
  cases hf : l.inFlight with
  | none => simp [Link.wait?, hf]
  | some f =>
    rcases h f hf with h | h <;> simp [h]

/-- A frame that fails a test comes as a discarded one (R79). -/
theorem exec_of_fails {s : State} (hrun : s.running = true) {x : Seg} {c : Instr}
    (h : c = .segmentFrameDiscarded x ∨ ∃ a : AnswerFrame, c = .segmentAnswer x a ∧
      ∀ f, (perGet s.links x).inFlight = some f → a.address ≠ f.frame.dest ∨ a.seq ≠ f.seq) :
    exec c s = .next (s.frameDiscarded x).finish := by
  rcases h with rfl | ⟨a, rfl, h⟩
  · exact congrArg _ (if_pos hrun)
  · have hacc := Link.accepts_eq_false h
    refine congrArg Host.Outcome.next ?_
    simp only [hrun, hacc, Bool.not_true, Bool.false_eq_true, if_false]

theorem exec_segmentBytePause {s : State} (hrun : s.running = true) (x : Seg) :
    exec (.segmentBytePause x) s = .next ((s.clearSegRx x).frameDiscarded x).finish :=
  congrArg _ (if_pos hrun)

/-- A discarded frame ends no wait whose timeout has not passed, and none while a next frame is received (R80). -/
theorem State.frameDiscarded_of {s : State} {x : Seg} (h : s.timedOut x = false ∨ s.hears x = true) :
    s.frameDiscarded x = s := by
  refine if_neg ?_
  rcases h with h | h <;> simp [h]

/-- A discarded frame ends a wait whose timeout has passed as the timeout would (R80). -/
theorem exec_answerTimeout {s : State} (hrun : s.running = true) {x : Seg} (ht : s.timedOut x = true)
    (hh : s.hears x = false) : exec (.answerTimeout x) s = .next (s.frameDiscarded x).finish := by
  refine congrArg Host.Outcome.next ?_
  simp only [State.frameDiscarded, hrun, ht, hh, Bool.not_false, Bool.and_self, if_true]

theorem State.clearSegRx_facts (s : State) (x : Seg) :
    (s.clearSegRx x).timedOut x = s.timedOut x ∧ (s.clearSegRx x).hears x = false ∧ (s.clearSegRx x).running = s.running := by
  cases x <;> exact ⟨rfl, rfl, rfl⟩

/-- The segment's part of R79 and R80 for frames that are discarded. -/
theorem segmentFrames_discarded (s : State) (x : Seg) (hp : s.powered = true) (hr : s.resetLow = false) :
    let cleared : State := { s with links := perSet s.links x { perGet s.links x with rx := [] } }
    let fails (c : Instr) : Prop :=
      c = .segmentFrameDiscarded x ∨ ∃ a : AnswerFrame, c = .segmentAnswer x a ∧
        ∀ f, (perGet s.links x).inFlight = some f → a.address ≠ f.frame.dest ∨ a.seq ≠ f.seq
    ((∀ f t0 n, (perGet s.links x).inFlight = some f → f.phase = .waiting t0 n → (s.tick - t0).toNat < n) →
      (∃ t, exec (.segmentBytePause x) s = .next t ∧ State.Ends cleared t) ∧
        ∀ c, fails c → ∃ t, exec c s = .next t ∧ State.Ends s t) ∧
      ((perGet s.links x).rx ≠ [] → exec (.answerTimeout x) s = .next s ∧
        ∀ c, fails c → ∃ t, exec c s = .next t ∧ State.Ends s t) ∧
      ∀ f t0 n, (perGet s.links x).inFlight = some f → f.phase = .waiting t0 n → n ≤ (s.tick - t0).toNat →
        exec (.segmentBytePause x) s = exec (.answerTimeout x) cleared ∧
          ((perGet s.links x).rx = [] → (∀ c, fails c → exec c s = exec (.answerTimeout x) s) ∧
            ∀ b, s.hearSegmentByte x b = s) := by
  intro cleared fails
  have hrun := State.running_eq_true hp hr
  have hcleared : s.clearSegRx x = cleared := rfl
  obtain ⟨htimed, hhears, hcrun⟩ := s.clearSegRx_facts x
  rw [hcleared] at htimed hhears hcrun
  have same (h : s.timedOut x = false ∨ s.hears x = true) (c : Instr) (hc : fails c) :
      ∃ t, exec c s = .next t ∧ State.Ends s t := by
    refine ⟨_, exec_of_fails hrun hc, ?_⟩
    rw [State.frameDiscarded_of h]
    exact State.ends_finish s
  refine ⟨fun h => ?_, fun hrx => ?_, fun f t0 n hf hphase hn => ⟨?_, fun hrx => ?_⟩⟩
  · have ht := State.timedOut_eq_false h
    refine ⟨⟨_, exec_segmentBytePause hrun x, ?_⟩, same (.inl ht)⟩
    rw [hcleared, State.frameDiscarded_of (.inl (htimed.trans ht))]
    exact State.ends_finish _
  · have hh : s.hears x = true := by simpa [State.hears] using hrx
    exact ⟨congrArg Host.Outcome.next (if_neg (by simp [hh])), same (.inr hh)⟩
  · have ht := State.timedOut_eq_true hf hphase hn
    rw [exec_segmentBytePause hrun x, exec_answerTimeout (hcrun.trans hrun) (htimed.trans ht) hhears]
    rfl
  · have ht := State.timedOut_eq_true hf hphase hn
    have hh : s.hears x = false := by simp [State.hears, hrx]
    exact ⟨fun c hc => by rw [exec_of_fails hrun hc, exec_answerTimeout hrun ht hh], fun b => if_neg (by simp [ht, hh])⟩

/-! ### Discarded frames on the control link -/

theorem exec_unknownKind {s : State} (hon : s.linkOn = true) {kind tag : Byte}
    (hwf : (Instr.unknownKind kind tag).wellFormed = true) :
    exec (.unknownKind kind tag) s =
      .next (if s.discards then s else (s.replied kind tag .unknownKind).finish) := by
  simp only [Instr.wellFormed, Instr.kindFits, Bool.and_eq_true, decide_eq_true_eq, Bool.not_eq_true'] at hwf
  obtain ⟨-, hlt, hno⟩ := hwf
  refine congrArg Host.Outcome.next ?_
  simp only [hon, hno, Bool.not_true, decide_eq_false (Nat.not_le.2 hlt), Bool.false_or]
  rfl

/-- Settles O45: frames that are discarded, on a segment and on the control link. -/
theorem discardedFramesChangeNothing : Obligations.DiscardedFramesChangeNothing := by
  refine ⟨fun s x hp hr => segmentFrames_discarded s x hp hr, fun s hp hr hg => ?_⟩
  have hon := State.linkOn_eq_true hp hr hg
  refine ⟨congrArg Host.Outcome.next (if_pos hon), rfl, fun _ _ _ => rfl, fun kind tag hwf => ⟨fun h => ?_, fun h h' => ?_⟩⟩
  · have hd : s.discards = true := by simpa [State.discards] using h
    rw [exec_unknownKind hon hwf, if_pos hd]
  · have hd : s.discards = false := by simp [State.discards, h, h']
    rw [exec_unknownKind hon hwf, hd]
    exact ⟨_, rfl, State.ends_finish _⟩

end Sys2Proof.Machine

/-! The restore scheduler's own work as a chain of few steps (R112 to R129). What it keeps of the units, the links and the window
in flight is proved of the steps. -/

namespace Sys2Proof.Machine

/-! ### The steps -/

/-- One step of the scheduler's own work: the records edited with no new member, a unit enlisted, the JOIN of a member handed,
a member moved with its record, the completion check, STACK_FULL where `full` allows it, a window begun, and the report of
demand. -/
inductive State.Scheduling (full : Prop) : State → State → Prop
  | edited {s : State} {c : Scheduler} (h : ∀ v, s.rsch.Lacks v → c.Lacks v) : Scheduling full s { s with rsch := c }
  | enlisted (s : State) (u : UnitIx) : Scheduling full s (s.enlist u)
  | joined {s : State} {u : UnitIx} (h : ¬s.rsch.Lacks u) : Scheduling full s (s.handJoin u)
  | shifted {s : State} {u : UnitIx} {st : UnitState} (h : ¬s.rsch.Lacks u) (hst : st = .stream ∨ st = .suspended) :
    Scheduling full s (s.move u st id)
  | completed (s : State) : Scheduling full s s.complete
  | stackFull {s : State} {u : UnitIx} (hf : full) (h : s.eligible u = true) : Scheduling full s (s.raise u .stackFull id)
  | began (s : State) : Scheduling full s s.beginWindow
  | reported (s : State) : Scheduling full s s.reportDemand

/-- The scheduler's own work from `s` to `t`. -/
abbrev State.Schedules (full : Prop) (s t : State) : Prop :=
  Relation.ReflTransGen (State.Scheduling full) s t

section
variable {full : Prop}

theorem State.Schedules.edit {s t : State} (c : Scheduler) (h : ∀ v, s.rsch.Lacks v → c.Lacks v)
    (ht : State.Schedules full { s with rsch := c } t) : State.Schedules full s t :=
  .head (.edited h) ht

theorem State.foldl_enlist_schedules (l : List UnitIx) (s : State) : State.Schedules full s (l.foldl State.enlist s) := by
  induction l generalizing s with
  | nil => exact .refl
  | cons u l ih => exact .head (.enlisted s u) (ih _)

@[simp] theorem State.rsch_handJoin (s : State) (u : UnitIx) : (s.handJoin u).rsch = s.rsch := by
  unfold State.handJoin
  split
  · rfl
  · split
    · exact s.rsch_hand _ _
    · rfl

theorem State.foldl_handJoin_schedules (l : List UnitIx) (s : State) (h : ∀ u ∈ l, ¬s.rsch.Lacks u) :
    State.Schedules full s (l.foldl State.handJoin s) := by
  induction l generalizing s with
  | nil => exact .refl
  | cons u l ih =>
    exact .head (.joined (h u (by simp))) (ih _ fun v hv => by rw [s.rsch_handJoin u]; exact h v (by simp [hv]))

theorem State.foldl_shift_schedules (l : List Member) {st : UnitState} (hst : st = .stream ∨ st = .suspended) (s : State)
    (h : ∀ m ∈ l, ¬s.rsch.Lacks m.unit) : State.Schedules full s (l.foldl (fun s m => s.move m.unit st id) s) := by
  induction l generalizing s with
  | nil => exact .refl
  | cons m l ih => exact .head (.shifted (h m (by simp)) hst) (ih _ fun n hn => h n (by simp [hn]))

theorem StreamRecord.has_iff (r : StreamRecord) (u : UnitIx) : r.has u = true ↔ ∃ m ∈ r.members, m.unit = u := by
  simp [StreamRecord.has, List.any_eq_true]

theorem State.form_schedules (s : State) (leader : UnitIx) : State.Schedules full s (s.form leader) := by
  unfold State.form
  split
  · exact .refl
  · split
    · exact .refl
    · refine .edit _ (fun v hl => hl.withActive fun r hr m hm => ?_)
        ((State.foldl_enlist_schedules _ _).trans (State.Schedules.edit _ (fun v hl => hl.active (f := (·.place 0)) fun _ hm => hm)
          (State.foldl_handJoin_schedules _ _ fun u hu hl => ?_)))
      · obtain rfl := Option.some.inj hr
        simp at hm
      · simp only [mem_unitsWhere, Option.any_eq_true, StreamRecord.has_iff] at hu
        obtain ⟨r, hr, m, hm, rfl⟩ := hu
        exact hl.1 r hr m hm rfl

theorem State.refreshWidths_schedules (s : State) : State.Schedules full s s.refreshWidths :=
  .single (.edited fun _ hl => (hl.active (f := fun r => { r with w := s.width r }) fun _ hm => hm).stack
    (f := fun r => { r with w := s.width r }) fun _ hm => hm)

theorem State.push_schedules (s : State) : State.Schedules full s s.push := by
  unfold State.push
  split
  · exact .refl
  · next r hr =>
    refine .edit _ (fun v hl => ⟨fun q hq => (by cases hq), fun q hq m hm => ?_⟩)
      (State.foldl_shift_schedules _ (.inr rfl) _ fun m hm hl => hl.2 r (List.mem_cons_self ..) m hm rfl)
    rcases List.mem_cons.1 hq with rfl | hq
    · exact hl.1 q hr m hm
    · exact hl.2 q hq m hm

theorem State.preempt_schedules (s : State) (h : s.rsch.stack.length < 4 ∨ full) : State.Schedules full s s.preempt := by
  unfold State.preempt
  split
  · next u hr hu =>
    split
    · exact .refl
    · split
      · exact s.push_schedules.trans (State.form_schedules _ _)
      · next hlen =>
        split
        · exact .refl
        · exact .edit { s.rsch with marks := s.rsch.marks ++ [u] } (fun v hl => hl)
            (.single (.stackFull (h.resolve_left hlen) (State.leader_eligible hu)))
  · exact .refl

theorem State.foldl_enterVerify_stack (l : List Member) (s : State) :
    (l.foldl (fun s m => s.enterVerify m.unit) s).rsch.stack = s.rsch.stack ∧
      (l.foldl (fun s m => s.enterVerify m.unit) s).rsch.active = s.rsch.active := by
  induction l generalizing s with
  | nil => exact ⟨rfl, rfl⟩
  | cons m l ih => exact ih (s.enterVerify m.unit)

theorem State.foldl_handVerify_rsch (l : List UnitIx) (s : State) : (l.foldl State.handVerify s).rsch = s.rsch := by
  induction l generalizing s with
  | nil => rfl
  | cons u l ih => exact (ih _).trans (s.rsch_hand u _)

/-- The completion check leaves the stack as it is, and of the active record those that do not complete (R124). -/
theorem State.complete_records (s : State) :
    s.complete.rsch.stack = s.rsch.stack ∧
      s.complete.rsch.active = s.rsch.active.map fun r => { r with members := r.members.filter fun m => !s.completes m } := by
  unfold State.complete
  split
  · next h => exact ⟨rfl, by rw [h]; rfl⟩
  · next r hr =>
    simp only [State.foldl_handVerify_rsch]
    obtain ⟨hs, ha⟩ := State.foldl_enterVerify_stack (r.members.filter s.completes)
      { s with rsch := { s.rsch with active := some { r with members := r.members.filter fun m => !s.completes m } } }
    exact ⟨hs, by rw [ha, hr]; rfl⟩

theorem State.pop_schedules (s : State) (r : StreamRecord) (rest : List StreamRecord) (hs : s.rsch.stack = r :: rest)
    (h : rest.length < 4 ∨ full) : State.Schedules full s (s.pop r rest) := by
  have h1 : State.Schedules full s { s with rsch := { s.rsch with active := some r, stack := rest } } :=
    .single (.edited fun v hl => ⟨fun q (hq : some r = some q) => Option.some.inj hq ▸ hl.2 r (by simp [hs]),
      fun q hq => hl.2 q (by rw [hs]; exact List.mem_cons_of_mem _ hq)⟩)
  have h2 := h1.trans (State.foldl_shift_schedules r.members (.inl rfl)
    { s with rsch := { s.rsch with active := some r, stack := rest } } fun m hm hl => hl.1 r rfl m hm rfl)
  obtain ⟨-, hstack⟩ := State.foldl_move_records r.members .stream
    { s with rsch := { s.rsch with active := some r, stack := rest } }
  unfold State.pop
  simp only
  generalize hq : State.complete _ = q
  have h3 : State.Schedules full s q := hq ▸ (h2.trans (State.refreshWidths_schedules _)).tail (.completed _)
  have hlen : q.rsch.stack.length = rest.length := by
    rw [← hq, (State.complete_records _).1]
    exact (List.length_map _).trans (congrArg List.length hstack)
  split
  · exact h3
  · next a ha =>
    split
    · exact h3
    · exact h3.trans (State.Schedules.edit { q.rsch with active := some (a.place a.cursor) }
        (fun v hl => hl.withActive fun b hb => Option.some.inj hb ▸ hl.1 a ha)
        (State.preempt_schedules _ (by simpa only [hlen] using h)))

theorem State.freeAndForm_schedules (n : Nat) (s : State) (h : s.rsch.Stacked ∨ full) :
    State.Schedules full s (State.freeAndForm n s) := by
  induction n generalizing s with
  | zero => exact .refl
  | succ n ih =>
    unfold State.freeAndForm
    split
    · split
      · exact .edit { s.rsch with active := none } (fun v hl => hl.withActive fun q hq => by cases hq)
          (ih _ (h.imp_left (State.rsch_works (.free s.rsch)).records.stacked))
      · exact .refl
    · next ha =>
      split
      · next r rest hs =>
        refine (s.pop_schedules r rest hs (h.imp_left fun hst => ?_)).trans
          (ih _ (h.imp_left (s.pop_works r rest ha hs).records.stacked))
        have := hst.1
        rw [hs] at this
        exact Nat.lt_of_succ_le this
      · split
        · cases s.leader with
          | none => exact .refl
          | some u => exact s.form_schedules u
        · exact .refl

theorem State.settleStreams_schedules (s : State) (h : s.rsch.Stacked ∨ full) : State.Schedules full s s.settleStreams :=
  ((State.freeAndForm_schedules 12 s h).trans (State.refreshWidths_schedules _)).tail (.began _)

theorem State.settled_schedules (s : State) (h : s.rsch.Stacked ∨ full) : State.Schedules full s s.settled :=
  (s.settleStreams_schedules h).tail (.reported _)

end

/-- The boundary work of a window's end (R123). -/
theorem State.boundary_schedules (s : State) (c n : Nat) (taken : List (UnitIx × Nat)) :
    State.Schedules True s (s.boundary c n taken) := by
  unfold State.boundary
  simp only
  generalize hq : State.complete _ = q
  have hs : State.Schedules True s q := by
    refine hq ▸ .edit _ (fun v hl => hl.active fun r hr m hm => ?_) (.single (.completed _))
    obtain ⟨m', hm', rfl⟩ := List.mem_map.1 hm
    exact hr m' hm'
  split
  · exact hs
  · next r hr =>
    split
    · exact hs
    · exact hs.trans (State.Schedules.edit { q.rsch with active := some (r.place (c + n)) }
        (fun v hl => hl.withActive fun b hb => Option.some.inj hb ▸ hl.1 r hr)
        ((State.refreshWidths_schedules _).trans (State.preempt_schedules _ (.inr trivial))))

/-! ### What the scheduler keeps of every unit -/

/-- What the scheduler's work may make of an entry: it keeps the definition and what a probe has learned, and starts no
probe. -/
structure UnitEntry.ScheduledTo (e e' : UnitEntry) : Prop where
  decl : e'.decl = e.decl
  retry : e'.retry = e.retry
  heldCount : e'.heldCount = e.heldCount
  heldVersion : e'.heldVersion = e.heldVersion
  window : e'.window = e.window
  running : e'.running = e.running
  lastBoot : e'.lastBoot = e.lastBoot
  probe : e.probe = none → e'.probe = none

theorem UnitEntry.ScheduledTo.refl (e : UnitEntry) : e.ScheduledTo e :=
  ⟨rfl, rfl, rfl, rfl, rfl, rfl, rfl, id⟩

theorem UnitEntry.ScheduledTo.trans {e d c : UnitEntry} (h : e.ScheduledTo d) (h' : d.ScheduledTo c) : e.ScheduledTo c :=
  ⟨h'.decl.trans h.decl, h'.retry.trans h.retry, h'.heldCount.trans h.heldCount, h'.heldVersion.trans h.heldVersion,
    h'.window.trans h.window, h'.running.trans h.running, h'.lastBoot.trans h.lastBoot, fun h0 => h'.probe (h.probe h0)⟩

theorem UnitEntry.goto_scheduledTo (e : UnitEntry) {st : UnitState} (h : st ≠ .dark ∧ st ≠ .isolated ∧ st ≠ .probe) :
    e.ScheduledTo (e.goto st) :=
  ⟨rfl, rfl, rfl, rfl, rfl, by simp [UnitEntry.goto, h.1, h.2.1], rfl, fun _ => by simp [UnitEntry.goto, h.2.2]⟩

/-- The work from `s` to `t` keeps the contexts and the image store, defines no unit, and keeps of every entry what the
scheduler keeps. -/
structure State.KeepsUnits (s t : State) : Prop where
  ctxs : t.ctxs = s.ctxs
  ims : t.ims = s.ims
  none : ∀ v, s.unit v = none → t.unit v = none
  some : ∀ v e, s.unit v = some e → ∃ e', t.unit v = some e' ∧ e.ScheduledTo e'

theorem State.KeepsUnits.of_units {s t : State} (hc : t.ctxs = s.ctxs) (hi : t.ims = s.ims) (hu : t.units = s.units) :
    s.KeepsUnits t := by
  have hunit (v : UnitIx) : t.unit v = s.unit v := congrArg (fun us : Vector (Option UnitEntry) 24 => us[v.val]) hu
  exact ⟨hc, hi, fun v hv => (hunit v).trans hv, fun v e he => ⟨e, (hunit v).trans he, .refl e⟩⟩

theorem State.KeepsUnits.refl (s : State) : s.KeepsUnits s :=
  .of_units rfl rfl rfl

theorem State.KeepsUnits.trans {s t r : State} (h : s.KeepsUnits t) (h' : t.KeepsUnits r) : s.KeepsUnits r where
  ctxs := h'.ctxs.trans h.ctxs
  ims := h'.ims.trans h.ims
  none v hv := h'.none v (h.none v hv)
  some v e he := by
    obtain ⟨d, hd, hed⟩ := h.some v e he
    obtain ⟨c, hc, hdc⟩ := h'.some v d hd
    exact ⟨c, hc, hed.trans hdc⟩

theorem State.KeepsUnits.records {s t : State} (c : Scheduler) (h : ({ s with rsch := c } : State).KeepsUnits t) :
    s.KeepsUnits t :=
  State.KeepsUnits.trans (t := { s with rsch := c }) (.of_units rfl rfl rfl) h

theorem State.KeepsUnits.foldl {α : Type} (f : State → α → State) (h : ∀ (s : State) a, s.KeepsUnits (f s a)) (l : List α)
    (s : State) : s.KeepsUnits (l.foldl f s) := by
  induction l generalizing s with
  | nil => exact .refl s
  | cons a l ih => exact (h s a).trans (ih _)

/-- One entry changed to one that the scheduler may make of it. -/
theorem State.KeepsUnits.of_unit {s t : State} (u : UnitIx) {f : UnitEntry → UnitEntry} (hc : t.ctxs = s.ctxs)
    (hi : t.ims = s.ims) (hu : ∀ v, t.unit v = if u = v then (s.unit v).map f else s.unit v)
    (hf : ∀ e : UnitEntry, e.ScheduledTo (f e)) : s.KeepsUnits t := by
  refine ⟨hc, hi, fun v hv => ?_, fun v e he => ?_⟩
  · rw [hu, hv]
    split <;> rfl
  · rw [hu, he]
    split
    · exact ⟨f e, rfl, hf e⟩
    · exact ⟨e, rfl, .refl e⟩

theorem State.move_keepsUnits (s : State) (u : UnitIx) {st : UnitState} (hst : st ≠ .dark ∧ st ≠ .isolated ∧ st ≠ .probe)
    (f : UnitEntry → UnitEntry) (hf : ∀ e : UnitEntry, e.ScheduledTo (f e)) : s.KeepsUnits (s.move u st f) :=
  .of_unit u rfl rfl (fun v => s.unit_move u v st f) fun e => (e.goto_scheduledTo hst).trans (hf _)

theorem State.hand_units (s : State) (u : UnitIx) (ex : Exchange) :
    (s.hand u ex).ctxs = s.ctxs ∧ (s.hand u ex).ims = s.ims ∧ (s.hand u ex).units = s.units := by
  unfold State.hand
  split <;> exact ⟨rfl, rfl, rfl⟩

theorem State.hand_keepsUnits (s : State) (u : UnitIx) (ex : Exchange) : s.KeepsUnits (s.hand u ex) :=
  .of_units (s.hand_units u ex).1 (s.hand_units u ex).2.1 (s.hand_units u ex).2.2

theorem State.setUnitFlag_keepsUnits (s : State) (u : UnitIx) (f : UnitFlag) : s.KeepsUnits (s.setUnitFlag u f) := by
  refine .of_unit u ?_ ?_ (fun v => s.unit_setUnitFlag u v f) fun e => ⟨rfl, rfl, rfl, rfl, rfl, rfl, rfl, id⟩ <;>
    (unfold State.setUnitFlag; split <;> rfl)

theorem State.withdraw_keepsUnits (s : State) (u : UnitIx) : s.KeepsUnits (s.withdraw u) := by
  refine .of_units ?_ ?_ ?_ <;> (unfold State.withdraw State.withdrawLink; split <;> rfl)

theorem State.toHeld_keepsUnits (s : State) (u : UnitIx) (k : Condition) : s.KeepsUnits (s.toHeld u k) :=
  (s.withdraw_keepsUnits u).trans
    ((State.move_keepsUnits _ u (st := .held) (by decide)
      (fun e => { e with
        pending := some k
        linkTestAttempt := if k = .linkTest then (s.unit u).bind fun e => e.probe.map (·.attempt) else none })
      fun e => ⟨rfl, rfl, rfl, rfl, rfl, rfl, rfl, id⟩).trans (State.setUnitFlag_keepsUnits _ _ _))

theorem State.raise_keepsUnits (s : State) (u : UnitIx) (k : Condition) : s.KeepsUnits (s.raise u k id) := by
  unfold State.raise
  simp only
  split
  · exact (s.setUnitFlag_keepsUnits _ _).trans (State.toHeld_keepsUnits _ _ _)
  · exact s.setUnitFlag_keepsUnits _ _

theorem State.enlist_keepsUnits (s : State) (u : UnitIx) : s.KeepsUnits (s.enlist u) := by
  have hfirst (e : UnitEntry) : e.ScheduledTo { e with firstWindow := true, joined := false } :=
    ⟨rfl, rfl, rfl, rfl, rfl, rfl, rfl, id⟩
  unfold State.enlist
  split
  · exact .refl s
  · split
    · exact .refl s
    · simp only
      split
      · exact .refl s
      · split
        · exact .records _ (State.move_keepsUnits _ u (st := .stream) (by decide) _ hfirst)
        · split
          · exact .records _ (State.move_keepsUnits _ u (st := .suspended) (by decide) _ hfirst)
          · exact .refl s

theorem State.handJoin_keepsUnits (s : State) (u : UnitIx) : s.KeepsUnits (s.handJoin u) := by
  unfold State.handJoin
  split
  · exact .refl s
  · split
    · exact s.hand_keepsUnits _ _
    · exact .refl s

theorem State.join_keepsUnits (s : State) (u : UnitIx) : s.KeepsUnits (s.join u) :=
  (s.enlist_keepsUnits u).trans (State.handJoin_keepsUnits _ u)

theorem State.enterVerify_keepsUnits (s : State) (u : UnitIx) : s.KeepsUnits (s.enterVerify u) :=
  State.move_keepsUnits _ u (st := .verify) (by decide) _ fun _ => ⟨rfl, rfl, rfl, rfl, rfl, rfl, rfl, id⟩

theorem State.complete_keepsUnits (s : State) : s.KeepsUnits s.complete := by
  unfold State.complete
  split
  · exact .refl s
  · exact .records _
      ((State.KeepsUnits.foldl _ (fun t (m : Member) => t.enterVerify_keepsUnits m.unit) _ _).trans
        (State.KeepsUnits.foldl State.handVerify (fun t u => t.hand_keepsUnits u _) _ _))

theorem State.Scheduling.keepsUnits {full : Prop} {s t : State} (h : State.Scheduling full s t) : s.KeepsUnits t := by
  cases h with
  | edited => exact .of_units rfl rfl rfl
  | enlisted u => exact s.enlist_keepsUnits u
  | joined => exact s.handJoin_keepsUnits _
  | shifted _ hst => exact s.move_keepsUnits _ (by rcases hst with rfl | rfl <;> decide) _ fun e => .refl e
  | completed => exact s.complete_keepsUnits
  | stackFull => exact s.raise_keepsUnits _ _
  | began =>
    refine .of_units ?_ ?_ ?_ <;> (unfold State.beginWindow; split; rfl; simp only; split <;> rfl)
  | reported =>
    refine .of_units ?_ ?_ ?_ <;> (unfold State.reportDemand; simp only; split <;> rfl)

theorem State.Schedules.keepsUnits {full : Prop} {s t : State} (h : State.Schedules full s t) : s.KeepsUnits t := by
  induction h with
  | refl => exact .refl s
  | tail _ h ih => exact ih.trans h.keepsUnits

/-! ### What it makes of the window in flight -/

/-- The window of `t` is in the phase and with the buffer of the window of `s`, or it is a window begun, with no block read. -/
def State.KeepsWindow (s t : State) : Prop :=
  ∀ v, t.seng = some v → (∃ w, s.seng = some w ∧ v.phase = w.phase ∧ v.buffer = w.buffer) ∨ v.phase = .reading ∧ v.buffer = []

theorem State.KeepsWindow.of_same {s t : State} (h : t.seng = s.seng) : s.KeepsWindow t :=
  fun v hv => .inl ⟨v, h ▸ hv, rfl, rfl⟩

@[simp] theorem State.seng_hand (s : State) (u : UnitIx) (ex : Exchange) : (s.hand u ex).seng = s.seng := by
  unfold State.hand
  split <;> rfl

@[simp] theorem State.seng_setUnitFlag (s : State) (u : UnitIx) (f : UnitFlag) : (s.setUnitFlag u f).seng = s.seng := by
  unfold State.setUnitFlag
  split <;> rfl

theorem State.seng_withdraw (s : State) (u : UnitIx) :
    (s.withdraw u).seng = s.seng.map (·.ignore fun q => q.unit == u) := by
  unfold State.withdraw State.withdrawLink
  split <;> rfl

theorem State.seng_complete (s : State) : s.complete.seng = s.seng := by
  have hv (l : List Member) (t : State) : (l.foldl (fun s m => s.enterVerify m.unit) t).seng = t.seng := by
    induction l generalizing t with
    | nil => rfl
    | cons m l ih => exact ih (t.enterVerify m.unit)
  have hh (l : List UnitIx) (t : State) : (l.foldl State.handVerify t).seng = t.seng := by
    induction l generalizing t with
    | nil => rfl
    | cons u l ih => exact (ih _).trans (t.seng_hand u _)
  unfold State.complete
  split
  · rfl
  · exact (hh _ _).trans (hv _ _)

theorem State.Scheduling.keepsWindow {full : Prop} {s t : State} (h : State.Scheduling full s t) : s.KeepsWindow t := by
  cases h with
  | edited => exact .of_same rfl
  | enlisted u =>
    refine .of_same ?_
    unfold State.enlist
    split
    · rfl
    · split
      · rfl
      · simp only
        split
        · rfl
        · split
          · rfl
          · split <;> rfl
  | joined =>
    refine .of_same ?_
    unfold State.handJoin
    split
    · rfl
    · split
      · exact s.seng_hand _ _
      · rfl
  | shifted => exact .of_same rfl
  | completed => exact .of_same s.seng_complete
  | @stackFull u _ _ =>
    unfold State.raise
    simp only
    split
    · intro v hv
      simp only [State.toHeld, State.seng_setUnitFlag, State.move, State.seng_withdraw] at hv
      obtain ⟨w, hw, rfl⟩ := Option.map_eq_some_iff.1 hv
      exact .inl ⟨w, hw, rfl, rfl⟩
    · exact .of_same (s.seng_setUnitFlag _ _)
  | began =>
    unfold State.beginWindow
    split
    · exact .of_same rfl
    · simp only
      split
      · rintro v hv
        obtain rfl := Option.some.inj hv
        exact .inr ⟨rfl, rfl⟩
      · exact .of_same rfl
  | reported =>
    refine .of_same ?_
    unfold State.reportDemand
    simp only
    split <;> rfl

/-- With no window in flight at its start, the scheduler's work leaves none or one that is to be read. -/
theorem State.Schedules.window {full : Prop} {s t : State} (h : State.Schedules full s t) (hs : s.seng = none) :
    ∀ v, t.seng = some v → v.phase = .reading ∧ v.buffer = [] := by
  induction h with
  | refl => intro v hv; rw [hs] at hv; cases hv
  | tail _ h ih =>
    intro v hv
    rcases h.keepsWindow v hv with ⟨w, hw, hp, hb⟩ | hv
    · obtain ⟨hp', hb'⟩ := ih w hw
      exact ⟨hp.trans hp', hb.trans hb'⟩
    · exact hv

/-! ### With a record at work -/

/-- While the active record has a member or a window in flight, the scheduler's work begins a window at most: units, links and
contexts stand, and the records but for window sizes (R120, R122, R125). -/
structure State.Idles (s t : State) : Prop where
  works : s.Works t
  units : t.units = s.units
  links : t.links = s.links
  ctxs : t.ctxs = s.ctxs

theorem State.freeAndForm_of_active {s : State} {r : StreamRecord} (hr : s.rsch.active = some r)
    (h : r.members ≠ [] ∨ r.window ≠ none) (n : Nat) : State.freeAndForm n s = s := by
  cases n with
  | zero => rfl
  | succ n =>
    have hno : ¬(r.members.isEmpty && r.window.isNone) = true := by
      rcases h with h | h <;> simp [h]
    unfold State.freeAndForm
    simp only [hr, if_neg hno]

theorem State.settleStreams_of_active {s : State} {r : StreamRecord} (hr : s.rsch.active = some r)
    (h : r.members ≠ [] ∨ r.window ≠ none) : s.settleStreams = s.refreshWidths.beginWindow := by
  rw [State.settleStreams, State.freeAndForm_of_active hr h]

theorem State.beginWindow_same (s : State) :
    s.beginWindow.units = s.units ∧ s.beginWindow.links = s.links ∧ s.beginWindow.ctxs = s.ctxs := by
  unfold State.beginWindow
  split
  · exact ⟨rfl, rfl, rfl⟩
  · simp only
    split <;> exact ⟨rfl, rfl, rfl⟩

theorem State.reportDemand_same (s : State) :
    s.reportDemand.units = s.units ∧ s.reportDemand.links = s.links ∧ s.reportDemand.ctxs = s.ctxs ∧
      s.reportDemand.rsch = s.rsch ∧ s.reportDemand.seng = s.seng := by
  unfold State.reportDemand
  simp only
  split <;> exact ⟨rfl, rfl, rfl, rfl, rfl⟩

theorem State.settled_of_active {s : State} {r : StreamRecord} (hr : s.rsch.active = some r)
    (h : r.members ≠ [] ∨ r.window ≠ none) : s.Idles s.settled := by
  obtain ⟨hu, hl, hc, -, -⟩ := s.settleStreams.reportDemand_same
  obtain ⟨hu', hl', hc'⟩ := s.refreshWidths.beginWindow_same
  rw [State.settleStreams_of_active hr h] at hu hl hc
  have heq : s.settled = s.refreshWidths.beginWindow.reportDemand := by rw [State.settled, State.settleStreams_of_active hr h]
  rw [heq]
  exact ⟨heq ▸ s.settled_works, hu.trans hu', hl.trans hl', hc.trans hc'⟩

/-- A window in flight stays as it is while its record is active (R122). -/
theorem State.settled_in_flight {s : State} {r : StreamRecord} (hr : s.rsch.active = some r) (hw : r.window ≠ none) :
    s.settled.seng = s.seng ∧ s.settled.rsch = s.refreshWidths.rsch := by
  have hb : s.refreshWidths.beginWindow = s.refreshWidths := by
    have ha : s.refreshWidths.rsch.active = some { r with w := s.width r } := by
      simp only [State.refreshWidths, hr, Option.map_some]
    have hno : ({ r with w := s.width r } : StreamRecord).window.isNone = false := by
      simpa [Option.isSome_iff_ne_none] using hw
    simp only [State.beginWindow, ha, hno, Bool.false_and, Bool.false_eq_true, if_false]
  have heq : s.settled = s.refreshWidths.reportDemand := by
    rw [State.settled, State.settleStreams_of_active hr (.inr hw), hb]
  obtain ⟨-, -, -, hrs, hse⟩ := s.refreshWidths.reportDemand_same
  rw [heq]
  exact ⟨hse, hrs⟩

end Sys2Proof.Machine

/-! The ends of array accesses (R46 to R50, R138, R194, R199). -/

namespace Sys2Proof.Machine

/-! ### Bytes of the array -/

theorem Memory.lookup_filter (m : List Host.Cell) {a : Nat} {p : Host.Cell → Bool} (hp : ∀ v, p (a, v) = true) :
    (m.filter p).lookup a = m.lookup a := by
  induction m with
  | nil => rfl
  | cons c rest ih =>
    obtain ⟨k, v⟩ := c
    by_cases hk : a = k
    · subst hk
      simp [hp]
    · by_cases hq : p (k, v) = true <;> simp [hq, List.lookup_cons, beq_false_of_ne hk, ih]

theorem Memory.lookup_filter_none (m : List Host.Cell) {a : Nat} {p : Host.Cell → Bool} (hp : ∀ v, p (a, v) = false) :
    (m.filter p).lookup a = none := by
  refine Memory.lookup_eq_none_of_lt fun c hc hca => ?_
  obtain ⟨k, v⟩ := c
  obtain rfl : k = a := hca
  simp [hp v] at hc

/-- The bytes laid out from an address read back in order. -/
theorem Memory.read_cells (bytes : List Byte) (base j : Nat) :
    ((Memory.cells base bytes).lookup (base + j)).getD Config.erased = bytes.getD j Config.erased := by
  induction bytes generalizing base j with
  | nil => rfl
  | cons v rest ih =>
    have hnext (j : Nat) : base + (j + 1) = base + 1 + j := by omega
    have hno : (Memory.cells (base + 1) rest).lookup base = none :=
      Memory.lookup_eq_none_of_lt fun c hc => by
        have := Memory.mem_cells hc
        omega
    cases j with
    | zero =>
      by_cases hv : v = Config.erased
      · simp [Memory.cells, hv, hno]
      · simp [Memory.cells, hv]
    | succ j =>
      rw [hnext j]
      by_cases hv : v = Config.erased
      · simpa [Memory.cells, hv] using ih (base + 1) j
      · have hne : (base + 1 + j == base) = false := by simp; omega
        simpa [Memory.cells, hv, List.lookup_cons, hne] using ih (base + 1) j

/-- The block written reads as the bytes given. -/
theorem Memory.read_writeBlock (m : List Host.Cell) (b : Nat) {bytes : List Byte} {j : Nat} (hj : j < 1024)
    (hlen : bytes.length = 1024) : Memory.read (Memory.writeBlock m b bytes) (1024 * b + j) = bytes.getD j 0 := by
  have hbase : b * Config.blockBytes + j = 1024 * b + j := by simp only [Config.blockBytes]; omega
  have htake : bytes.take Config.blockBytes = bytes := List.take_of_length_le (by simp [hlen, Config.blockBytes])
  have hread := Memory.read_cells bytes (b * Config.blockBytes) j
  rw [hbase] at hread
  have hlow : (m.filter fun c => decide (c.1 < b * Config.blockBytes)).lookup (1024 * b + j) = none :=
    Memory.lookup_filter_none m fun v => decide_eq_false (by simp only [Config.blockBytes]; omega)
  have hhigh : (m.filter fun c => decide (b * Config.blockBytes + Config.blockBytes ≤ c.1)).lookup (1024 * b + j) = none :=
    Memory.lookup_filter_none m fun v => decide_eq_false (by simp only [Config.blockBytes]; omega)
  unfold Memory.read Memory.writeBlock
  simp only [List.lookup_append, hlow, hhigh, htake, Option.none_or, Option.or_none, hread]
  have hin : j < bytes.length := by omega
  simp [List.getD_eq_getElem?_getD, List.getElem?_eq_getElem hin]

theorem Memory.readBlock_eq (m : List Host.Cell) (b : Nat) :
    Memory.readBlock m b = (List.range 1024).map fun j => Memory.read m (1024 * b + j) := by
  refine List.map_congr_left fun j hj => ?_
  have hj : j < 1024 := List.mem_range.1 hj
  have hbase : b * Config.blockBytes + j = 1024 * b + j := by simp only [Config.blockBytes]; omega
  rw [hbase]
  refine congrArg (·.getD Config.erased) (Memory.lookup_filter m fun v => ?_)
  rw [Bool.and_eq_true]
  exact ⟨decide_eq_true (by simp only [Config.blockBytes]; omega), decide_eq_true (by simp only [Config.blockBytes]; omega)⟩

/-! ### An access of the long request -/

/-- The state in which an access's end is worked out: the port gone free (R50). -/
def State.freed (s : State) : State :=
  { s with ims := { s.ims with port := none } }

theorem exec_arrayAccessDone {s t : State} {r : Requester} (hrun : s.running = true) (hport : s.ims.port = some r)
    (h : s.freed.accessDone r = some t) : ∃ t', exec .arrayAccessDone s = .next t' ∧ State.Ends t t' := by
  refine ⟨t.finishAfter (some r), ?_, State.ends_finishAfter _ _⟩
  have hnot : ¬(!s.running) = true := by simp [hrun]
  refine (if_neg hnot).trans ?_
  rw [hport]
  change (match s.freed.accessDone r with
    | none => Host.Outcome.fault Fault.noSuchBlock
    | some t => Host.Outcome.next (t.finishAfter (some r))) = _
  rw [h]

theorem exec_longAccess {s t : State} {l : LongRequest} (hrun : s.running = true)
    (hport : s.ims.port = some .longRequest) (hl : s.clnk.long = some l) (h : s.freed.longAccess l = some t) :
    ∃ t', exec .arrayAccessDone s = .next t' ∧ State.Ends t t' := by
  refine exec_arrayAccessDone hrun hport ?_
  have hl' : s.freed.clnk.long = some l := hl
  simp only [State.accessDone, hl', h]

theorem State.slotRun?_eq {s : State} {k : SlotIx} {i : SlotInfo} {t : Nat} (h : (s.slot k).info? = some i)
    (ht : i.first + t < 512) : s.slotRun? k t = some i := by
  simp only [State.slotRun?, h, Option.filter_some]
  exact if_pos (decide_eq_true ht)

/-- A long request completes with a place free for its reply: owed, but for a muted one (R29, R194). -/
theorem State.completeLong_owed {s : State} (hon : s.linkOn = true) (ho : s.clnk.owed.length < 4) (l : LongRequest)
    (st : Status) :
    s.completeLong l st =
      { s with
        clnk :=
          { s.clnk with
            long := none, owed := if l.muted then s.clnk.owed else s.clnk.owed ++ [⟨l.kind, l.tag, st⟩] } } := by
  unfold State.completeLong
  cases hm : l.muted <;> simp [hon, ho]

/-- A long request completes with no reply owed (R29). -/
theorem State.completeLong_silent {s : State} {l : LongRequest} (h : s.linkOn = false ∨ l.muted = true) (st : Status) :
    s.completeLong l st = { s with clnk := { s.clnk with long := none } } := by
  unfold State.completeLong
  rcases h with h | h <;> simp [h]

theorem GapState.counts_of_ne {g : GapState} (hd : g ≠ .deep) (hl : g ≠ .lost) : g.counts = true := by
  cases g with
  | deep => exact absurd rfl hd
  | lost => exact absurd rfl hl
  | _ => rfl

theorem State.linkOn_of_ne {s : State} (hrun : s.running = true) (hd : s.gapc.state ≠ .deep) (hl : s.gapc.state ≠ .lost) :
    s.linkOn = true := by
  simp [State.linkOn, hrun, GapState.counts_of_ne hd hl]

theorem Slot.info?_loading {v : Slot} {i : SlotInfo} {c : Nat} {w : List Nat} (h : v = .loading i c w) : v.info? = some i := by
  rw [h]
  rfl

/-- Settles O43: the accesses of IMAGE_ERASE and of SAVE_CONFIG. -/
theorem eraseAndSaveAccessesEnd : Obligations.EraseAndSaveAccessesEnd := by
  intro s kind tag muted hp hr hport hd hlost ho owed
  have hrun := State.running_eq_true hp hr
  have hon := State.linkOn_of_ne hrun hd hlost
  refine ⟨fun k hl => ⟨fun hin => ?_, fun hin => ?_⟩, fun c => ⟨fun hl => ?_, fun hl => ?_⟩⟩
  · refine exec_longAccess hrun hport hl ?_
    have hin' : s.freed.inUse k = false := hin
    simp only [State.longAccess, State.eraseDone, hin', Bool.false_eq_true, if_false]
    rw [State.completeLong_owed (s := s.freed.putSlot k .empty) hon ho]
    rfl
  · refine exec_longAccess hrun hport hl ?_
    have hin' : s.freed.inUse k = true := hin
    simp only [State.longAccess, State.eraseDone, hin', if_true]
    rw [State.completeLong_owed (s := s.freed) hon ho]
    rfl
  · obtain ⟨t, ht, hends⟩ := exec_longAccess (t := ({ s.freed with cfgr := some (brokenRecord c) } : State).continueLong
      ⟨kind, tag, .saveErase c, muted⟩ (.saveWrite c)) hrun hport hl rfl
    have hcfg : t.cfgr = some (brokenRecord c) := by rw [hends.same]; rfl
    refine ⟨t, ht, ?_, ?_⟩
    · rw [hcfg]
      exact hends
    · simp [State.resetValid, hcfg]
  · intro crc
    have hcrc : (writtenRecord c).crc = crc := rfl
    obtain ⟨t, ht, hends⟩ := exec_longAccess (t := s.freed.saveDone ⟨kind, tag, .saveWrite c, muted⟩ c) hrun hport hl rfl
    have hdone : s.freed.saveDone ⟨kind, tag, .saveWrite c, muted⟩ c =
        { s.freed with
          cfgr := some (writtenRecord c)
          clnk := { s.clnk with long := none, saved := true, owed := owed (.ok (.recordCrc crc)) } } :=
      State.completeLong_owed
        (s := { s.freed with cfgr := some (writtenRecord c), clnk := { s.clnk with saved := true } }) hon ho _ _
    rw [hdone] at hends
    have hcfg : t.cfgr = some (writtenRecord c) := by rw [hends.same]
    refine ⟨t, ht, hends, by simp [State.resetValid, hcfg], fun hv => ?_⟩
    simp [State.resetConfig, hcfg, hv]

/-- Settles O42: the fill writes and scan reads of IMAGE_CLOSE, and its end. -/
theorem imageCloseAccessesEnd : Obligations.ImageCloseAccessesEnd := by
  intro s kind tag k filled scanned crc i cursor written muted hp hr hport hslot hd hlost ho owed
  have hrun := State.running_eq_true hp hr
  have hon := State.linkOn_of_ne hrun hd hlost
  have hslot' : s.freed.slot k = .loading i cursor written := hslot
  have hinfo := Slot.info?_loading hslot'
  refine ⟨fun b rest hl hb => ?_, fun hl hb => ?_⟩
  · refine exec_longAccess hrun hport hl ?_
    simp only [State.longAccess, List.headD_cons, hslot', State.slotRun?_eq hinfo hb]
    rfl
  · intro now
    have hwork : s.freed.longAccess ⟨kind, tag, .imageClose k [] filled scanned crc, muted⟩ =
        some (if scanned + 1 < i.len then
          s.freed.continueLong ⟨kind, tag, .imageClose k [] filled scanned crc, muted⟩
            (.imageClose k [] filled (scanned + 1) now)
        else s.freed.closeDone ⟨kind, tag, .imageClose k [] filled scanned crc, muted⟩ k i (~~~now) filled) := by
      simp only [State.longAccess, List.headD_nil, hslot', State.slotRun?_eq hinfo hb]
      rfl
    refine ⟨fun hlt => ?_, fun hle hne => ?_, fun hle heq => ?_⟩
    · refine exec_longAccess hrun hport hl ?_
      rw [hwork, if_pos hlt]
      rfl
    · refine exec_longAccess hrun hport hl ?_
      rw [hwork, if_neg (Nat.not_lt.2 hle), State.closeDone, if_neg hne,
        State.completeLong_owed (s := s.freed.putSlot k (.damaged i .mismatch)) hon ho]
      rfl
    · have hdone := State.completeLong_owed (s := s.freed.putSlot k (.valid i)) hon ho
        ⟨kind, tag, .imageClose k [] filled scanned crc, muted⟩ (.ok (.closed (~~~now) filled))
      generalize hq : (s.freed.putSlot k (.valid i)).completeLong
        ⟨kind, tag, .imageClose k [] filled scanned crc, muted⟩ (.ok (.closed (~~~now) filled)) = q at hdone
      obtain ⟨t, ht, hends⟩ := exec_longAccess (t := q.settleStreams) hrun hport hl (by
        rw [hwork, if_neg (Nat.not_lt.2 hle), State.closeDone, if_pos heq, hq])
      rw [heq] at hdone
      have howed : q.clnk.owed = owed (.ok (.closed i.crc filled)) := by rw [hdone]; rfl
      refine ⟨t, ht, ?_, ?_⟩
      · have := q.settleStreams_frame.trans (.of_ends hends)
        rw [hdone] at this
        exact this
      · rw [← howed, ← q.settleStreams_works.clnk, hends.same]

end Sys2Proof.Machine

/-! The end of an IMAGE_DATA's write and of a window's block read (R46, R50, R138, R139). -/

namespace Sys2Proof.Machine

/-! ### The write of an IMAGE_DATA -/

/-- What the write of block `t` of a LOADING slot leaves, with a reply owed or none. -/
theorem exec_dataWritten {s : State} {kind tag : Byte} {k : SlotIx} {t : Nat} {data : List Byte} {i : SlotInfo} {cursor : Nat}
    {written : List Nat} {muted : Bool} (hrun : s.running = true) (hport : s.ims.port = some .longRequest)
    (hl : s.clnk.long = some ⟨kind, tag, .imageData k t data, muted⟩) (hslot : s.slot k = .loading i cursor written)
    (ht : i.first + t < 512) :
    ∃ s', exec .arrayAccessDone s = .next s' ∧ State.Ends
      (s.freed.dataWritten ⟨kind, tag, .imageData k t data, muted⟩ k t i written data) s' := by
  have hslot' : s.freed.slot k = .loading i cursor written := hslot
  refine exec_longAccess hrun hport hl ?_
  simp only [State.longAccess, hslot', State.slotRun?_eq (Slot.info?_loading hslot') ht]

/-- The first part of O41: an IMAGE_DATA's block written. -/
theorem imageData_written (s : State) (kind tag : Byte) (k : SlotIx) (t : Nat) (data : List Byte) (i : SlotInfo)
    (cursor : Nat) (written : List Nat) (muted : Bool) (hp : s.powered = true) (hr : s.resetLow = false)
    (hport : s.ims.port = some .longRequest) (hl : s.clnk.long = some ⟨kind, tag, .imageData k t data, muted⟩)
    (hslot : s.slot k = .loading i cursor written) (ht : i.first + t < 512) (hdata : data.length = 1024)
    (hlost : s.gapc.state ≠ .lost) :
    let set := written.filter (fun b => decide (b < t)) ++ t :: written.filter (fun b => decide (t < b))
    let ims : ImageStore :=
      { slots := s.ims.slots.set k.val (.loading i (t + 1) set)
        mem := Memory.writeBlock s.ims.mem (i.first + t) data
        port := none }
    (∀ j, j < 1024 → Memory.read ims.mem (1024 * (i.first + t) + j) = data.getD j 0) ∧
      (∀ a, a < 1024 * (i.first + t) ∨ 1024 * (i.first + t) + 1024 ≤ a →
        Memory.read ims.mem a = Memory.read s.ims.mem a) ∧
      (s.gapc.state ≠ .deep → muted = false → s.clnk.owed.length < 4 →
        ∃ s', exec .arrayAccessDone s = .next s' ∧ State.Ends
          { s with
            ims := ims
            clnk :=
              { s.clnk with
                long := none
                owed := s.clnk.owed ++ [⟨kind, tag, .ok (.written (t + 1) set.length)⟩] } } s') ∧
      (s.gapc.state = .deep ∨ muted = true →
        ∃ s', exec .arrayAccessDone s = .next s' ∧
          State.Ends { s with ims := ims, clnk := { s.clnk with long := none } } s') := by
  intro set ims
  have hrun := State.running_eq_true hp hr
  obtain ⟨s', hs', hends⟩ := exec_dataWritten hrun hport hl hslot ht
  refine ⟨fun j hj => Memory.read_writeBlock _ _ hj hdata, fun a ha => Memory.read_writeBlock_ne _ _ _ _ ?_,
    fun hd hm ho => ⟨s', hs', ?_⟩, fun h => ⟨s', hs', ?_⟩⟩
  · simp only [Config.blockBytes]
    omega
  · subst hm
    rw [State.dataWritten, State.completeLong_owed (s := (s.freed.writeBlock (i.first + t) data).putSlot k _)
      (State.linkOn_of_ne hrun hd hlost) ho] at hends
    exact hends
  · have hsilent : s.linkOn = false ∨ muted = true :=
      h.imp (fun hd => State.linkOn_eq_false (.inr (.inr (.inl hd)))) id
    rw [State.dataWritten, State.completeLong_silent (s := (s.freed.writeBlock (i.first + t) data).putSlot k _)
      (l := ⟨kind, tag, .imageData k t data, muted⟩) hsilent] at hends
    exact hends

/-! ### A window's parts handed -/

/-- The frames of an exchange follow from the unit table, the slots and the contexts. -/
theorem State.framesOf_congr {s t : State} (hu : t.units = s.units) (hi : t.ims = s.ims) (hc : t.ctxs = s.ctxs) :
    t.framesOf = s.framesOf := by
  have hunit : t.unit = s.unit := funext fun u => congrArg (fun us : Vector (Option UnitEntry) 24 => us[u.val]) hu
  have hone : t.unitFrames = s.unitFrames := by
    funext u ex e
    cases ex <;> simp only [State.unitFrames, State.slot, State.ctx, hi, hc]
  funext ex
  cases ex <;> simp only [State.framesOf, State.partFrames, hunit, hone]

/-- The part of segment `x` of a window (R139). -/
def Window.partOn (w : Window) (x : Seg) : WindowPart :=
  { slot := w.slot, level := w.level, start := w.start, blocks := w.buffer, members := w.liveOn x }

/-- A link with its part of a window handed, if it has a participant (R138). -/
def Window.handTo (w : Window) (x : Seg) (l : Link) : Link :=
  if w.liveOn x = [] then l else l.handPart (w.partOn x)

theorem State.handParts_eq (s : State) (w : Window) :
    allSegs.foldl (fun s x => s.handPart w x) s =
      { s with links := ⟨w.handTo .a s.links.a, w.handTo .b s.links.b, w.handTo .c s.links.c⟩ } := by
  have hone (s : State) (x : Seg) : s.handPart w x = s.onLink x (w.handTo x) := by
    unfold State.handPart Window.handTo
    by_cases h : w.liveOn x = []
    · simp only [h, List.isEmpty_nil, if_true]
      cases x <;> rfl
    · have hne : ¬(w.liveOn x).isEmpty = true := by simpa using h
      simp only [if_neg h, if_neg hne]
      rfl
  simp only [allSegs, List.foldl_cons, List.foldl_nil, hone]
  rfl

theorem Link.holds_handPart (l : Link) (w : WindowPart) (h : l.halted = false) : (l.handPart w).Holds (.window w) := by
  have hq : .window w ∈ (l.hand (.window w)).queue := by simp [Link.hand, h]
  unfold Link.handPart
  simp only
  split
  · exact .inl hq
  · exact .inl hq

theorem State.partFrames_ne_nil (s : State) {w : WindowPart} (h : w.blocks ≠ []) : s.framesOf (.window w) ≠ [] := by
  cases hb : w.blocks with
  | nil => exact absurd hb h
  | cons b rest => simp [State.framesOf, State.partFrames, hb]

/-- The window as the read of its last block leaves it (R138). -/
def Window.carrying (w : Window) : Window :=
  { w with phase := .carrying, parts := perOf fun x => if w.liveOn x = [] then .ended else .carrying }

theorem State.carryWindow_eq (s : State) (w : Window) :
    s.carryWindow w =
      ({ s with
        seng := some w.carrying
        links := ⟨w.handTo .a s.links.a, w.handTo .b s.links.b, w.handTo .c s.links.c⟩ } : State).endWindow := by
  have hparts : (perOf fun x => if (w.liveOn x).isEmpty then PartState.ended else .carrying) =
      perOf fun x => if w.liveOn x = [] then PartState.ended else .carrying := by
    simp only [perOf, List.isEmpty_iff]
  have hw : { w with phase := .carrying, parts := perOf fun x => if (w.liveOn x).isEmpty then PartState.ended else .carrying } =
      w.carrying := by
    rw [hparts]
    rfl
  simp only [State.carryWindow, hw]
  rw [State.handParts_eq]
  rfl

theorem Window.carrying_ended (w : Window) : w.carrying.ended = true ↔ ∀ x, w.liveOn x = [] := by
  have hpart (x : Seg) : (perGet w.carrying.parts x == .ended) = decide (w.liveOn x = []) := by
    simp only [Window.carrying, perGet_perOf]
    by_cases h : w.liveOn x = [] <;> simp [h]
  have hall : w.carrying.ended =
      ((decide (w.liveOn .a = []) && decide (w.liveOn .b = [])) && decide (w.liveOn .c = [])) := by
    rw [← hpart, ← hpart, ← hpart]
    rfl
  rw [hall]
  simp only [Bool.and_eq_true, decide_eq_true_eq]
  exact ⟨fun ⟨⟨ha, hb⟩, hc⟩ x => by cases x <;> assumption, fun h => ⟨⟨h _, h _⟩, h _⟩⟩

/-! ### A window's block read -/

/-- What the read of a window's next block leaves (R50, R138). -/
theorem exec_blockRead {s : State} {w : Window} {i : SlotInfo} (hrun : s.running = true) (hport : s.ims.port = some .stream)
    (hw : s.seng = some w) (hphase : w.phase = .reading) (hlen : w.buffer.length < w.count)
    (hi : (s.slot w.slot).info? = some i) (hb : i.first + w.start + w.buffer.length < 512) :
    ∃ t, exec .arrayAccessDone s = .next t ∧ State.Ends
      (s.freed.bufferBlock w
        ((List.range 1024).map fun j => Memory.read s.ims.mem (1024 * (i.first + w.start + w.buffer.length) + j))) t := by
  refine exec_arrayAccessDone hrun hport ?_
  have hw' : s.freed.seng = some w := hw
  have hwaits : s.freed.streamWaits = true := by simp [State.streamWaits, hw', hphase, hlen]
  have hi' : (s.freed.slot w.slot).info? = some i := hi
  simp only [State.accessDone, State.streamAccess, hw', hwaits, Bool.not_true, Bool.false_eq_true, if_false,
    State.slotRun?_eq hi' (show i.first + (w.start + w.buffer.length) < 512 by omega), Option.map_some, Memory.readBlock_eq]
  rfl

/-- With every participant IGNORED a window has no results (R138, R142). -/
theorem State.readings_nil {s : State} {w : Window} (h : ∀ x, w.liveOn x = []) : s.readings w = [] := by
  refine List.filterMap_eq_nil_iff.2 fun p hp => if_pos ?_
  by_contra hne
  have hmem : p.unit ∈ w.liveOn p.seg :=
    List.mem_map.2 ⟨p, List.mem_filter.2 ⟨hp, by simp [hne]⟩, rfl⟩
  rw [h] at hmem
  cases hmem

/-- The last block read with a participant left: the window is CARRYING, its parts handed (R138, R139). -/
theorem State.lastRead_carries {s t : State} {w : Window} {r : StreamRecord} (hseng : s.rsch.active = some r)
    (hwin : r.window ≠ none) (hlive : ∃ x, w.liveOn x ≠ []) (ht : State.Ends (s.freed.carryWindow w).settled t) :
    s.RestoreFrame t ∧ t.units = s.units ∧ t.ctxs = s.ctxs ∧ t.PermitLaw ∧ t.seng = some w.carrying ∧
      ∀ x, perGet t.links x = (w.handTo x (perGet s.links x)).arbitrate s.framesOf := by
  have hnot : ¬w.carrying.ended = true := by
    obtain ⟨x, hx⟩ := hlive
    exact fun h => hx (w.carrying_ended.1 h x)
  generalize hq : ({ s.freed with
    seng := some w.carrying
    links := ⟨w.handTo .a s.links.a, w.handTo .b s.links.b, w.handTo .c s.links.c⟩ } : State) = q
  have hcarry : s.freed.carryWindow w = q := by
    rw [State.carryWindow_eq, ← hq]
    simp only [State.endWindow, if_neg hnot]
    rfl
  have hactive : q.rsch.active = some r := by rw [← hq]; exact hseng
  have hidle := State.settled_of_active hactive (.inr hwin)
  obtain ⟨hsame, -⟩ := State.settled_in_flight hactive hwin
  rw [hcarry] at ht
  have hframe : s.RestoreFrame q := by rw [← hq]; rfl
  have htseng : t.seng = q.settled.seng := by rw [ht.same]
  have hims : q.settled.ims.slots = s.ims.slots := by rw [hidle.works.ims, ← hq]; rfl
  have hframes : q.settled.framesOf = s.framesOf := by
    have h1 : q.settled.framesOf = q.framesOf :=
      State.framesOf_congr hidle.units hidle.works.ims hidle.ctxs
    have h2 : q.framesOf = s.framesOf := by rw [← hq]; rfl
    exact h1.trans h2
  refine ⟨hframe.trans (hidle.works.frame.trans (.of_ends ht)), ?_, ?_, ht.permits, ?_, fun x => ?_⟩
  · have h1 : t.units = q.settled.units := by rw [ht.same]
    rw [h1, hidle.units, ← hq]
    rfl
  · have h1 : t.ctxs = q.settled.ctxs := by rw [ht.same]
    rw [h1, hidle.ctxs, ← hq]
    rfl
  · rw [htseng, hsame, ← hq]
  · rw [ht.links x, hframes, hidle.links, ← hq]
    cases x <;> rfl

/-- The last block read with every participant IGNORED: the window ends with no results (R138). -/
theorem State.lastRead_ends {s t : State} {w : Window} (hlive : ∀ x, w.liveOn x = [])
    (ht : State.Ends (s.freed.carryWindow w).settled t) :
    s.RestoreFrame t ∧ (∀ v, t.seng = some v → v.phase = .reading ∧ v.buffer = []) ∧
      ∀ u e, s.unit u = some e → ∃ e', t.unit u = some e' ∧ e.ScheduledTo e' := by
  generalize hq : ({ s.freed with
    seng := none
    links := ⟨w.handTo .a s.links.a, w.handTo .b s.links.b, w.handTo .c s.links.c⟩ } : State) = q
  have hcarry : s.freed.carryWindow w = q.boundary w.start w.count [] := by
    rw [State.carryWindow_eq, ← hq]
    have hread (q : State) : q.readings w.carrying = [] := State.readings_nil hlive
    simp only [State.endWindow, if_pos (w.carrying_ended.2 hlive), hread, List.foldl_nil, List.map_nil]
    rfl
  rw [hcarry] at ht
  have hchain : State.Schedules True q (q.boundary w.start w.count []).settled :=
    (q.boundary_schedules _ _ _).trans (State.settled_schedules _ (.inr trivial))
  have hframe : s.RestoreFrame q := by rw [← hq]; rfl
  have hunits : t.units = (q.boundary w.start w.count []).settled.units := by rw [ht.same]
  have hwindow : t.seng = (q.boundary w.start w.count []).settled.seng := by rw [ht.same]
  refine ⟨hframe.trans ((q.boundary_frame _ _ _).trans ((State.settled_frame _).trans (.of_ends ht))), fun v hv => ?_,
    fun u e he => ?_⟩
  · exact hchain.window (by rw [← hq]) v (hwindow ▸ hv)
  · have hqu : q.unit u = some e := by rw [← hq]; exact he
    obtain ⟨e', he', hs⟩ := hchain.keepsUnits.some u e hqu
    exact ⟨e', by rw [State.unit, hunits]; exact he', hs⟩

/-- Settles O41: an IMAGE_DATA's write, and a window's read. -/
theorem blockWritesAndReadsEnd : Obligations.BlockWritesAndReadsEnd := by
  refine ⟨imageData_written, fun s w i hp hr hport hw hphase hlen hi hb => ?_⟩
  intro block read live part
  have hrun := State.running_eq_true hp hr
  obtain ⟨t, ht, hends⟩ := exec_blockRead hrun hport hw hphase hlen hi hb
  have hlive (x : Seg) : read.liveOn x = live x := by
    refine congrArg (List.map Participant.unit) (List.filter_congr fun q _ => ?_)
    simp [Bool.decide_and, bne, beq_eq_decide]
  have hreadlen : read.buffer.length = w.buffer.length + 1 := by simp [read]
  have hlast (h : w.buffer.length + 1 = w.count) : State.Ends (s.freed.carryWindow read).settled t := by
    have hnot : ¬read.buffer.length < read.count := by rw [hreadlen]; simp [read, h]
    have heq : s.freed.bufferBlock w block = (s.freed.carryWindow read).settled := if_neg hnot
    rw [← heq]
    exact hends
  refine ⟨fun h => ⟨t, ht, ?_⟩, fun h hflight hex => ⟨t, ht, ?_⟩, fun h hall => ⟨t, ht, ?_⟩⟩
  · have hlt : read.buffer.length < read.count := by rw [hreadlen]; simpa [read] using h
    have heq : s.freed.bufferBlock w block = { s.freed with seng := some read } := if_pos hlt
    rw [← show ({ s with ims := { s.ims with port := none }, seng := some read } : State) =
      { s.freed with seng := some read } from rfl] at heq
    rw [← heq]
    exact hends
  · obtain ⟨r, hr, -, hwin, -⟩ := hflight w hw
    have hex' : ∃ x, read.liveOn x ≠ [] := hex.imp fun x hx => by rw [hlive]; exact hx
    obtain ⟨hframe, hunits, hctxs, hperm, hseng, hlinks⟩ :=
      State.lastRead_carries hr (by simp [hwin]) hex' (hlast h)
    refine ⟨hframe, hunits, hctxs, hperm, ?_, fun x => ⟨fun hx => ?_, fun hx => ?_⟩⟩
    · rw [hseng]
      simp only [Window.carrying, hlive]
    · rw [hlinks, Window.handTo, hlive, if_pos hx]
    · have hpart : read.partOn x = part x := by
        simp only [Window.partOn, hlive]
        rfl
      have hlink : perGet t.links x = ((perGet s.links x).handPart (part x)).arbitrate s.framesOf := by
        rw [hlinks, Window.handTo, hlive, if_neg hx, hpart]
      refine ⟨hlink, fun hrunning => ?_⟩
      rw [hlink]
      exact Link.holds_arbitrate (Link.holds_handPart _ _ hrunning) (s.partFrames_ne_nil (by simp [part, read]))
  · obtain ⟨hframe, hwindow, hkept⟩ := State.lastRead_ends (fun x => (hlive x).trans (hall x)) (hlast h)
    refine ⟨hframe, hwindow, fun u e he => ?_⟩
    obtain ⟨e', he', hs⟩ := hkept u e he
    exact ⟨e', he', hs.decl, hs.retry⟩

end Sys2Proof.Machine

/-! Units out of the scheduler's reach: those of no record that wait for no VALID slot. Its own work leaves their entries and the
exchanges that the links hold for them (R112 to R129), and adds no context poll to a link. -/

namespace Sys2Proof.Machine

/-! ### Exchanges that a link goes on holding -/

/-- What is handed to a link for another unit leaves a unit's exchanges as they are (R82). -/
theorem Link.holds_hand_ne {l : Link} {ex new : Exchange} (hne : new.unit? ≠ ex.unit?) : (l.hand new).Holds ex ↔ l.Holds ex := by
  have hnew : ex ≠ new := fun h => hne (h ▸ rfl)
  have hkeep : (!new.replaces ex) = true := by simpa [Exchange.replaces] using hne
  unfold Link.hand
  simp only [Link.Holds]
  refine or_congr_left ?_
  split
  · rfl
  · simp only [List.mem_append, List.mem_filter, List.mem_singleton, hkeep, and_true, hnew, or_false]

/-- The withdrawal of another unit leaves a unit's exchanges as they are (R90). -/
theorem Link.holds_withdraw_ne {l : Link} {ex : Exchange} {u v : UnitIx} (hex : ex.unit? = some v) (hne : u ≠ v) :
    (l.withdraw u).Holds ex ↔ l.Holds ex := by
  have hex' : ex.unit? ≠ some u := by rw [hex]; simpa using hne.symm
  have hsame (q : Exchange) : q.withoutMember u = ex ↔ q = ex := by
    cases q with
    | window w => exact iff_of_false (fun h => by rw [← h] at hex; cases hex) fun h => by rw [← h] at hex; cases hex
    | _ => exact Iff.rfl
  have hflight (f : InFlight) : (f.withdraw u).exchange = ex ∧ (f.withdraw u).cut = false ↔ f.exchange = ex ∧ f.cut = false := by
    unfold InFlight.withdraw
    split
    · next h => exact iff_of_false (fun hc => Bool.noConfusion hc.2) fun hc => hex' (hc.1 ▸ h)
    · rfl
  unfold Link.Holds Link.withdraw
  refine or_congr ?_ ?_
  · simp only [List.mem_map, List.mem_filter, hsame]
    exact ⟨fun ⟨q, ⟨hq, _⟩, he⟩ => he ▸ hq, fun hq => ⟨ex, ⟨hq, by simpa using hex'⟩, rfl⟩⟩
  · cases l.inFlight with
    | none => simp
    | some f => simpa using hflight f

/-- Each link of `t` holds of unit `v` the exchanges that the link of `s` holds of it. -/
def State.KeepsExchanges (s t : State) (v : UnitIx) : Prop :=
  ∀ x ex, ex.unit? = some v → ((perGet t.links x).Holds ex ↔ (perGet s.links x).Holds ex)

theorem State.hand_keepsExchanges (s : State) {u v : UnitIx} (ex : Exchange) (hex : ex.unit? = some u) (h : u ≠ v) :
    s.KeepsExchanges (s.hand u ex) v := by
  intro x o ho
  unfold State.hand
  split
  · rfl
  · rw [State.perGet_onLink]
    split
    · exact Link.holds_hand_ne (by rw [hex, ho]; simpa using h)
    · rfl

theorem State.withdraw_keepsExchanges (s : State) {u v : UnitIx} (h : u ≠ v) : s.KeepsExchanges (s.withdraw u) v := by
  intro x o ho
  unfold State.withdraw State.withdrawLink
  split
  · rfl
  · rw [State.perGet_onLink]
    split
    · exact Link.holds_withdraw_ne ho h
    · rfl

/-! ### Idle units -/

/-- Unit `v` is a member of no record, and waits for no VALID slot: the scheduler has nothing to do with it (R115, R117). -/
def State.Idle (s : State) (v : UnitIx) : Prop :=
  s.rsch.Lacks v ∧ ∀ e, s.unit v = some e → e.state = .wait → (s.slot e.decl.slot).valid? = none

theorem State.Apart.idle {s : State} {v : UnitIx} (h : s.Apart v) : s.Idle v :=
  ⟨h.1, fun e he hw => absurd hw (h.2 e he)⟩

/-- The work from `s` to `t` leaves an idle unit its entry and its exchanges, and idle. -/
def State.Rests (s t : State) (v : UnitIx) : Prop :=
  s.Idle v → t.Idle v ∧ t.unit v = s.unit v ∧ s.KeepsExchanges t v

section
variable {v : UnitIx}

theorem State.Rests.refl (s : State) (v : UnitIx) : s.Rests s v :=
  fun h => ⟨h, rfl, fun _ _ _ => Iff.rfl⟩

theorem State.Rests.trans {s t r : State} (h : s.Rests t v) (h' : t.Rests r v) : s.Rests r v := by
  intro hs
  obtain ⟨ht, hu, hx⟩ := h hs
  obtain ⟨hr, hu', hx'⟩ := h' ht
  exact ⟨hr, hu'.trans hu, fun x ex hex => (hx' x ex hex).trans (hx x ex hex)⟩

/-- Work that keeps the unit's entry and its exchanges, the slots, and puts the unit into no record. -/
theorem State.Rests.of_same {s t : State} (hu : t.unit v = s.unit v) (hr : s.rsch.Lacks v → t.rsch.Lacks v)
    (hslots : t.ims.slots = s.ims.slots) (hx : s.KeepsExchanges t v) : s.Rests t v := by
  intro h
  refine ⟨⟨hr h.1, fun e he hw => ?_⟩, hu, hx⟩
  have := h.2 e (hu ▸ he) hw
  rwa [State.slot, hslots]

theorem State.Rests.foldl {α : Type} (f : State → α → State) (l : List α) (h : ∀ a ∈ l, ∀ s : State, s.Rests (f s a) v)
    (s : State) : s.Rests (l.foldl f s) v := by
  induction l generalizing s with
  | nil => exact .refl s v
  | cons a l ih => exact (h a (by simp) s).trans (ih (fun b hb => h b (by simp [hb])) _)

theorem State.Rests.records {s t : State} (c : Scheduler) (h : s.rsch.Lacks v → c.Lacks v)
    (ht : ({ s with rsch := c } : State).Rests t v) : s.Rests t v :=
  State.Rests.trans (t := { s with rsch := c }) (.of_same rfl h rfl fun _ _ _ => Iff.rfl) ht

theorem State.move_rests (s : State) {u : UnitIx} (st : UnitState) (f : UnitEntry → UnitEntry) (h : u ≠ v) :
    s.Rests (s.move u st f) v :=
  .of_same (by rw [State.unit_move, if_neg h]) (fun hr => hr) rfl fun _ _ _ => Iff.rfl

theorem State.modUnit_rests (s : State) {u : UnitIx} (f : UnitEntry → UnitEntry) (h : u ≠ v) : s.Rests (s.modUnit u f) v :=
  .of_same (by rw [State.unit_modUnit, if_neg h]) (fun hr => hr) rfl fun _ _ _ => Iff.rfl

theorem State.hand_rests (s : State) {u : UnitIx} {ex : Exchange} (hex : ex.unit? = some u) (h : u ≠ v) :
    s.Rests (s.hand u ex) v :=
  .of_same (s.unit_hand u v ex) (fun hr => (s.rsch_hand u ex).symm ▸ hr) (by rw [(s.hand_units u ex).2.1])
    (s.hand_keepsExchanges ex hex h)

theorem State.links_setUnitFlag (s : State) (u : UnitIx) (f : UnitFlag) :
    (s.setUnitFlag u f).links = s.links ∧ (s.setUnitFlag u f).ims = s.ims ∧ (s.setUnitFlag u f).ctxs = s.ctxs := by
  unfold State.setUnitFlag
  split <;> exact ⟨rfl, rfl, rfl⟩

theorem State.setUnitFlag_rests (s : State) {u : UnitIx} (f : UnitFlag) (h : u ≠ v) : s.Rests (s.setUnitFlag u f) v :=
  .of_same (by rw [State.unit_setUnitFlag, if_neg h]) (fun hr => (s.rsch_setUnitFlag u f).symm ▸ hr)
    (by rw [(s.links_setUnitFlag u f).2.1]) fun x ex _ => by rw [(s.links_setUnitFlag u f).1]

theorem State.withdraw_rests (s : State) {u : UnitIx} (h : u ≠ v) : s.Rests (s.withdraw u) v :=
  .of_same (s.unit_withdraw u v) (fun hr => (s.rsch_withdraw u).symm ▸ hr.removeAll _)
    (congrArg ImageStore.slots (s.withdraw_keepsUnits u).ims) (s.withdraw_keepsExchanges h)

theorem State.toHeld_rests (s : State) {u : UnitIx} (k : Condition) (h : u ≠ v) : s.Rests (s.toHeld u k) v :=
  (s.withdraw_rests h).trans ((State.move_rests _ _ _ h).trans (State.setUnitFlag_rests _ _ h))

theorem State.raise_rests (s : State) {u : UnitIx} (k : Condition) (h : u ≠ v) : s.Rests (s.raise u k id) v := by
  unfold State.raise
  simp only
  split
  · exact (s.setUnitFlag_rests _ h).trans (State.toHeld_rests _ _ h)
  · exact s.setUnitFlag_rests _ h

theorem State.enterProbe_rests (s : State) {u : UnitIx} (h : u ≠ v) : s.Rests (s.enterProbe u) v := by
  unfold State.enterProbe State.enterProbeWith
  split
  · exact .refl s v
  · split
    · exact (s.move_rests _ _ h).trans (State.hand_rests _ rfl h)
    · exact s.move_rests _ _ h

theorem State.pollDueNow_rests (s : State) {u : UnitIx} (h : u ≠ v) : s.Rests (s.pollDueNow u) v :=
  (s.modUnit_rests _ h).trans (State.hand_rests _ rfl h)

/-! ### The scheduler's own work -/

/-- An idle unit joins no record (R117). -/
theorem State.Idle.enlist {s : State} {u : UnitIx} (h : s.Idle u) : s.enlist u = s := by
  unfold State.enlist
  split
  · rfl
  · next e he =>
    split
    · rfl
    · next i hi =>
      have hw : e.state ≠ .wait := fun hw => by rw [h.2 e he hw] at hi; cases hi
      simp only
      rw [if_pos (.inl hw)]

theorem State.Idle.ne_of_eligible {s : State} {u : UnitIx} (h : s.Idle v) (hu : s.eligible u = true) : u ≠ v := by
  rintro rfl
  obtain ⟨e, he, hw⟩ := State.eligible_wait hu
  simp [State.eligible, he, h.2 e he hw] at hu

theorem State.enlist_rests (s : State) (u : UnitIx) : s.Rests (s.enlist u) v := by
  by_cases h : u = v
  · subst h
    intro hi
    rw [hi.enlist]
    exact State.Rests.refl s u hi
  · unfold State.enlist
    split
    · exact .refl s v
    · split
      · exact .refl s v
      · simp only
        split
        · exact .refl s v
        · split
          · refine .records _ (fun hr => hr.active fun r hm => ?_) (State.move_rests _ _ _ h)
            split
            · exact StreamRecord.admit_lacks h hm
            · exact StreamRecord.admit_lacks h hm
          · split
            · refine .records _ (fun hr => hr.stack fun r hm => ?_) (State.move_rests _ _ _ h)
              split
              · exact StreamRecord.admit_lacks h hm
              · exact hm
            · exact .refl s v

theorem State.handJoin_rests (s : State) {u : UnitIx} (h : u ≠ v) : s.Rests (s.handJoin u) v := by
  unfold State.handJoin
  split
  · exact .refl s v
  · split
    · exact s.hand_rests rfl h
    · exact .refl s v

theorem State.join_rests (s : State) {u : UnitIx} (h : u ≠ v) : s.Rests (s.join u) v :=
  (s.enlist_rests u).trans (State.handJoin_rests _ h)

theorem State.complete_rests (s : State) : s.Rests s.complete v := by
  unfold State.complete
  split
  · exact .refl s v
  · next r hr =>
    intro hi
    have hm : ∀ m ∈ r.members, m.unit ≠ v := hi.1.1 r hr
    refine State.Rests.records _ (fun hl => hl.withActive fun q hq m hm' => ?_)
      ((State.Rests.foldl (fun t (m : Member) => t.enterVerify m.unit) _ (fun m hm' t => ?_) _).trans
        (State.Rests.foldl State.handVerify _ (fun u hu t => t.hand_rests rfl ?_) _)) hi
    · obtain rfl := Option.some.inj hq
      exact hm m (List.mem_filter.1 hm').1
    · exact t.move_rests _ _ (hm m (List.mem_filter.1 hm').1)
    · obtain ⟨m, hm', hmu⟩ := List.any_eq_true.1 ((mem_unitsWhere _ _).1 hu)
      exact beq_iff_eq.1 hmu ▸ hm m (List.mem_filter.1 hm').1

theorem State.Scheduling.rests {full : Prop} {s t : State} (h : State.Scheduling full s t) : s.Rests t v := by
  cases h with
  | edited h => exact .of_same rfl (h v) rfl fun _ _ _ => Iff.rfl
  | enlisted u => exact s.enlist_rests u
  | joined h => exact fun hi => s.handJoin_rests (fun huv => h (huv ▸ hi.1)) hi
  | shifted h _ => exact fun hi => s.move_rests _ _ (fun huv => h (huv ▸ hi.1)) hi
  | completed => exact s.complete_rests
  | stackFull _ h => exact fun hi => s.raise_rests _ (hi.ne_of_eligible h) hi
  | began =>
    obtain ⟨hu, hl, -⟩ := s.beginWindow_same
    refine .of_same (by rw [State.unit, hu]; rfl) (fun hr => ?_) ?_ fun _ _ _ => by rw [hl]
    · unfold State.beginWindow
      split
      · exact hr
      · next r ha =>
        simp only
        split
        · exact hr.withActive fun q hq => Option.some.inj hq ▸ hr.1 r ha
        · exact hr
    · rw [(State.Scheduling.began s : State.Scheduling full s s.beginWindow).keepsUnits.ims]
  | reported =>
    obtain ⟨hu, hl, -, hr, -⟩ := s.reportDemand_same
    exact .of_same (by rw [State.unit, hu]; rfl) (fun h => hr ▸ h)
      (by rw [(State.Scheduling.reported s : State.Scheduling full s s.reportDemand).keepsUnits.ims]) fun _ _ _ => by rw [hl]

theorem State.Schedules.rests {full : Prop} {s t : State} (h : State.Schedules full s t) : s.Rests t v := by
  induction h with
  | refl => exact .refl s v
  | tail _ h ih => exact ih.trans h.rests

/-- The scheduler's own work and the report of demand leave an idle unit its entry and its exchanges (R112 to R129). -/
theorem State.settled_rests (s : State) : s.Rests s.settled v :=
  (State.settled_schedules (full := True) s (.inr trivial)).rests

theorem State.settled_keepsUnits (s : State) : s.KeepsUnits s.settled :=
  (State.settled_schedules (full := True) s (.inr trivial)).keepsUnits

end

end Sys2Proof.Machine

/-! The work of a command on one unit, and the end of a command after it: the scheduler's own work, the report of demand and
the outputs. -/

namespace Sys2Proof.Machine

/-! ### Device flags stay set -/

/-- Every device flag set in `s` is set in `t` (R182). -/
def State.KeepsFlags (s t : State) : Prop :=
  ∀ i, s.cflu.device.getLsbD i = true → t.cflu.device.getLsbD i = true

theorem State.KeepsFlags.of_eq {s t : State} (h : t.cflu.device = s.cflu.device) : s.KeepsFlags t :=
  fun _ hi => h ▸ hi

theorem State.KeepsFlags.trans {s t r : State} (h : s.KeepsFlags t) (h' : t.KeepsFlags r) : s.KeepsFlags r :=
  fun i hi => h' i (h i hi)

theorem FlagUnit.getLsbD_setDevice (c : FlagUnit) (f : DeviceFlag) (i : Nat) :
    (c.setDevice f).device.getLsbD i = (c.device.getLsbD i || (BitVec.twoPow 17 f.bit).getLsbD i) := by
  rw [FlagUnit.setDevice_spec, BitVec.getLsbD_or]

theorem State.setDevice_keepsFlags (s : State) (f : DeviceFlag) : s.KeepsFlags (s.setDevice f) := fun i hi => by
  rw [State.setDevice, FlagUnit.getLsbD_setDevice, hi, Bool.true_or]

/-- The device flags after a flag of a unit is set: UNIT_EVENT joins them where the unit's flag was clear (R181). -/
theorem State.device_setUnitFlag {s : State} {u : UnitIx} {e : UnitEntry} (he : s.unit u = some e) (f : UnitFlag) (i : Nat) :
    (s.setUnitFlag u f).cflu.device.getLsbD i =
      (s.cflu.device.getLsbD i || (!e.flags.getLsbD f.bit && (BitVec.twoPow 17 16).getLsbD i)) := by
  simp only [State.setUnitFlag, he]
  cases e.flags.getLsbD f.bit with
  | true => simp
  | false =>
    simp only [Bool.false_eq_true, if_false, FlagUnit.noteUnit, FlagUnit.getLsbD_setDevice, Bool.not_false, Bool.true_and]
    rfl

theorem State.setUnitFlag_keepsFlags (s : State) (u : UnitIx) (f : UnitFlag) : s.KeepsFlags (s.setUnitFlag u f) := by
  cases he : s.unit u with
  | none => simp only [State.setUnitFlag, he]; exact .of_eq rfl
  | some e => exact fun i hi => by rw [State.device_setUnitFlag he, hi, Bool.true_or]

/-- A unit's flag that was clear sets UNIT_EVENT (R181). -/
theorem State.unitEvent_setUnitFlag {s : State} {u : UnitIx} {e : UnitEntry} (he : s.unit u = some e) {f : UnitFlag}
    (hf : e.flags.getLsbD f.bit = false) :
    (s.setUnitFlag u f).cflu.device.getLsbD DeviceFlag.unitEvent.bit = true := by
  rw [State.device_setUnitFlag he, hf]
  simp [DeviceFlag.bit]

theorem State.cflu_hand (s : State) (u : UnitIx) (ex : Exchange) : (s.hand u ex).cflu = s.cflu := by
  unfold State.hand
  split <;> rfl

theorem State.cflu_withdraw (s : State) (u : UnitIx) : (s.withdraw u).cflu = s.cflu := by
  unfold State.withdraw State.withdrawLink
  split <;> rfl

theorem State.seng_rsch_gapc_hand (s : State) (u : UnitIx) (ex : Exchange) : (s.hand u ex).gapc = s.gapc := by
  unfold State.hand
  split <;> rfl

theorem State.gapc_withdraw (s : State) (u : UnitIx) : (s.withdraw u).gapc = s.gapc := by
  unfold State.withdraw State.withdrawLink
  split <;> rfl

theorem State.gapc_setUnitFlag (s : State) (u : UnitIx) (f : UnitFlag) : (s.setUnitFlag u f).gapc = s.gapc := by
  unfold State.setUnitFlag
  split <;> rfl

theorem State.RestoreFrame.slot {s t : State} (h : s.RestoreFrame t) (k : SlotIx) : t.slot k = s.slot k := by
  unfold State.RestoreFrame at h
  rw [h]
  rfl

theorem State.RestoreFrame.respOpen {s t : State} (h : s.RestoreFrame t) : t.cflu.respOpen = s.cflu.respOpen := by
  unfold State.RestoreFrame at h
  rw [h]

/-! ### The work of a command on one unit -/

/-- The work from `s` to `q` is unit `u`'s: within the restore band's frame, with the gap controller as it stands, it passes every
unit that is apart but `u`, puts `u` into no record, halts and starts no link, and clears no device flag. -/
structure State.Acts (u : UnitIx) (s q : State) : Prop where
  frame : s.RestoreFrame q
  gapc : q.gapc = s.gapc
  passes : ∀ v, u ≠ v → s.Passes q v
  lacks : s.rsch.Lacks u → q.rsch.Lacks u
  halted : ∀ x, (perGet q.links x).halted = (perGet s.links x).halted
  flags : s.KeepsFlags q

section
variable {u : UnitIx}

theorem State.Acts.refl (s : State) : State.Acts u s s :=
  ⟨rfl, rfl, fun v _ => .refl s v, id, fun _ => rfl, .of_eq rfl⟩

theorem State.Acts.trans {s t r : State} (h : State.Acts u s t) (h' : State.Acts u t r) : State.Acts u s r :=
  ⟨h.frame.trans h'.frame, h'.gapc.trans h.gapc, fun v hv => (h.passes v hv).trans (h'.passes v hv),
    fun hl => h'.lacks (h.lacks hl), fun x => (h'.halted x).trans (h.halted x), h.flags.trans h'.flags⟩

theorem State.Acts.serves {s t : State} (h : State.Acts u s t) (x : Seg) : t.serves x = s.serves x := by
  unfold State.serves
  rw [h.gapc, h.frame.usable]

theorem State.modUnit_acts (s : State) (f : UnitEntry → UnitEntry) : State.Acts u s (s.modUnit u f) :=
  ⟨s.modUnit_frame u f, rfl, fun _ hv => s.modUnit_passes f hv, id, fun _ => rfl, .of_eq rfl⟩

theorem State.move_acts (s : State) (st : UnitState) (f : UnitEntry → UnitEntry) : State.Acts u s (s.move u st f) :=
  ⟨s.move_frame u st f, rfl, fun _ hv => s.move_passes st f hv, fun hl => hl, fun _ => rfl, .of_eq rfl⟩

theorem State.putCtx_acts (s : State) (r : ContextRecord) : State.Acts u s (s.putCtx u r) :=
  ⟨s.putCtx_frame u r, rfl, fun _ _ => .of_same rfl fun hl => hl, fun hl => hl, fun _ => rfl, .of_eq rfl⟩

theorem State.freezeAndAge_acts (s : State) : State.Acts u s (s.freezeAndAge u) :=
  ⟨s.freezeAndAge_frame u, rfl, fun _ _ => .of_same rfl fun hl => hl, fun hl => hl, fun _ => rfl, .of_eq rfl⟩

theorem State.hand_acts (s : State) (ex : Exchange) : State.Acts u s (s.hand u ex) :=
  ⟨s.hand_frame u ex, s.seng_rsch_gapc_hand u ex, fun _ _ => s.hand_passes u ex, fun hl => (s.rsch_hand u ex).symm ▸ hl,
    fun x => ((s.hand_works u ex).links x).1, .of_eq (congrArg FlagUnit.device (s.cflu_hand u ex))⟩

theorem State.setUnitFlag_acts (s : State) (f : UnitFlag) : State.Acts u s (s.setUnitFlag u f) :=
  ⟨s.setUnitFlag_frame u f, s.gapc_setUnitFlag u f, fun _ hv => s.setUnitFlag_passes f hv,
    fun hl => (s.rsch_setUnitFlag u f).symm ▸ hl, fun x => by rw [(s.links_setUnitFlag u f).1], s.setUnitFlag_keepsFlags u f⟩

theorem State.withdraw_acts (s : State) : State.Acts u s (s.withdraw u) :=
  ⟨s.withdraw_frame u, s.gapc_withdraw u, fun _ _ => s.withdraw_passes u, fun hl => (s.rsch_withdraw u).symm ▸ hl.removeAll _,
    fun x => ((s.withdraw_works u).links x).1, .of_eq (congrArg FlagUnit.device (s.cflu_withdraw u))⟩

theorem State.onLink_acts (s : State) (x : Seg) {f : Link → Link} (h : ∀ l, (f l).halted = l.halted) :
    State.Acts u s (s.onLink x f) :=
  ⟨s.onLink_frame x f, rfl, fun _ _ => .of_same rfl fun hl => hl, fun hl => hl, fun y => by
    rw [State.perGet_onLink]
    split
    · next hxy => subst hxy; exact h _
    · rfl, .of_eq rfl⟩

theorem State.toHeld_acts (s : State) (k : Condition) : State.Acts u s (s.toHeld u k) :=
  s.withdraw_acts.trans ((State.move_acts _ _ _).trans (State.setUnitFlag_acts _ _))

theorem State.toFailed_acts (s : State) : State.Acts u s (s.toFailed u) :=
  s.withdraw_acts.trans ((State.move_acts _ _ _).trans (State.setUnitFlag_acts _ _))

theorem State.enterProbeWith_acts (s : State) (r : ProbeRecord) (ex : Exchange) :
    State.Acts u s (s.enterProbeWith u r ex) := by
  unfold State.enterProbeWith
  split
  · exact .refl s
  · split
    · exact (s.move_acts _ _).trans (State.hand_acts _ _)
    · exact s.move_acts _ _

theorem State.enterProbe_acts (s : State) : State.Acts u s (s.enterProbe u) :=
  s.enterProbeWith_acts _ _

theorem State.enterLive_acts (s : State) (b : Bool) : State.Acts u s (s.enterLive u b) := by
  unfold State.enterLive
  simp only
  split
  · exact (s.move_acts _ _).trans ((State.setUnitFlag_acts _ _).trans (State.setUnitFlag_acts _ _))
  · exact (s.move_acts _ _).trans (State.setUnitFlag_acts _ _)

theorem State.queueForm_acts (s : State) (form : WriteForm) : State.Acts u s (s.queueForm u form) :=
  (s.modUnit_acts _).trans (State.hand_acts _ _)

/-! ### What a condition and a fault do (R72, R176) -/

theorem State.raise_open {s : State} {k : Condition} (h : s.cflu.respOpen.getLsbD k.index = true) (d : State → State) :
    s.raise u k d = (s.setUnitFlag u (.condition k)).toHeld u k := by
  have : (s.setUnitFlag u (.condition k)).cflu.isOpen k = true := by
    rw [FlagUnit.isOpen, (s.setUnitFlag_frame u _).respOpen]
    exact h
  simp only [State.raise, this, if_true]

theorem State.raise_masked {s : State} {k : Condition} (h : s.cflu.respOpen.getLsbD k.index = false) (d : State → State) :
    s.raise u k d = d (s.setUnitFlag u (.condition k)) := by
  have : (s.setUnitFlag u (.condition k)).cflu.isOpen k = false := by
    rw [FlagUnit.isOpen, (s.setUnitFlag_frame u _).respOpen]
    exact h
  simp only [State.raise, this, Bool.false_eq_true, if_false]

theorem State.raise_acts (s : State) (k : Condition) {d : State → State} (hd : ∀ t : State, State.Acts u t (d t)) :
    State.Acts u s (s.raise u k d) := by
  cases h : s.cflu.respOpen.getLsbD k.index with
  | true =>
    rw [State.raise_open h]
    exact (s.setUnitFlag_acts _).trans (State.toHeld_acts _ _)
  | false =>
    rw [State.raise_masked h]
    exact (s.setUnitFlag_acts _).trans (hd _)

/-- The retry count one more (R72). -/
def State.retried (s : State) (u : UnitIx) : State :=
  s.modUnit u fun e => { e with retry := e.retry + 1 }

@[simp] theorem State.unit_retried (s : State) (u : UnitIx) :
    (s.retried u).unit u = (s.unit u).map fun e => { e with retry := e.retry + 1 } := by
  rw [State.retried, State.unit_modUnit, if_pos rfl]

theorem State.retried_acts (s : State) : State.Acts u s (s.retried u) :=
  s.modUnit_acts _

theorem State.fault_within {s : State} {e : UnitEntry} (he : s.unit u = some e) (h : e.retry + 1 ≤ s.timing.retryLimit)
    (again : State → State) : s.fault u again = again (s.retried u) := by
  refine if_neg (c := (((s.retried u).unit u).any fun e => decide (s.timing.retryLimit < e.retry)) = true) ?_
  rw [s.unit_retried, he]
  simpa using h

theorem State.fault_past {s : State} {e : UnitEntry} (he : s.unit u = some e) (h : s.timing.retryLimit < e.retry + 1)
    (again : State → State) : s.fault u again = (s.retried u).raise u .retryExhausted (·.toFailed u) := by
  refine if_pos (c := (((s.retried u).unit u).any fun e => decide (s.timing.retryLimit < e.retry)) = true) ?_
  rw [s.unit_retried, he]
  simpa using h

theorem State.fault_acts (s : State) {again : State → State} (hd : ∀ t : State, State.Acts u t (again t)) :
    State.Acts u s (s.fault u again) := by
  unfold State.fault
  simp only
  split
  · exact (s.modUnit_acts _).trans (State.raise_acts _ _ fun t => t.toFailed_acts)
  · exact (s.modUnit_acts _).trans (hd _)

theorem State.enterContext_acts (s : State) : State.Acts u s (s.enterContext u) := by
  unfold State.enterContext
  split
  · exact .refl s
  · simp only
    split
    · split
      · exact (s.move_acts _ _).trans (State.queueForm_acts _ _)
      · exact (s.move_acts _ _).trans (State.raise_acts _ _ fun t => t.queueForm_acts _)
    · split
      · exact (s.move_acts _ _).trans (State.queueForm_acts _ _)
      · exact (s.move_acts _ _).trans (State.queueForm_acts _ _)

/-! ### The unit's entry after an operation -/

theorem State.unit_toHeld (s : State) (k : Condition) :
    (s.toHeld u k).unit u = (s.unit u).map fun e =>
      { e.goto .held with
        pending := some k
        linkTestAttempt := if k = .linkTest then e.probe.map (·.attempt) else none
        flags := e.flags ||| BitVec.twoPow 13 UnitFlag.held.bit } := by
  unfold State.toHeld
  simp only [State.unit_setUnitFlag, State.unit_move, State.unit_withdraw, if_true]
  cases s.unit u <;> rfl

theorem State.unit_toFailed (s : State) :
    (s.toFailed u).unit u =
      (s.unit u).map fun e => { e.goto .failed with flags := e.flags ||| BitVec.twoPow 13 UnitFlag.failed.bit } := by
  unfold State.toFailed
  simp only [State.unit_setUnitFlag, State.unit_move, State.unit_withdraw, if_true]
  cases s.unit u <;> rfl

theorem State.ctxs_withdraw (s : State) : (s.withdraw u).ctxs = s.ctxs :=
  (s.withdraw_keepsUnits u).ctxs

theorem State.ctxs_setUnitFlag (s : State) (f : UnitFlag) : (s.setUnitFlag u f).ctxs = s.ctxs :=
  (s.setUnitFlag_keepsUnits u f).ctxs

theorem State.ctxs_hand (s : State) (ex : Exchange) : (s.hand u ex).ctxs = s.ctxs :=
  (s.hand_keepsUnits u ex).ctxs

theorem State.ctxs_toHeld (s : State) (k : Condition) : (s.toHeld u k).ctxs = s.ctxs :=
  (s.toHeld_keepsUnits u k).ctxs

theorem State.ctxs_toFailed (s : State) : (s.toFailed u).ctxs = s.ctxs :=
  (State.ctxs_setUnitFlag _ _).trans s.ctxs_withdraw

/-! ### Exchanges handed -/

/-- The exchange handed is held by the link of the unit's segment where that runs (R82). -/
theorem State.hands_hand {s : State} {e : UnitEntry} (he : s.unit u = some e) (ex : Exchange) :
    s.Hands (s.hand u ex) e.decl.seg ex := by
  intro h
  simp only [State.hand, he, State.perGet_onLink, if_true]
  exact Link.holds_hand _ ex h

theorem State.Acts.hands {s t r : State} {x : Seg} {ex : Exchange} (h : State.Acts u s t) (h' : t.Hands r x ex) :
    s.Hands r x ex :=
  fun hh => h' ((h.halted x).trans hh)

end

/-! ### The frames of an exchange for one unit -/

/-- The frames of a unit's exchange follow from its entry, the slots and the contexts. -/
theorem State.framesOf_unit (s : State) {ex : Exchange} {u : UnitIx} (hex : ex.unit? = some u) :
    s.framesOf ex = ((s.unit u).map (s.unitFrames u ex)).getD [] := by
  cases ex with
  | window w => cases hex
  | _ => obtain rfl := Option.some.inj hex; rfl

/-- The exchange names the image of its unit's slot: a JOIN and a verify request (R118, R148). -/
def Exchange.namesImage : Exchange → Bool
  | .join .. | .verifyRequest _ => true
  | _ => false

/-- A defined unit's exchange has a frame to send; one that names the image of the slot, where the slot has one. -/
theorem State.framesOf_ne_nil {s : State} {ex : Exchange} {u : UnitIx} {e : UnitEntry} (hex : ex.unit? = some u)
    (he : s.unit u = some e) (h : ex.namesImage = true → (s.slot e.decl.slot).info? ≠ none) : s.framesOf ex ≠ [] := by
  rw [s.framesOf_unit hex, he]
  cases ex with
  | window w => cases hex
  | join _ _ =>
    obtain ⟨i, hi⟩ := Option.ne_none_iff_exists'.1 (h rfl)
    simp [State.unitFrames, hi]
  | verifyRequest _ =>
    obtain ⟨i, hi⟩ := Option.ne_none_iff_exists'.1 (h rfl)
    simp [State.unitFrames, hi]
  | _ => simp [State.unitFrames]

/-! ### The end of a command -/

theorem State.raise_keepsFlags (s : State) (u : UnitIx) (k : Condition) : s.KeepsFlags (s.raise u k id) :=
  (State.raise_acts (u := u) s k (d := id) fun t => .refl t).flags

theorem State.Scheduling.flags {full : Prop} {s t : State} (h : State.Scheduling full s t) : s.KeepsFlags t := by
  cases h with
  | edited => exact .of_eq rfl
  | enlisted u =>
    refine .of_eq ?_
    unfold State.enlist
    split
    · rfl
    · split
      · rfl
      · simp only
        split
        · rfl
        · split
          · rfl
          · split <;> rfl
  | joined =>
    refine .of_eq ?_
    unfold State.handJoin
    split
    · rfl
    · split
      · rw [s.cflu_hand]
      · rfl
  | shifted => exact .of_eq rfl
  | completed =>
    have hv (l : List Member) (t : State) : (l.foldl (fun s m => s.enterVerify m.unit) t).cflu = t.cflu := by
      induction l generalizing t with
      | nil => rfl
      | cons m l ih => exact ih (t.enterVerify m.unit)
    have hh (l : List UnitIx) (t : State) : (l.foldl State.handVerify t).cflu = t.cflu := by
      induction l generalizing t with
      | nil => rfl
      | cons u l ih => exact (ih _).trans (t.cflu_hand u _)
    refine .of_eq ?_
    unfold State.complete
    split
    · rfl
    · exact congrArg FlagUnit.device ((hh _ _).trans (hv _ _))
  | stackFull => exact s.raise_keepsFlags _ _
  | began =>
    refine .of_eq ?_
    unfold State.beginWindow
    split
    · rfl
    · simp only
      split <;> rfl
  | reported =>
    unfold State.reportDemand
    simp only
    split
    · exact .of_eq rfl
    · intro i hi
      split
      · rw [FlagUnit.getLsbD_setDevice, hi, Bool.true_or]
      · exact hi

theorem State.Schedules.flags {full : Prop} {s t : State} (h : State.Schedules full s t) : s.KeepsFlags t := by
  induction h with
  | refl => exact .of_eq rfl
  | tail _ h ih => exact ih.trans h.flags

theorem State.settled_keepsFlags (s : State) : s.KeepsFlags s.settled :=
  (State.settled_schedules (full := True) s (.inr trivial)).flags
theorem State.Ends.keepsFlags {s t : State} (h : State.Ends s t) : s.KeepsFlags t := fun i hi => by
  rw [h.change]
  split
  · exact hi
  · rw [BitVec.getLsbD_or, hi, Bool.true_or]

/-- What stands at the end of a command whose work on unit `u` led from `s` to `q`, once the scheduler has done its own work and
the end of the command has followed. -/
structure State.Concludes (u : UnitIx) (s q t : State) : Prop where
  frame : s.RestoreFrame t
  spares : s.SparesOthers t u
  ended : State.Ends q.settled t

section
variable {u : UnitIx} {s q t : State}

theorem State.concludes (hframe : s.RestoreFrame q) (hpass : ∀ v, u ≠ v → s.Passes q v) (hlaw : s.MembershipLaw) :
    State.Concludes u s q q.settled.finish where
  frame := hframe.trans (q.settled_frame.trans (.of_ends (State.ends_finish _)))
  spares := hlaw.spares fun v hv => (hpass v hv).trans (q.settled_passes.trans (State.finishAfter_passes _ none))
  ended := State.ends_finish _

theorem State.Acts.concludes (h : State.Acts u s q) (hlaw : s.MembershipLaw) : State.Concludes u s q q.settled.finish :=
  State.concludes h.frame h.passes hlaw

theorem State.Concludes.ctxs (h : State.Concludes u s q t) : t.ctxs = q.ctxs := by
  rw [← q.settled_keepsUnits.ctxs, h.ended.same]

theorem State.Concludes.flags (h : State.Concludes u s q t) : q.KeepsFlags t :=
  q.settled_keepsFlags.trans h.ended.keepsFlags

theorem State.Ends.unit_eq {s t : State} (h : State.Ends s t) (v : UnitIx) : t.unit v = s.unit v := by
  rw [h.same]
  rfl

theorem State.Concludes.scheduled (h : State.Concludes u s q t) {v : UnitIx} {e : UnitEntry} (he : q.unit v = some e) :
    ∃ e', t.unit v = some e' ∧ e.ScheduledTo e' := by
  obtain ⟨e', he', hs⟩ := q.settled_keepsUnits.some v e he
  exact ⟨e', (h.ended.unit_eq v).trans he', hs⟩

/-- A unit that the work leaves idle has the entry that the work leaves it. -/
theorem State.Concludes.unit_eq (h : State.Concludes u s q t) {v : UnitIx} (hi : q.Idle v) : t.unit v = q.unit v :=
  (h.ended.unit_eq v).trans (q.settled_rests hi).2.1

/-- The scheduler's work and a command's end keep the exchanges that the links hold for an idle unit, where they have frames. -/
theorem State.Ends.holds_settled (h : State.Ends q.settled t) {v : UnitIx} (hi : q.Idle v) {e : UnitEntry}
    (he : q.unit v = some e) {ex : Exchange} (hex : ex.unit? = some v)
    (hn : ex.namesImage = true → (q.slot e.decl.slot).info? ≠ none) {x : Seg} (hh : (perGet q.links x).Holds ex) :
    (perGet t.links x).Holds ex := by
  obtain ⟨-, hunit, hkeeps⟩ := q.settled_rests hi
  rw [h.links x]
  refine Link.holds_arbitrate ((hkeeps x ex hex).2 hh) (State.framesOf_ne_nil hex (hunit.trans he) ?_)
  rwa [State.slot, q.settled_keepsUnits.ims]

theorem State.Concludes.holds (h : State.Concludes u s q t) {v : UnitIx} (hi : q.Idle v) {e : UnitEntry} (he : q.unit v = some e)
    {ex : Exchange} (hex : ex.unit? = some v) (hn : ex.namesImage = true → (q.slot e.decl.slot).info? ≠ none) {x : Seg}
    (hh : (perGet q.links x).Holds ex) : (perGet t.links x).Holds ex :=
  h.ended.holds_settled hi he hex hn hh

theorem State.Concludes.hands (h : State.Concludes u s q t) {v : UnitIx} (hi : q.Idle v) {e : UnitEntry}
    (he : q.unit v = some e) {ex : Exchange} (hex : ex.unit? = some v)
    (hn : ex.namesImage = true → (q.slot e.decl.slot).info? ≠ none) {x : Seg} (hh : s.Hands q x ex) : s.Hands t x ex :=
  fun hx => h.holds hi he hex hn (hh hx)

/-- A unit of no record at the start is idle after its own work, where that leaves it out of WAIT. -/
theorem State.Acts.idle (h : State.Acts u s q) (hs : s.rsch.Lacks u) {e : UnitEntry} (he : q.unit u = some e)
    (hst : e.state ≠ .wait) : q.Idle u :=
  ⟨h.lacks hs, fun _ he' hw => absurd hw (Option.some.inj (he.symm.trans he') ▸ hst)⟩

theorem State.MembershipLaw.lacks (h : s.MembershipLaw) {e : UnitEntry} (he : s.unit u = some e)
    (hst : e.state ≠ .wait ∧ e.state ≠ .stream ∧ e.state ≠ .suspended) : s.rsch.Lacks u :=
  (h.apart fun _ he' => Option.some.inj (he.symm.trans he') ▸ hst).1

end

/-! ### Waits that end -/

/-- The exchange in flight on segment `x` has ended, with its answer taken or none (R84). -/
def State.concluded (s : State) (x : Seg) : State :=
  (s.clearSegRx x).onLink x (·.endExchange)

theorem State.concluded_acts (s : State) (x : Seg) (u : UnitIx) : State.Acts u s (s.concluded x) :=
  (s.onLink_acts x (f := fun l => { l with rx := [] }) fun _ => rfl).trans
    (State.onLink_acts _ x (f := (·.endExchange)) fun _ => rfl)

theorem State.concluded_of_silent {s : State} {x : Seg} (h : (perGet s.links x).rx = []) :
    s.onLink x (·.endExchange) = s.concluded x := by
  have hl : s.clearSegRx x = s := by
    unfold State.clearSegRx State.onLink
    cases x <;> (simp only [perGet] at h; simp only [perMod, perSet, perGet, ← h])
  rw [State.concluded, hl]

/-- The wait of an exchange of one frame ends (R81). -/
theorem State.waitEnded_unit {s : State} {x : Seg} {f : InFlight} (hf : (perGet s.links x).inFlight = some f)
    (hcut : f.cut = false) (hmark : f.marked = false) (hw : f.exchange.isWindow = false)
    (hs : f.exchange.isSequence = false) (a : Option AnswerBody) :
    s.waitEnded x a = ((s.onLink x (·.endExchange)).unitOutcome f.exchange a).settled := by
  have hab : f.abandons = false := by simp [InFlight.abandons, hmark]
  unfold State.waitEnded
  simp only [hf, hcut, hab, Bool.false_eq_true, if_false]
  cases hex : f.exchange with
  | window w => simp [hex, Exchange.isWindow] at hw
  | contextSequence u => simp [hex, Exchange.isSequence] at hs
  | _ => rfl

theorem Link.accepts_answer {l : Link} {f : InFlight} {t0 : Tick} {n : Nat} {b : AnswerBody} (hf : l.inFlight = some f)
    (hphase : f.phase = .waiting t0 n) (hcalls : f.frame.body.calls b = true) : l.accepts ⟨f.frame.dest, f.seq, b⟩ = true := by
  simp [Link.accepts, Link.wait?, hf, hphase, hcalls]

/-- The answer that the frame in flight calls for is taken (R79). -/
theorem exec_segmentAnswer {s : State} {x : Seg} {f : InFlight} {t0 : Tick} {n : Nat} {b : AnswerBody}
    (hrun : s.running = true) (hf : (perGet s.links x).inFlight = some f) (hphase : f.phase = .waiting t0 n)
    (hcalls : f.frame.body.calls b = true) :
    exec (.segmentAnswer x ⟨f.frame.dest, f.seq, b⟩) s = .next ((s.clearSegRx x).waitEnded x (some b)).finish := by
  refine congrArg Host.Outcome.next ?_
  simp only [hrun, Link.accepts_answer hf hphase hcalls, Bool.not_true, Bool.false_eq_true, if_false, if_true]

theorem State.inFlight_clearSegRx (s : State) (x : Seg) :
    (perGet (s.clearSegRx x).links x).inFlight = (perGet s.links x).inFlight := by
  cases x <;> rfl

/-- The answer to an exchange of one frame: its owner's outcome follows (R79, R81). -/
theorem exec_unitAnswer {s : State} {x : Seg} {f : InFlight} {t0 : Tick} {n : Nat} {b : AnswerBody}
    (hrun : s.running = true) (hf : (perGet s.links x).inFlight = some f) (hphase : f.phase = .waiting t0 n)
    (hcalls : f.frame.body.calls b = true) (hcut : f.cut = false) (hmark : f.marked = false)
    (hw : f.exchange.isWindow = false) (hs : f.exchange.isSequence = false) :
    exec (.segmentAnswer x ⟨f.frame.dest, f.seq, b⟩) s =
      .next ((s.concluded x).unitOutcome f.exchange (some b)).settled.finish := by
  rw [exec_segmentAnswer hrun hf hphase hcalls,
    State.waitEnded_unit ((s.inFlight_clearSegRx x).trans hf) hcut hmark hw hs]
  rfl

/-- The timeout passes with no frame begun: the wait ends with no answer (R80). -/
theorem exec_silentTimeout {s : State} {x : Seg} {f : InFlight} {t0 : Tick} {n : Nat} (hrun : s.running = true)
    (hf : (perGet s.links x).inFlight = some f) (hphase : f.phase = .waiting t0 n) (hn : n ≤ (s.tick - t0).toNat)
    (hrx : (perGet s.links x).rx = []) : exec (.answerTimeout x) s = .next (s.waitEnded x none).finish := by
  have ht := State.timedOut_eq_true hf hphase hn
  have hh : s.hears x = false := by simp [State.hears, hrx]
  rw [exec_answerTimeout hrun ht hh, State.frameDiscarded, ht, hh]
  rfl

theorem exec_unitTimeout {s : State} {x : Seg} {f : InFlight} {t0 : Tick} {n : Nat} (hrun : s.running = true)
    (hf : (perGet s.links x).inFlight = some f) (hphase : f.phase = .waiting t0 n) (hn : n ≤ (s.tick - t0).toNat)
    (hrx : (perGet s.links x).rx = []) (hcut : f.cut = false) (hmark : f.marked = false)
    (hw : f.exchange.isWindow = false) (hs : f.exchange.isSequence = false) :
    exec (.answerTimeout x) s = .next ((s.concluded x).unitOutcome f.exchange none).settled.finish := by
  rw [exec_silentTimeout hrun hf hphase hn hrx, State.waitEnded_unit hf hcut hmark hw hs, State.concluded_of_silent hrx]

end Sys2Proof.Machine

/-! Context polls, probes without answer, and the timers that hand polls (R64, R72, R82, R88, R149). -/

namespace Sys2Proof.Machine

/-! ### The context poll -/

theorem State.ctx_congr {s t : State} (h : t.ctxs = s.ctxs) (u : UnitIx) : t.ctx u = s.ctx u := by
  rw [State.ctx, h]
  rfl

section
variable {s : State} {u : UnitIx} {e : UnitEntry}

theorem State.pollOutcome_running (he : s.unit u = some e) (hst : e.state = .live) (fields : ContextFields) :
    s.pollOutcome u (some (.running fields)) =
      (s.modUnit u fun e => { e with misses := 0, pollDue := s.pollRestart }).putCtx u
        ((s.ctx u).capture e.decl.cls s.tick fields) := by
  simp only [State.pollOutcome, he, hst, ne_eq, not_true_eq_false, if_false]

theorem State.pollOutcome_missed (he : s.unit u = some e) (hst : e.state = .live) (h : e.misses < 2) :
    s.pollOutcome u none = s.modUnit u fun e => { e with misses := e.misses + 1, pollDue := s.pollRestart } := by
  simp only [State.pollOutcome, he, hst, ne_eq, not_true_eq_false, if_false, if_neg (Nat.not_le.2 h)]

theorem State.pollOutcome_lost (he : s.unit u = some e) (hst : e.state = .live) (h : 2 ≤ e.misses) :
    s.pollOutcome u none = s.pollLoss u := by
  simp only [State.pollOutcome, he, hst, ne_eq, not_true_eq_false, if_false, if_pos h]

end

/-- Settles O32: the report of a running unit is captured. -/
theorem answeredPollIsCaptured : Obligations.AnsweredPollIsCaptured := by
  intro s x u e n t0 f fields hp hr hlaw hf hex hbody hphase hcut hmark he hst
  have hrun := State.running_eq_true hp hr
  have hstates : e.state ≠ .wait ∧ e.state ≠ .stream ∧ e.state ≠ .suspended := by rw [hst]; decide
  generalize hq : ((s.concluded x).modUnit u fun e => { e with misses := 0, pollDue := s.pollRestart }).putCtx u
    ((s.ctx u).capture e.decl.cls s.tick fields) = q
  have hout : (s.concluded x).unitOutcome f.exchange (some (.contextReport (.running fields))) = q := by
    rw [hex, ← hq]
    exact State.pollOutcome_running (s := s.concluded x) he hst fields
  have hacts : State.Acts u s q :=
    hq ▸ (s.concluded_acts x u).trans ((State.modUnit_acts _ _).trans (State.putCtx_acts _ _))
  have hunit : q.unit u = some { e with misses := 0, pollDue := s.pollRestart } := by
    rw [← hq]
    refine (State.unit_modUnit (s.concluded x) u u _).trans ?_
    rw [if_pos rfl, show (s.concluded x).unit u = some e from he, Option.map_some]
  have hdone := hacts.concludes hlaw
  have hctx (v : UnitIx) : q.settled.finish.ctx v = if u = v then (s.ctx u).capture e.decl.cls s.tick fields else s.ctx v := by
    rw [State.ctx, hdone.ctxs, ← hq]
    exact State.ctx_putCtx _ u v _
  refine ⟨_, exec_unitAnswer hrun hf hphase (by rw [hbody]; rfl) hcut hmark (by rw [hex]; rfl) (by rw [hex]; rfl), ?_⟩
  rw [hout]
  refine ⟨hdone.frame, hdone.spares, hdone.ended.permits, hdone.ended.alert, ?_, ?_, fun v hv => ?_⟩
  · exact (hdone.unit_eq (hacts.idle (hlaw.lacks he hstates) hunit (by simp [hst]))).trans hunit
  · rw [hctx, if_pos rfl]
    rfl
  · rw [hctx, if_neg hv.symm]

/-! ### Entry to PROBE (R61, R96) -/

/-- The entry of a unit that enters PROBE by the entry rule: PROBE where its segment serves, else DARK. -/
def UnitEntry.probed (e : UnitEntry) (serves : Bool) : UnitEntry :=
  if serves then { e.goto .probe with probe := some ⟨.probing, 0⟩ } else e.goto .dark

section
variable {s : State} {u : UnitIx} {e : UnitEntry}

theorem State.unit_enterProbe (he : s.unit u = some e) :
    (s.enterProbe u).unit u = some (e.probed (s.serves e.decl.seg)) := by
  unfold State.enterProbe State.enterProbeWith UnitEntry.probed
  simp only [he]
  split
  · simp only [State.unit_hand, State.unit_move, he, if_true, Option.map_some]
  · simp only [State.unit_move, he, if_true, Option.map_some]
    rfl

theorem State.hands_enterProbe (he : s.unit u = some e) (hs : s.serves e.decl.seg = true) :
    s.Hands (s.enterProbe u) e.decl.seg (.probe u 0) := by
  unfold State.enterProbe State.enterProbeWith
  simp only [he, hs, if_true]
  have hm : (s.move u .probe fun e => { e with probe := some ⟨.probing, 0⟩ }).unit u =
      some { e.goto .probe with probe := some ⟨.probing, 0⟩ } := by
    rw [State.unit_move, if_pos rfl, he, Option.map_some]
  exact (State.move_acts s .probe _).hands (State.hands_hand hm (.probe u 0))

theorem State.ctxs_enterProbe (s : State) (u : UnitIx) : (s.enterProbe u).ctxs = s.ctxs := by
  unfold State.enterProbe State.enterProbeWith
  split
  · rfl
  · split
    · exact State.ctxs_hand _ _
    · rfl

theorem UnitEntry.probed_state_ne_wait (e : UnitEntry) (b : Bool) : (e.probed b).state ≠ .wait := by
  cases b <;> simp [UnitEntry.probed, UnitEntry.goto]

end

/-! ### A record that its unit's leaving LIVE freezes (R161, R162) -/

theorem ContextRecord.freeze_validity (r : ContextRecord) : r.freeze.validity ≠ .current ∧ r.freeze.validity ≠ .written := by
  unfold ContextRecord.freeze
  cases r.validity <;> simp

theorem ContextRecord.age_keeps (r : ContextRecord) (t : TimingSettings) (c : UnitClass) (now : Tick) :
    (r.age t c now).validity = r.validity ∧ (r.age t c now).capturedAt = r.capturedAt := by
  unfold ContextRecord.age
  split
  · split <;> exact ⟨rfl, rfl⟩
  · exact ⟨rfl, rfl⟩

/-- The record is no longer CURRENT or WRITTEN, and keeps its tick of capture (R161). -/
theorem State.ctx_freezeAndAge {s : State} {u : UnitIx} {e : UnitEntry} (he : s.unit u = some e) :
    ((s.freezeAndAge u).ctx u).validity ≠ .current ∧ ((s.freezeAndAge u).ctx u).validity ≠ .written ∧
      ((s.freezeAndAge u).ctx u).capturedAt = (s.ctx u).capturedAt := by
  have h : (s.freezeAndAge u).ctx u = (s.ctx u).freeze.age s.timing e.decl.cls s.tick := by
    refine (State.ctx_putCtx s u u _).trans ?_
    rw [if_pos rfl, he]
  obtain ⟨hv, hc⟩ := (s.ctx u).freeze.age_keeps s.timing e.decl.cls s.tick
  rw [h, hv, hc]
  exact ⟨(s.ctx u).freeze_validity.1, (s.ctx u).freeze_validity.2, rfl⟩

/-! ### Poll loss -/

theorem State.pollLoss_acts {u : UnitIx} (s : State) : State.Acts u s (s.pollLoss u) :=
  (s.move_acts _ _).trans ((State.freezeAndAge_acts _).trans (State.enterProbe_acts _))

theorem State.unit_pollLoss {s : State} {u : UnitIx} {e : UnitEntry} (he : s.unit u = some e) :
    (s.pollLoss u).unit u = some ((e.goto .dark).probed (s.serves e.decl.seg)) ∧
      (s.serves e.decl.seg = true → s.Hands (s.pollLoss u) e.decl.seg (.probe u 0)) := by
  have hm : ((s.move u .dark id).freezeAndAge u).unit u = some (e.goto .dark) := by
    refine (State.unit_move s u u .dark id).trans ?_
    rw [if_pos rfl, he]
    rfl
  have hacts : State.Acts u s ((s.move u .dark id).freezeAndAge u) := (s.move_acts .dark id).trans (State.freezeAndAge_acts _)
  exact ⟨State.unit_enterProbe hm, fun hs => hacts.hands (State.hands_enterProbe (e := e.goto .dark) hm hs)⟩

theorem State.ctx_pollLoss {s : State} {u : UnitIx} {e : UnitEntry} (he : s.unit u = some e) :
    ((s.pollLoss u).ctx u).validity ≠ .current ∧ ((s.pollLoss u).ctx u).validity ≠ .written ∧
      ((s.pollLoss u).ctx u).capturedAt = (s.ctx u).capturedAt := by
  have hm : (s.move u .dark id).unit u = some (e.goto .dark) := by
    rw [State.unit_move, if_pos rfl, he]
    rfl
  have hc : (s.pollLoss u).ctx u = ((s.move u .dark id).freezeAndAge u).ctx u :=
    State.ctx_congr (State.ctxs_enterProbe _ u) u
  rw [hc]
  exact State.ctx_freezeAndAge hm

/-- Settles O33: misses below 2, and the poll loss. -/
theorem unansweredPollsLoseTheUnit : Obligations.UnansweredPollsLoseTheUnit := by
  intro s x u e n t0 f hp hr hlaw hf hex hphase hn hrx hcut hmark he hst
  have hrun := State.running_eq_true hp hr
  have hlacks : s.rsch.Lacks u := hlaw.lacks he (by rw [hst]; decide)
  have hexec := exec_unitTimeout hrun hf hphase hn hrx hcut hmark (by rw [hex]; rfl) (by rw [hex]; rfl)
  rw [hex] at hexec
  refine ⟨fun hm => ⟨_, hexec, ?_⟩, fun hm => ⟨_, hexec, ?_⟩⟩
  · have hout : (s.concluded x).unitOutcome (.contextPoll u) none =
        (s.concluded x).modUnit u fun e => { e with misses := e.misses + 1, pollDue := s.pollRestart } :=
      State.pollOutcome_missed (s := s.concluded x) he hst hm
    rw [hout]
    have hacts := (s.concluded_acts x u).trans
      (State.modUnit_acts _ fun e => { e with misses := e.misses + 1, pollDue := s.pollRestart })
    have hdone := hacts.concludes hlaw
    have hunit : ((s.concluded x).modUnit u fun e => { e with misses := e.misses + 1, pollDue := s.pollRestart }).unit u =
        some { e with misses := e.misses + 1, pollDue := s.pollRestart } := by
      refine (State.unit_modUnit (s.concluded x) u u _).trans ?_
      rw [if_pos rfl, show (s.concluded x).unit u = some e from he, Option.map_some]
    exact ⟨hdone.frame, hdone.spares, hdone.ctxs,
      (hdone.unit_eq (hacts.idle hlacks hunit (by simp [hst]))).trans hunit⟩
  · have hout : (s.concluded x).unitOutcome (.contextPoll u) none = (s.concluded x).pollLoss u :=
      State.pollOutcome_lost (s := s.concluded x) he hst hm
    rw [hout]
    have hacts := (s.concluded_acts x u).trans (State.pollLoss_acts _)
    have hdone := hacts.concludes hlaw
    obtain ⟨hunit, hhands⟩ := State.unit_pollLoss (s := s.concluded x) he
    obtain ⟨hc, hw, hat⟩ := State.ctx_pollLoss (s := s.concluded x) he
    have hctx : ((s.concluded x).pollLoss u).settled.finish.ctx u = ((s.concluded x).pollLoss u).ctx u :=
      State.ctx_congr hdone.ctxs u
    have hidle := hacts.idle hlacks hunit (UnitEntry.probed_state_ne_wait _ _)
    rw [hctx]
    refine ⟨hdone.frame, hdone.spares, hc, hw, hat, _, (hdone.unit_eq hidle).trans hunit, ?_⟩
    have hserves : (s.concluded x).serves e.decl.seg = s.serves e.decl.seg := rfl
    rw [hserves] at hunit hhands ⊢
    cases hs : s.serves e.decl.seg with
    | false => simp [UnitEntry.probed, UnitEntry.goto]
    | true =>
      rw [hs] at hunit
      refine ⟨rfl, rfl, rfl, rfl, rfl, rfl, fun _ => ⟨rfl, rfl, ?_⟩, fun h => by cases h⟩
      exact hdone.hands hidle hunit rfl (fun h => by cases h) ((s.concluded_acts x u).hands (hhands hs))

/-! ### A condition raised (R71, R176) -/

/-- The entry of a unit in HELD with the condition raised. -/
def UnitEntry.heldFor (e : UnitEntry) (k : Condition) : UnitEntry :=
  { e.goto .held with
    pending := some k
    linkTestAttempt := if k = .linkTest then e.probe.map (·.attempt) else none
    flags := e.flags ||| BitVec.twoPow 13 (UnitFlag.condition k).bit ||| BitVec.twoPow 13 UnitFlag.held.bit }

/-- The entry of a unit in FAILED with the condition raised. -/
def UnitEntry.failedFor (e : UnitEntry) (k : Condition) : UnitEntry :=
  { e.goto .failed with
    flags := e.flags ||| BitVec.twoPow 13 (UnitFlag.condition k).bit ||| BitVec.twoPow 13 UnitFlag.failed.bit }

section
variable {s : State} {u : UnitIx} {e : UnitEntry} {k : Condition}

theorem State.unit_flagged (he : s.unit u = some e) (f : UnitFlag) :
    (s.setUnitFlag u f).unit u = some { e with flags := e.flags ||| BitVec.twoPow 13 f.bit } := by
  rw [State.unit_setUnitFlag, if_pos rfl, he, Option.map_some]

theorem State.unit_raise_open (he : s.unit u = some e) (h : s.cflu.respOpen.getLsbD k.index = true) (d : State → State) :
    (s.raise u k d).unit u = some (e.heldFor k) := by
  rw [State.raise_open h, State.unit_toHeld, State.unit_flagged he, Option.map_some]
  rfl

theorem State.ctxs_raise_open (h : s.cflu.respOpen.getLsbD k.index = true) (d : State → State) :
    (s.raise u k d).ctxs = s.ctxs := by
  rw [State.raise_open h, State.ctxs_toHeld, State.ctxs_setUnitFlag]

theorem State.unit_raise_failed (he : s.unit u = some e) (h : s.cflu.respOpen.getLsbD k.index = false) :
    (s.raise u k (·.toFailed u)).unit u = some (e.failedFor k) := by
  rw [State.raise_masked h, State.unit_toFailed, State.unit_flagged he, Option.map_some]
  rfl

theorem State.ctxs_raise_failed (h : s.cflu.respOpen.getLsbD k.index = false) :
    (s.raise u k (·.toFailed u)).ctxs = s.ctxs := by
  rw [State.raise_masked h, State.ctxs_toFailed, State.ctxs_setUnitFlag]

/-- A condition whose flag was clear sets UNIT_EVENT (R181). -/
theorem State.unitEvent_raise (he : s.unit u = some e) {d : State → State} (hd : ∀ t : State, State.Acts u t (d t))
    (hf : e.flags.getLsbD (UnitFlag.condition k).bit = false) :
    (s.raise u k d).cflu.device.getLsbD DeviceFlag.unitEvent.bit = true := by
  have h := State.unitEvent_setUnitFlag he hf
  cases ho : s.cflu.respOpen.getLsbD k.index with
  | true =>
    rw [State.raise_open ho]
    exact (State.toHeld_acts _ _).flags _ h
  | false =>
    rw [State.raise_masked ho]
    exact (hd _).flags _ h

end

/-! ### A probe without answer -/

theorem State.probeAgain_acts {u : UnitIx} (s : State) (p : Nat) : State.Acts u s (s.probeAgain u p) :=
  (s.modUnit_acts _).trans (State.hand_acts _ _)

theorem State.probeFault_acts {u : UnitIx} (s : State) (p : Nat) : State.Acts u s (s.probeFault u p) :=
  s.fault_acts fun t => t.probeAgain_acts p

section
variable {s : State} {u : UnitIx} {e : UnitEntry}

theorem State.probeOutcome_none {p : Nat} (he : s.unit u = some e) (hst : e.state = .probe)
    (hprobe : e.probe = some ⟨.probing, p⟩) (sent : Nat) : s.probeOutcome u sent none = s.probeFault u p := by
  simp only [State.probeOutcome, State.probing?, he, Option.bind_some, hst, if_true, hprobe]

/-- The next attempt of a probe, within the retry limit (R72, R100). -/
theorem State.probeFault_within {p : Nat} (he : s.unit u = some e) (h : e.retry + 1 ≤ s.timing.retryLimit) :
    (s.probeFault u p).unit u = some { e with retry := e.retry + 1, probe := some ⟨.probing, p + 1⟩ } ∧
      (s.probeFault u p).ctxs = s.ctxs ∧ s.Hands (s.probeFault u p) e.decl.seg (.probe u (p + 1)) := by
  have hq := State.fault_within he h fun s => s.probeAgain u p
  have hr : (s.retried u).unit u = some { e with retry := e.retry + 1 } := by rw [s.unit_retried, he, Option.map_some]
  have hm : ((s.retried u).modUnit u fun e => { e with probe := some ⟨.probing, p + 1⟩ }).unit u =
      some { e with retry := e.retry + 1, probe := some ⟨.probing, p + 1⟩ } := by
    rw [State.unit_modUnit, if_pos rfl, hr, Option.map_some]
  unfold State.probeFault
  rw [hq]
  unfold State.probeAgain
  refine ⟨by rw [State.unit_hand, hm], State.ctxs_hand _ _, ?_⟩
  exact (s.retried_acts.trans (State.modUnit_acts _ _)).hands
    (State.hands_hand (e := { e with retry := e.retry + 1, probe := some ⟨.probing, p + 1⟩ }) hm _)

/-- Past the retry limit RETRY_EXHAUSTED is raised (R72). -/
theorem State.probeFault_past {p : Nat} (he : s.unit u = some e) (h : s.timing.retryLimit < e.retry + 1) :
    s.probeFault u p = (s.retried u).raise u .retryExhausted (·.toFailed u) :=
  State.fault_past he h _

end

/-- Settles O34: the next attempt within the limit, and RETRY_EXHAUSTED past it. -/
theorem unansweredProbeIsRetriedOrExhausted : Obligations.UnansweredProbeIsRetriedOrExhausted := by
  intro s x u e p n t0 f hp hr hlaw hf hex hphase hn hrx hcut hmark he hst hprobe
  have hrun := State.running_eq_true hp hr
  have hlacks : s.rsch.Lacks u := hlaw.lacks he (by rw [hst]; decide)
  have hexec := exec_unitTimeout hrun hf hphase hn hrx hcut hmark (by rw [hex]; rfl) (by rw [hex]; rfl)
  have hout : (s.concluded x).unitOutcome f.exchange none = (s.concluded x).probeFault u p := by
    rw [hex]
    exact State.probeOutcome_none (s := s.concluded x) he hst hprobe p
  rw [hout] at hexec
  have hc := s.concluded_acts x u
  have hacts : State.Acts u s ((s.concluded x).probeFault u p) := hc.trans (State.probeFault_acts _ p)
  have hdone := hacts.concludes hlaw
  refine ⟨fun hwithin => ⟨_, hexec, ?_⟩, fun hpast => ⟨_, hexec, ?_⟩⟩
  · obtain ⟨hunit, -, hhands⟩ := State.probeFault_within (s := s.concluded x) (p := p) he hwithin
    have hidle := hacts.idle hlacks hunit (by simp [hst])
    exact ⟨hdone.frame, hdone.spares, (hdone.unit_eq hidle).trans hunit,
      hdone.hands hidle hunit rfl (fun h => by cases h) (hc.hands hhands)⟩
  · have hq := State.probeFault_past (s := s.concluded x) (p := p) he hpast
    have hretried : ((s.concluded x).retried u).unit u = some { e with retry := e.retry + 1 } := by
      rw [State.unit_retried, show (s.concluded x).unit u = some e from he, Option.map_some]
    refine ⟨hdone.frame, hdone.spares, fun hclear => ?_, ?_⟩
    · refine hdone.flags _ ?_
      rw [hq]
      exact State.unitEvent_raise (e := { e with retry := e.retry + 1 }) hretried (fun t => t.toFailed_acts) hclear
    · cases ho : s.cflu.respOpen.getLsbD Condition.retryExhausted.index with
      | true =>
        have hunit := State.unit_raise_open (k := .retryExhausted) hretried ho (·.toFailed u)
        rw [← hq] at hunit
        refine ⟨_, (hdone.unit_eq (hacts.idle hlacks hunit (by simp [UnitEntry.heldFor, UnitEntry.goto]))).trans hunit,
          rfl, rfl, rfl, fun h => (by cases h), fun _ => ⟨rfl, rfl, rfl⟩⟩
      | false =>
        have hunit := State.unit_raise_failed (k := .retryExhausted) hretried ho
        rw [← hq] at hunit
        refine ⟨_, (hdone.unit_eq (hacts.idle hlacks hunit (by simp [UnitEntry.failedFor, UnitEntry.goto]))).trans hunit,
          rfl, rfl, rfl, fun _ => ⟨rfl, rfl, rfl⟩, fun h => (by cases h)⟩

/-! ### Timers -/

theorem exec_pollTimerDue {s : State} (hrun : s.running = true) (u : UnitIx) :
    exec (.pollTimerDue u) s = .next (s.pollTimerDue u).finish :=
  congrArg Host.Outcome.next (if_pos hrun)

theorem exec_verifyPollDue {s : State} (hrun : s.running = true) (u : UnitIx) :
    exec (.verifyPollDue u) s = .next (s.verifyPollDue u).finish :=
  congrArg Host.Outcome.next (if_pos hrun)

theorem exec_verifyDeadline {s : State} (hrun : s.running = true) (u : UnitIx) :
    exec (.verifyDeadline u) s = .next (s.verifyDeadline u).finish :=
  congrArg Host.Outcome.next (if_pos hrun)

/-- One exchange queued for unit `u` on segment `x`'s link, in place of one for the same unit (R82). -/
def State.queued (s : State) (x : Seg) (u : UnitIx) (ex : Exchange) : PerSeg Link :=
  perSet s.links x
    { perGet s.links x with queue := ((perGet s.links x).queue.filter fun q => !(some u == q.unit?)) ++ [ex] }

/-- A unit's entry changed, then an exchange for it handed to its running link (R82). -/
theorem State.hand_modUnit {s : State} {u : UnitIx} {e d : UnitEntry} {f : UnitEntry → UnitEntry} {ex : Exchange}
    (he : s.unit u = some e) (hf : f e = d) (hd : d.decl = e.decl) (hex : ex.unit? = some u)
    (hh : (perGet s.links e.decl.seg).halted = false) :
    (s.modUnit u f).hand u ex = { s with units := s.units.set u.val (some d), links := s.queued e.decl.seg u ex } := by
  have hm : s.modUnit u f = { s with units := s.units.set u.val (some d) } := by
    rw [← hf]
    exact congrArg (fun o : Option UnitEntry => ({ s with units := s.units.set u.val (o.map f) } : State)) he
  have hu : ({ s with units := s.units.set u.val (some d) } : State).unit u = some d := (getElem_set_ix s.units u u _).trans (if_pos rfl)
  rw [hm, State.hand, hu]
  simp only [State.onLink, hd, perMod, Link.hand, hh, Bool.false_eq_true, if_false, State.queued, Exchange.replaces, hex]

/-- A queued exchange that has a frame is held after the end of the command (R83). -/
theorem State.Ends.holds_queued {s t : State} {u : UnitIx} {e d : UnitEntry} {ex : Exchange}
    (h : State.Ends { s with units := s.units.set u.val (some d), links := s.queued e.decl.seg u ex } t)
    (hex : ex.unit? = some u) (hn : ex.namesImage = false) : (perGet t.links e.decl.seg).Holds ex := by
  rw [h.links]
  refine Link.holds_arbitrate (.inl ?_) (State.framesOf_ne_nil (e := d) hex
    ((getElem_set_ix s.units u u _).trans (if_pos rfl)) fun hi => by rw [hn] at hi; cases hi)
  simp [State.queued]

theorem State.verifying?_eq {s : State} {u : UnitIx} {e : UnitEntry} {v : VerifyRecord} (he : s.unit u = some e)
    (hst : e.state = .verify) (hv : e.verify = some v) : s.verifying? u = some v := by
  simp only [State.verifying?, he, Option.bind_some, hst, if_true, hv]

theorem State.verifyPollDue_of {s : State} {u : UnitIx} {v : VerifyRecord} {deadline d : Tick} (hv : s.verifying? u = some v)
    (hphase : v.phase = .polling deadline) (hpoll : v.pollDue = some d) (hd : s.reached d = true)
    (hp : s.passed deadline = false) :
    s.verifyPollDue u =
      (s.setVerify u { v with pollDue := none, polls := min (v.polls + 1) 255 }).hand u (.verifyPoll u) := by
  unfold State.verifyPollDue
  rw [hv]
  simp only
  split
  · next h h' =>
    cases hphase.symm.trans h
    cases hpoll.symm.trans h'
    rw [hd, hp]
    rfl
  · next h => exact absurd hpoll (h deadline d hphase)

/-- Settles O39: the context poll and the verify poll handed. -/
theorem timersHandTheirPolls : Obligations.TimersHandTheirPolls := by
  intro s u e d hp hr he x queued hh hdue
  have hrun := State.running_eq_true hp hr
  have hreached : s.reached d = true := decide_eq_true hdue
  refine ⟨fun hst hpoll => ⟨_, exec_pollTimerDue hrun u, ?_⟩, fun v deadline hst hv hphase hpoll hbefore =>
    ⟨_, exec_verifyPollDue hrun u, ?_⟩⟩
  · have hout : s.pollTimerDue u =
        { s with units := s.units.set u.val (some { e with pollDue := none }), links := queued (.contextPoll u) } := by
      have hcond : e.state = .live ∧ (!(perGet s.links e.decl.seg).halted) = true ∧ e.pollDue.any s.reached = true :=
        ⟨hst, by rw [hh]; rfl, by rw [hpoll]; exact hreached⟩
      simp only [State.pollTimerDue, he, if_pos hcond]
      exact State.hand_modUnit he rfl rfl rfl hh
    rw [hout]
    exact ⟨State.ends_finish _, (State.ends_finish _).holds_queued (ex := .contextPoll u) rfl rfl⟩
  · have hpassed : s.passed deadline = false := decide_eq_false (Nat.not_lt.2 hbefore)
    rw [State.verifyPollDue_of (State.verifying?_eq he hst hv) hphase hpoll hreached hpassed, State.setVerify,
      State.hand_modUnit he rfl rfl rfl hh]
    exact ⟨State.ends_finish _, (State.ends_finish _).holds_queued (ex := .verifyPoll u) rfl rfl⟩

/-! ### The verify deadline -/

/-- The deadline has passed: the poll timer stops and a queued poll is removed (R149). -/
def State.pollStopped (s : State) (u : UnitIx) (e : UnitEntry) (v : VerifyRecord) : State :=
  (s.setVerify u { v with pollDue := none }).onLink e.decl.seg (·.dropVerifyPoll u)

section
variable {s : State} {u : UnitIx} {e : UnitEntry} {v : VerifyRecord}

theorem State.verifyDeadline_of {deadline : Tick} (he : s.unit u = some e) (hst : e.state = .verify)
    (hv : e.verify = some v) (hphase : v.phase = .polling deadline) (hp : s.passed deadline = true) :
    s.verifyDeadline u =
      if (s.pollStopped u e v).pollInFlight u then s.pollStopped u e v
      else ((s.pollStopped u e v).verifyFault u { v with pollDue := none }).settled := by
  unfold State.verifyDeadline
  rw [he, State.verifying?_eq he hst hv]
  simp only
  split
  · next h =>
    cases hphase.symm.trans h
    exact if_pos hp
  · next h => exact absurd (hphase.symm.trans h) (by simp)

theorem State.pollStopped_eq (he : s.unit u = some e) :
    s.pollStopped u e v =
      { s with
        units := s.units.set u.val (some { e with verify := some { v with pollDue := none } })
        links := perSet s.links e.decl.seg
          { perGet s.links e.decl.seg with
            queue := (perGet s.links e.decl.seg).queue.filter fun q => q != .verifyPoll u } } := by
  have hm : s.setVerify u { v with pollDue := none } =
      { s with units := s.units.set u.val (some { e with verify := some { v with pollDue := none } }) } :=
    congrArg (fun o : Option UnitEntry =>
      ({ s with units := s.units.set u.val (o.map fun e => { e with verify := some { v with pollDue := none } }) } : State)) he
  rw [State.pollStopped, hm]
  rfl

theorem State.unit_pollStopped (he : s.unit u = some e) :
    (s.pollStopped u e v).unit u = some { e with verify := some { v with pollDue := none } } := by
  rw [State.pollStopped_eq he]
  exact (getElem_set_ix s.units u u _).trans (if_pos rfl)

theorem State.inFlight_pollStopped (x : Seg) :
    (perGet (s.pollStopped u e v).links x).inFlight = (perGet s.links x).inFlight := by
  rw [State.pollStopped, State.perGet_onLink]
  split
  · next h => subst h; rfl
  · rfl

theorem State.pollInFlight_pollStopped (he : s.unit u = some e) :
    (s.pollStopped u e v).pollInFlight u =
      (perGet s.links e.decl.seg).inFlight.any fun f => f.exchange == .verifyPoll u && !f.cut := by
  rw [State.pollInFlight, State.unit_pollStopped he, Option.any_some, State.inFlight_pollStopped]

theorem State.pollStopped_acts : State.Acts u s (s.pollStopped u e v) :=
  (s.modUnit_acts _).trans (State.onLink_acts _ _ fun _ => rfl)

theorem State.verifyFault_acts (s : State) (v : VerifyRecord) : State.Acts u s (s.verifyFault u v) :=
  s.fault_acts fun t => (t.modUnit_acts _).trans (State.hand_acts _ _)

/-- A verify request made again, within the retry limit (R72, R148). -/
theorem State.verifyFault_within (he : s.unit u = some e) (h : e.retry + 1 ≤ s.timing.retryLimit) :
    (s.verifyFault u v).unit u =
        some { e with retry := e.retry + 1, verify := some { v with phase := .requesting, pollDue := none } } ∧
      s.Hands (s.verifyFault u v) e.decl.seg (.verifyRequest u) := by
  have hr : (s.retried u).unit u = some { e with retry := e.retry + 1 } := by rw [s.unit_retried, he, Option.map_some]
  have hm : ((s.retried u).setVerify u { v with phase := .requesting, pollDue := none }).unit u =
      some { e with retry := e.retry + 1, verify := some { v with phase := .requesting, pollDue := none } } := by
    rw [State.setVerify, State.unit_modUnit, if_pos rfl, hr, Option.map_some]
  unfold State.verifyFault
  rw [State.fault_within he h]
  refine ⟨by rw [State.requestVerify, State.unit_hand, hm], ?_⟩
  exact (s.retried_acts.trans (State.modUnit_acts _ _)).hands (State.hands_hand
    (e := { e with retry := e.retry + 1, verify := some { v with phase := .requesting, pollDue := none } }) hm _)

end

/-- Settles O40: the deadline with a poll in flight, and with none. -/
theorem verifyDeadlineIsAFault : Obligations.VerifyDeadlineIsAFault := by
  intro s u e v deadline hp hr hlaw he hst hv hphase hpast
  have hrun := State.running_eq_true hp hr
  have hout := State.verifyDeadline_of he hst hv hphase (decide_eq_true hpast)
  have hinFlight := State.pollInFlight_pollStopped (v := v) he
  refine ⟨fun f hf hex hcut => ⟨_, exec_verifyDeadline hrun u, ?_⟩, fun hnone hlimit => ⟨_, exec_verifyDeadline hrun u, ?_⟩⟩
  · have hany : (s.pollStopped u e v).pollInFlight u = true := by rw [hinFlight, hf]; simp [hex, hcut]
    rw [hout, if_pos hany, State.pollStopped_eq he]
    exact State.ends_finish _
  · have hany : ¬(s.pollStopped u e v).pollInFlight u = true := by
      rw [hinFlight]
      cases hf : (perGet s.links e.decl.seg).inFlight with
      | none => simp
      | some f => simp [hnone f hf]
    rw [hout, if_neg hany]
    have hstop : State.Acts u s (s.pollStopped u e v) := State.pollStopped_acts
    have hacts := hstop.trans (State.verifyFault_acts _ { v with pollDue := none })
    have hdone := hacts.concludes hlaw
    have hlimit' : e.retry + 1 ≤ (s.pollStopped u e v).timing.retryLimit := by rw [hstop.frame.timing]; exact hlimit
    obtain ⟨hunit, hhands⟩ := State.verifyFault_within (v := { v with pollDue := none }) (State.unit_pollStopped (v := v) he) hlimit'
    have hidle := hacts.idle (hlaw.lacks he (by rw [hst]; decide)) hunit (by simp [hst])
    refine ⟨hdone.frame, hdone.spares, (hdone.unit_eq hidle).trans hunit, fun hslot => ?_⟩
    exact hdone.hands hidle hunit rfl (fun _ => by rw [hacts.frame.slot]; exact hslot) (hstop.hands hhands)

end Sys2Proof.Machine

/-! Units that wait, and entry to CONTEXT and LIVE: what stands of them when the scheduler has done its own work. -/

namespace Sys2Proof.Machine

/-! ### A unit that waits for an image or is a member not yet joined (R115 to R118) -/

/-- The entry is in WAIT, or a member's that has not joined, with the flags `flags`. -/
structure UnitEntry.WaitsAs (e : UnitEntry) (flags : BitVec 13) : Prop where
  state : e.state = .wait ∨ e.state = .stream ∨ e.state = .suspended
  joined : e.joined = false
  verify : e.verify = none
  probe : e.probe = none
  flags : e.flags = flags

/-- Unit `u` waits, or is a member not yet joined. -/
def State.Waits (s : State) (u : UnitIx) (flags : BitVec 13) : Prop :=
  ∃ e, s.unit u = some e ∧ e.WaitsAs flags

section
variable {u : UnitIx} {flags : BitVec 13} {s t : State}

theorem State.Waits.of_unit (h : s.Waits u flags) (hu : t.unit u = s.unit u) : t.Waits u flags := by
  obtain ⟨e, he, hw⟩ := h
  exact ⟨e, hu.trans he, hw⟩

theorem UnitEntry.WaitsAs.goto {e : UnitEntry} (h : e.WaitsAs flags) {st : UnitState} (hst : st = .stream ∨ st = .suspended) :
    (e.goto st).WaitsAs flags where
  state := .inr hst
  joined := by simp [UnitEntry.goto, h.joined]
  verify := by rcases hst with rfl | rfl <;> rfl
  probe := by rcases hst with rfl | rfl <;> rfl
  flags := h.flags

theorem State.Waits.move (h : s.Waits u flags) (v : UnitIx) {st : UnitState} (hst : st = .stream ∨ st = .suspended)
    {f : UnitEntry → UnitEntry} (hf : ∀ e : UnitEntry, e.WaitsAs flags → (f e).WaitsAs flags) :
    (s.move v st f).Waits u flags := by
  obtain ⟨e, he, hw⟩ := h
  by_cases hv : v = u
  · subst hv
    exact ⟨f (e.goto st), by rw [State.unit_move, if_pos rfl, he, Option.map_some], hf _ (hw.goto hst)⟩
  · exact ⟨e, by rw [State.unit_move, if_neg hv, he], hw⟩

theorem State.Waits.enlist (h : s.Waits u flags) (v : UnitIx) : (s.enlist v).Waits u flags := by
  have hfirst (e : UnitEntry) (hw : e.WaitsAs flags) :
      UnitEntry.WaitsAs { e with firstWindow := true, joined := false } flags :=
    ⟨hw.state, rfl, hw.verify, hw.probe, hw.flags⟩
  unfold State.enlist
  split
  · exact h
  · split
    · exact h
    · simp only
      split
      · exact h
      · split
        · exact State.Waits.move (h.of_unit rfl) v (.inl rfl) hfirst
        · split
          · exact State.Waits.move (h.of_unit rfl) v (.inr rfl) hfirst
          · exact h

theorem State.unit_handJoin (s : State) (v : UnitIx) : (s.handJoin v).unit u = s.unit u := by
  unfold State.handJoin
  split
  · rfl
  · split
    · exact s.unit_hand _ _ _
    · rfl

theorem State.Waits.complete (h : s.Waits u flags) : s.complete.Waits u flags := by
  obtain ⟨e, he, hw⟩ := h
  have hnot (m : Member) (hm : s.completes m = true) : m.unit ≠ u := by
    rintro rfl
    simp [State.completes, he, hw.joined] at hm
  refine ⟨e, ?_, hw⟩
  have hverify (l : List Member) (hl : ∀ m ∈ l, m.unit ≠ u) (t : State) :
      (l.foldl (fun s m => s.enterVerify m.unit) t).unit u = t.unit u := by
    induction l generalizing t with
    | nil => rfl
    | cons m l ih =>
      exact (ih (fun n hn => hl n (by simp [hn])) _).trans
        ((State.unit_move t m.unit u .verify _).trans (if_neg (hl m (by simp))))
  have hhand (l : List UnitIx) (t : State) : (l.foldl State.handVerify t).unit u = t.unit u := by
    induction l generalizing t with
    | nil => rfl
    | cons v l ih => exact (ih _).trans (t.unit_hand v u _)
  unfold State.complete
  split
  · exact he
  · refine (hhand _ _).trans ((hverify _ (fun m hm => hnot m (List.mem_filter.1 hm).2) _).trans ?_)
    exact he

theorem State.Scheduling.waits (h : State.Scheduling False s t) (hs : s.Waits u flags) : t.Waits u flags := by
  cases h with
  | edited => exact hs.of_unit rfl
  | enlisted v => exact hs.enlist v
  | joined => exact hs.of_unit (s.unit_handJoin _)
  | shifted _ hst => exact hs.move _ hst fun _ h => h
  | completed => exact hs.complete
  | stackFull hf => exact hf.elim
  | began =>
    refine hs.of_unit ?_
    rw [State.unit, s.beginWindow_same.1]
    rfl
  | reported =>
    refine hs.of_unit ?_
    rw [State.unit, s.reportDemand_same.1]
    rfl

theorem State.settled_waits (hs : s.rsch.Stacked) (h : s.Waits u flags) : s.settled.Waits u flags := by
  have hc : State.Schedules False s s.settled := s.settled_schedules (.inl hs)
  generalize s.settled = t at hc
  induction hc with
  | refl => exact h
  | tail _ hstep ih => exact hstep.waits ih

/-! ### Entry to WAIT (R104, R117) -/

theorem State.enterWait_waits {e : UnitEntry} (he : s.unit u = some e) (held : Nat) (version : Option Version) :
    (s.enterWait u held version).Waits u e.flags := by
  have hm : (s.move u .wait fun e => { e with heldCount := held, heldVersion := version }).Waits u e.flags :=
    ⟨_, by rw [State.unit_move, if_pos rfl, he, Option.map_some], by constructor <;> simp [UnitEntry.goto]⟩
  exact (hm.enlist u).of_unit (State.unit_handJoin _ u)

theorem State.unit_movedToWait {e : UnitEntry} (he : s.unit u = some e) (held : Nat) (version : Option Version) :
    (s.move u .wait fun e => { e with heldCount := held, heldVersion := version }).unit u =
      some { e.goto .wait with heldCount := held, heldVersion := version } := by
  rw [State.unit_move, if_pos rfl, he, Option.map_some]

/-- Entry to WAIT by a unit of no record whose slot is not VALID: it joins no record (R117). -/
theorem State.enterWait_of_not_valid {e : UnitEntry} (he : s.unit u = some e) (hlacks : s.rsch.Lacks u)
    (hslot : (s.slot e.decl.slot).valid? = none) (held : Nat) (version : Option Version) :
    s.enterWait u held version = s.move u .wait fun e => { e with heldCount := held, heldVersion := version } := by
  have hm := State.unit_movedToWait he held version
  have hidle : (s.move u .wait fun e => { e with heldCount := held, heldVersion := version }).Idle u :=
    ⟨hlacks, fun d hd _ => Option.some.inj (hm.symm.trans hd) ▸ hslot⟩
  rw [State.enterWait, State.join, hidle.enlist, State.handJoin, hm]
  simp [UnitEntry.goto]

/-- What entry to WAIT keeps of the entry, with the held count and version as decided. -/
theorem State.enterWait_scheduled {e : UnitEntry} (he : s.unit u = some e) (held : Nat) (version : Option Version) :
    ∃ e', (s.enterWait u held version).unit u = some e' ∧
      UnitEntry.ScheduledTo { e.goto .wait with heldCount := held, heldVersion := version } e' :=
  (State.join_keepsUnits _ u).some u _ (State.unit_movedToWait he held version)

theorem State.ctxs_enterWait (s : State) (u : UnitIx) (held : Nat) (version : Option Version) :
    (s.enterWait u held version).ctxs = s.ctxs :=
  (State.join_keepsUnits _ u).ctxs

end

/-! ### Entry to CONTEXT (R163) -/

section
variable {s : State} {u : UnitIx} {e : UnitEntry}

theorem State.unit_queueForm (he : s.unit u = some e) (form : WriteForm) :
    (s.queueForm u form).unit u = some { e with form := some form } := by
  rw [State.queueForm, State.unit_hand, State.unit_modUnit, if_pos rfl, he, Option.map_some]

theorem State.hands_queueForm (he : s.unit u = some e) (form : WriteForm) :
    s.Hands (s.queueForm u form) e.decl.seg (.contextSequence u) := by
  have hm : (s.modUnit u fun e => { e with form := some form }).unit u = some { e with form := some form } := by
    rw [State.unit_modUnit, if_pos rfl, he, Option.map_some]
  exact (s.modUnit_acts _).hands (State.hands_hand (e := { e with form := some form }) hm _)

theorem State.ctxs_queueForm (s : State) (u : UnitIx) (form : WriteForm) : (s.queueForm u form).ctxs = s.ctxs :=
  State.ctxs_hand _ _

theorem State.unit_moved (he : s.unit u = some e) (st : UnitState) : (s.move u st id).unit u = some (e.goto st) := by
  rw [State.unit_move, if_pos rfl, he]
  rfl

/-- The write form of a unit whose context is known, or that needs no known position (R163). -/
def State.knownForm (s : State) (u : UnitIx) (e : UnitEntry) : WriteForm :=
  if e.decl.cls.isDoorOrRamp = false ∧ (s.ctx u).validity = .empty then .empty else .record

theorem State.enterContext_known (he : s.unit u = some e)
    (h : e.decl.cls.isDoorOrRamp = false ∨ (s.ctx u).knowsPosition = true) :
    s.enterContext u = (s.move u .context id).queueForm u (s.knownForm u e) := by
  have hctx : (s.move u .context id).ctx u = s.ctx u := rfl
  simp only [State.enterContext, he, hctx, State.knownForm]
  cases hd : e.decl.cls.isDoorOrRamp with
  | true => rw [hd] at h; simp [h.resolve_left (by decide)]
  | false =>
    by_cases hv : (s.ctx u).validity = .empty <;> simp [hv]

theorem State.enterContext_unknown (he : s.unit u = some e) (hd : e.decl.cls.isDoorOrRamp = true)
    (hk : (s.ctx u).knowsPosition = false) :
    s.enterContext u = (s.move u .context id).raise u .contextUnknown (·.queueForm u .unknown) := by
  have hctx : (s.move u .context id).ctx u = s.ctx u := rfl
  simp only [State.enterContext, he, hctx, hd, hk, if_true, Bool.false_eq_true, if_false]

theorem State.ctxs_enterContext (s : State) (u : UnitIx) : (s.enterContext u).ctxs = s.ctxs := by
  cases he : s.unit u with
  | none => simp only [State.enterContext, he]
  | some e =>
    by_cases h : e.decl.cls.isDoorOrRamp = false ∨ (s.ctx u).knowsPosition = true
    · rw [State.enterContext_known he h]
      exact State.ctxs_queueForm _ _ _
    · simp only [not_or, Bool.not_eq_false, Bool.not_eq_true] at h
      rw [State.enterContext_unknown he h.1 h.2]
      cases ho : s.cflu.respOpen.getLsbD Condition.contextUnknown.index with
      | true => exact State.ctxs_raise_open (s := s.move u .context id) ho _
      | false =>
        rw [State.raise_masked (s := s.move u .context id) ho, State.ctxs_queueForm, State.ctxs_setUnitFlag]
        rfl

/-- A unit that enters CONTEXT with its context known: its form is chosen, and its sequence handed. -/
theorem State.enterContext_sends (he : s.unit u = some e)
    (h : e.decl.cls.isDoorOrRamp = false ∨ (s.ctx u).knowsPosition = true) :
    (s.enterContext u).unit u = some { e.goto .context with form := some (s.knownForm u e) } ∧
      s.Hands (s.enterContext u) e.decl.seg (.contextSequence u) := by
  rw [State.enterContext_known he h]
  have hm := State.unit_moved he .context
  exact ⟨State.unit_queueForm hm _, (s.move_acts .context id).hands (State.hands_queueForm (e := e.goto .context) hm _)⟩

/-- CONTEXT_UNKNOWN, masked: the sequence of form UNKNOWN is handed (R163, R175). -/
theorem State.enterContext_masked (he : s.unit u = some e) (hd : e.decl.cls.isDoorOrRamp = true)
    (hk : (s.ctx u).knowsPosition = false) (ho : s.cflu.respOpen.getLsbD Condition.contextUnknown.index = false) :
    (s.enterContext u).unit u = some
        { e.goto .context with
          flags := e.flags ||| BitVec.twoPow 13 (UnitFlag.condition .contextUnknown).bit, form := some .unknown } ∧
      s.Hands (s.enterContext u) e.decl.seg (.contextSequence u) := by
  have hm := State.unit_flagged (State.unit_moved he .context) (.condition .contextUnknown)
  rw [State.enterContext_unknown he hd hk, State.raise_masked (s := s.move u .context id) ho]
  refine ⟨State.unit_queueForm hm _, ?_⟩
  exact ((s.move_acts .context id).trans (State.setUnitFlag_acts _ _)).hands (State.hands_queueForm
    (e := { e.goto .context with
      flags := e.flags ||| BitVec.twoPow 13 (UnitFlag.condition .contextUnknown).bit }) hm _)

/-- CONTEXT_UNKNOWN, open: the unit is HELD (R163, R176). -/
theorem State.enterContext_open (he : s.unit u = some e) (hd : e.decl.cls.isDoorOrRamp = true)
    (hk : (s.ctx u).knowsPosition = false) (ho : s.cflu.respOpen.getLsbD Condition.contextUnknown.index = true) :
    (s.enterContext u).unit u = some ((e.goto .context).heldFor .contextUnknown) := by
  rw [State.enterContext_unknown he hd hk]
  exact State.unit_raise_open (s := s.move u .context id) (State.unit_moved he .context) ho _

theorem isDoorOrRamp_iff (c : UnitClass) : c.isDoorOrRamp = true ↔ c = .door ∨ c = .ramp := by
  cases c <;> simp [UnitClass.isDoorOrRamp]

/-- The record holds a known position (R162, R163). -/
theorem ContextRecord.knowsPosition_iff (r : ContextRecord) :
    r.knowsPosition = true ↔ ∃ c p, r.content = some (.door c) ∧ c.position = some p := by
  unfold ContextRecord.knowsPosition
  cases hc : r.content with
  | none => simp
  | some c =>
    cases c with
    | door d => simp [Option.isSome_iff_exists]
    | _ => simp

end

/-! ### The end of an outcome -/

/-- Command `c`, whose work is unit `u`'s, leads from `s` to `t` and leaves `u` the entry `e'`. -/
structure State.Answers (c : Instr) (u : UnitIx) (s t : State) (e' : UnitEntry) : Prop where
  exec : exec c s = .next t
  frame : s.RestoreFrame t
  spares : s.SparesOthers t u
  permits : t.PermitLaw
  alert : t.AlertLaw
  ctxs : t.ctxs = s.ctxs
  unit : t.unit u = some e'

section
variable {c : Instr} {u : UnitIx} {s q : State} {e' : UnitEntry}

/-- The work leaves the unit idle: what it leaves of it stands at the end. -/
theorem State.Acts.answers_idle (h : State.Acts u s q) (hexec : exec c s = .next q.settled.finish) (hlaw : s.MembershipLaw)
    (hc : q.ctxs = s.ctxs) (hu : q.unit u = some e') (hidle : q.Idle u) :
    State.Answers c u s q.settled.finish e' := by
  have hdone := h.concludes hlaw
  exact ⟨hexec, hdone.frame, hdone.spares, hdone.ended.permits, hdone.ended.alert, hdone.ctxs.trans hc,
    (hdone.unit_eq hidle).trans hu⟩

/-- So it is where the unit was of no record and is not left in WAIT. -/
theorem State.Acts.answers (h : State.Acts u s q) (hexec : exec c s = .next q.settled.finish) (hlaw : s.MembershipLaw)
    (hlacks : s.rsch.Lacks u) (hc : q.ctxs = s.ctxs) (hu : q.unit u = some e') (hst : e'.state ≠ .wait) :
    State.Answers c u s q.settled.finish e' :=
  h.answers_idle hexec hlaw hc hu (h.idle hlacks hu hst)

theorem State.Acts.hands_end (h : State.Acts u s q) (hlaw : s.MembershipLaw) (hlacks : s.rsch.Lacks u)
    (hu : q.unit u = some e') (hst : e'.state ≠ .wait) {x : Seg} {ex : Exchange} (hex : ex.unit? = some u)
    (hn : ex.namesImage = false) (hh : s.Hands q x ex) : s.Hands q.settled.finish x ex :=
  (h.concludes hlaw).hands (h.idle hlacks hu hst) hu hex (fun hi => by rw [hn] at hi; cases hi) hh

end

/-- A unit's entry to WAIT at the end of a command: nothing but the scheduler's own work moves it, and that leaves it waiting or
a member not yet joined. -/
theorem State.answers_waiting {c : Instr} {u : UnitIx} {s q : State} {e : UnitEntry} {held : Nat} {version : Option Version}
    (h : State.Acts u s q) (hexec : exec c s = .next (q.enterWait u held version).settled.finish) (hlaw : s.MembershipLaw)
    (hstack : s.StackLaw) (hsame : q.rsch = s.rsch) (hc : q.ctxs = s.ctxs) (hu : q.unit u = some e) :
    ∃ e', State.Answers c u s (q.enterWait u held version).settled.finish e' ∧
      UnitEntry.ScheduledTo { e.goto .wait with heldCount := held, heldVersion := version } e' ∧ e'.WaitsAs e.flags := by
  have hframe := h.frame.trans (q.enterWait_frame u held version)
  have hpass (v : UnitIx) (hv : u ≠ v) : s.Passes (q.enterWait u held version) v :=
    (h.passes v hv).trans ((q.move_passes _ _ hv).trans (State.join_passes _ u))
  have hdone := State.concludes hframe hpass hlaw
  have hstacked : (q.enterWait u held version).rsch.Stacked :=
    (q.enterWait_works u held version).records.stacked (hsame ▸ hstack)
  obtain ⟨e', he', hw⟩ := State.settled_waits hstacked (State.enterWait_waits hu held version)
  obtain ⟨d, hd, hs⟩ := State.enterWait_scheduled hu held version
  obtain ⟨d', hd', hs'⟩ := (q.enterWait u held version).settled_keepsUnits.some u d hd
  obtain rfl := Option.some.inj (hd'.symm.trans he')
  exact ⟨d', ⟨hexec, hdone.frame, hdone.spares, hdone.ended.permits, hdone.ended.alert,
    hdone.ctxs.trans ((q.ctxs_enterWait u held version).trans hc), (hdone.ended.unit_eq u).trans he'⟩, hs.trans hs', hw⟩

/-! ### A report judged -/

section
variable {s : State} {u : UnitIx} {e : UnitEntry}

/-- Entry to LIVE without restraint (R88, R165, R181). -/
theorem State.enterLive_free (he : s.unit u = some e) :
    (s.enterLive u false).unit u = some
        { e.goto .live with
          restrained := false
          pollDue := some (s.tick + BitVec.ofNat 32 s.timing.pollPeriod)
          flags := e.flags ||| BitVec.twoPow 13 UnitFlag.liveReached.bit } ∧
      (e.flags.getLsbD UnitFlag.liveReached.bit = false →
        (s.enterLive u false).cflu.device.getLsbD DeviceFlag.unitEvent.bit = true) ∧ (s.enterLive u false).ctxs = s.ctxs := by
  have hm : (s.move u .live fun e =>
      { e with restrained := false, pollDue := some (s.tick + BitVec.ofNat 32 s.timing.pollPeriod) }).unit u =
      some { e.goto .live with restrained := false, pollDue := some (s.tick + BitVec.ofNat 32 s.timing.pollPeriod) } := by
    rw [State.unit_move, if_pos rfl, he, Option.map_some]
  simp only [State.enterLive, Bool.false_eq_true, if_false]
  refine ⟨State.unit_flagged hm _, fun hf => ?_, State.ctxs_setUnitFlag _ _⟩
  exact State.unitEvent_setUnitFlag (f := .liveReached) hm hf

end

/-- A unit of no record whose report is judged: its own work so far leads from `s` to `q`, which leaves it the entry `e`, and
what the report calls for is done to `q`. -/
structure State.Judging (u : UnitIx) (s q : State) (e : UnitEntry) : Prop where
  acts : State.Acts u s q
  law : s.MembershipLaw
  stack : s.StackLaw
  lacks : s.rsch.Lacks u
  rsch : q.rsch = s.rsch
  ctxs : q.ctxs = s.ctxs
  unit : q.unit u = some e

section
variable {c : Instr} {u : UnitIx} {s q : State} {e : UnitEntry}

theorem State.Judging.respOpen (h : State.Judging u s q e) : q.cflu.respOpen = s.cflu.respOpen :=
  h.acts.frame.respOpen

/-- A condition raised with its mask open: the unit is HELD (R176). -/
theorem State.Judging.raise_open (h : State.Judging u s q e) {k : Condition} {d : State → State}
    (hexec : exec c s = .next (q.raise u k d).settled.finish) (ho : s.cflu.respOpen.getLsbD k.index = true) :
    ∃ t, State.Answers c u s t (e.heldFor k) := by
  have ho' : q.cflu.respOpen.getLsbD k.index = true := h.respOpen ▸ ho
  have hu := State.unit_raise_open h.unit ho' d
  have hc := State.ctxs_raise_open (u := u) ho' d
  rw [State.raise_open ho'] at hu hexec hc
  exact ⟨_, (h.acts.trans ((State.setUnitFlag_acts _ _).trans (State.toHeld_acts _ _))).answers hexec h.law h.lacks
    (hc.trans h.ctxs) hu (by simp [UnitEntry.heldFor, UnitEntry.goto])⟩

/-- A condition raised whose default action is FAILED, masked (R175). -/
theorem State.Judging.raise_failed (h : State.Judging u s q e) {k : Condition}
    (hexec : exec c s = .next (q.raise u k (·.toFailed u)).settled.finish)
    (ho : s.cflu.respOpen.getLsbD k.index = false) : ∃ t, State.Answers c u s t (e.failedFor k) := by
  have ho' : q.cflu.respOpen.getLsbD k.index = false := h.respOpen ▸ ho
  exact ⟨_, (h.acts.trans (State.raise_acts _ _ fun t => t.toFailed_acts)).answers hexec h.law h.lacks
    ((State.ctxs_raise_failed ho').trans h.ctxs) (State.unit_raise_failed h.unit ho')
    (by simp [UnitEntry.failedFor, UnitEntry.goto])⟩

/-- A condition raised, masked: the default action goes on with the flag set (R175). -/
theorem State.Judging.flagged (h : State.Judging u s q e) (f : UnitFlag) :
    State.Judging u s (q.setUnitFlag u f) { e with flags := e.flags ||| BitVec.twoPow 13 f.bit } where
  acts := h.acts.trans (State.setUnitFlag_acts _ _)
  law := h.law
  stack := h.stack
  lacks := h.lacks
  rsch := (q.rsch_setUnitFlag u f).trans h.rsch
  ctxs := (State.ctxs_setUnitFlag _ _).trans h.ctxs
  unit := State.unit_flagged h.unit f

theorem State.Judging.modified (h : State.Judging u s q e) (f : UnitEntry → UnitEntry) :
    State.Judging u s (q.modUnit u f) (f e) where
  acts := h.acts.trans (State.modUnit_acts _ _)
  law := h.law
  stack := h.stack
  lacks := h.lacks
  rsch := h.rsch
  ctxs := h.ctxs
  unit := by rw [State.unit_modUnit, if_pos rfl, h.unit, Option.map_some]

/-- Entry to WAIT, or to a record of the slot (R104, R117). -/
theorem State.Judging.waits (h : State.Judging u s q e) {held : Nat} {version : Option Version}
    (hexec : exec c s = .next (q.enterWait u held version).settled.finish) :
    ∃ t e', State.Answers c u s t e' ∧
      UnitEntry.ScheduledTo { e.goto .wait with heldCount := held, heldVersion := version } e' ∧ e'.WaitsAs e.flags := by
  obtain ⟨e', ha⟩ := State.answers_waiting h.acts hexec h.law h.stack h.rsch h.ctxs h.unit
  exact ⟨_, e', ha⟩

/-- Where the slot is not VALID it stays in WAIT (R115, R117). -/
theorem State.Judging.waits_idle (h : State.Judging u s q e) {held : Nat} {version : Option Version}
    (hexec : exec c s = .next (q.enterWait u held version).settled.finish)
    (hslot : (s.slot e.decl.slot).valid? = none) :
    ∃ t, State.Answers c u s t { e.goto .wait with heldCount := held, heldVersion := version } := by
  have hlacks : q.rsch.Lacks u := h.acts.lacks h.lacks
  have hslot' : (q.slot e.decl.slot).valid? = none := by rw [h.acts.frame.slot]; exact hslot
  rw [State.enterWait_of_not_valid h.unit hlacks hslot'] at hexec
  have hu := State.unit_movedToWait h.unit held version
  exact ⟨_, (h.acts.trans (State.move_acts q .wait fun e => { e with heldCount := held, heldVersion := version })).answers_idle
    hexec h.law h.ctxs hu ⟨hlacks, fun d hd _ => Option.some.inj (hu.symm.trans hd) ▸ hslot'⟩⟩

/-- The unit moved out of WAIT. -/
theorem State.Judging.moved (h : State.Judging u s q e) {st : UnitState} {f : UnitEntry → UnitEntry}
    (hexec : exec c s = .next (q.move u st f).settled.finish) (hst : st ≠ .wait) (hf : ∀ e, (f e).state = e.state) :
    ∃ t, State.Answers c u s t (f (e.goto st)) :=
  ⟨_, (h.acts.trans (q.move_acts st f)).answers hexec h.law h.lacks h.ctxs
    (by rw [State.unit_move, if_pos rfl, h.unit, Option.map_some]) (by rw [hf]; exact hst)⟩

/-- Entry to LIVE without restraint (R88, R165). -/
theorem State.Judging.live (h : State.Judging u s q e) (hexec : exec c s = .next (q.enterLive u false).settled.finish) :
    ∃ t, State.Answers c u s t
        { e.goto .live with
          restrained := false
          pollDue := some (s.tick + BitVec.ofNat 32 s.timing.pollPeriod)
          flags := e.flags ||| BitVec.twoPow 13 UnitFlag.liveReached.bit } ∧
      (e.flags.getLsbD UnitFlag.liveReached.bit = false → t.cflu.device.getLsbD DeviceFlag.unitEvent.bit = true) := by
  obtain ⟨hu, hevent, hc⟩ := State.enterLive_free h.unit
  rw [h.acts.frame.tick, h.acts.frame.timing] at hu
  have hacts := h.acts.trans (q.enterLive_acts false)
  exact ⟨_, hacts.answers hexec h.law h.lacks (hc.trans h.ctxs) hu (by simp [UnitEntry.goto]),
    fun hf => (hacts.concludes h.law).flags _ (hevent hf)⟩

/-- A unit that enters CONTEXT with its context known: its form is chosen, and its sequence handed (R163). -/
theorem State.Judging.contextKnown (h : State.Judging u s q e) (hexec : exec c s = .next (q.enterContext u).settled.finish)
    (hk : e.decl.cls.isDoorOrRamp = false ∨ (s.ctx u).knowsPosition = true) :
    ∃ t, State.Answers c u s t { e.goto .context with form := some (s.knownForm u e) } ∧
      s.Hands t e.decl.seg (.contextSequence u) := by
  have hctx : q.ctx u = s.ctx u := by rw [State.ctx, h.ctxs]; rfl
  obtain ⟨hu, hh⟩ := State.enterContext_sends h.unit (hctx ▸ hk)
  rw [show q.knownForm u e = s.knownForm u e by rw [State.knownForm, hctx]; rfl] at hu
  have hacts := h.acts.trans q.enterContext_acts
  have hne : ({ e.goto .context with form := some (s.knownForm u e) } : UnitEntry).state ≠ .wait := by simp [UnitEntry.goto]
  exact ⟨_, hacts.answers hexec h.law h.lacks ((q.ctxs_enterContext u).trans h.ctxs) hu hne,
    hacts.hands_end h.law h.lacks hu hne rfl rfl (h.acts.hands hh)⟩

/-- CONTEXT_UNKNOWN, masked: the sequence of form UNKNOWN is handed (R163, R175). -/
theorem State.Judging.contextMasked (h : State.Judging u s q e) (hexec : exec c s = .next (q.enterContext u).settled.finish)
    (hd : e.decl.cls.isDoorOrRamp = true) (hk : (s.ctx u).knowsPosition = false)
    (ho : s.cflu.respOpen.getLsbD Condition.contextUnknown.index = false) :
    ∃ t, State.Answers c u s t
        { e.goto .context with
          flags := e.flags ||| BitVec.twoPow 13 (UnitFlag.condition .contextUnknown).bit, form := some .unknown } ∧
      s.Hands t e.decl.seg (.contextSequence u) := by
  have hctx : q.ctx u = s.ctx u := by rw [State.ctx, h.ctxs]; rfl
  obtain ⟨hu, hh⟩ := State.enterContext_masked h.unit hd (hctx ▸ hk) (h.respOpen ▸ ho)
  have hacts := h.acts.trans q.enterContext_acts
  have hne : ({ e.goto .context with
      flags := e.flags ||| BitVec.twoPow 13 (UnitFlag.condition .contextUnknown).bit
      form := some .unknown } : UnitEntry).state ≠ .wait := by simp [UnitEntry.goto]
  exact ⟨_, hacts.answers hexec h.law h.lacks ((q.ctxs_enterContext u).trans h.ctxs) hu hne,
    hacts.hands_end h.law h.lacks hu hne rfl rfl (h.acts.hands hh)⟩

/-- CONTEXT_UNKNOWN, open: the unit is HELD (R163, R176). -/
theorem State.Judging.contextOpen (h : State.Judging u s q e) (hexec : exec c s = .next (q.enterContext u).settled.finish)
    (hd : e.decl.cls.isDoorOrRamp = true) (hk : (s.ctx u).knowsPosition = false)
    (ho : s.cflu.respOpen.getLsbD Condition.contextUnknown.index = true) :
    ∃ t, State.Answers c u s t ((e.goto .context).heldFor .contextUnknown) := by
  have hctx : q.ctx u = s.ctx u := by rw [State.ctx, h.ctxs]; rfl
  have hu := State.enterContext_open h.unit hd (hctx ▸ hk) (h.respOpen ▸ ho)
  have hacts := h.acts.trans q.enterContext_acts
  exact ⟨_, hacts.answers hexec h.law h.lacks ((q.ctxs_enterContext u).trans h.ctxs) hu
    (by simp [UnitEntry.heldFor, UnitEntry.goto])⟩

end

end Sys2Proof.Machine

/-! READY reports (R150, R151). -/

namespace Sys2Proof.Machine

section
variable {s : State} {u : UnitIx} {e : UnitEntry} {v : VerifyRecord} {d : Tick} {i : SlotInfo} {crc : Crc32}

theorem State.verifyPollOutcome_ready (he : s.unit u = some e) (hst : e.state = .verify) (hv : e.verify = some v)
    (hphase : v.phase = .polling d) : s.verifyPollOutcome u (some (.ready crc)) = s.verifyReady u v crc := by
  simp only [State.verifyPollOutcome, State.verifying?_eq he hst hv, hphase]

theorem State.unit_setVerify (he : s.unit u = some e) : (s.setVerify u v).unit u = some { e with verify := some v } := by
  rw [State.setVerify, State.unit_modUnit, if_pos rfl, he, Option.map_some]

/-- The image is verified: the slot's version runs, and nothing is held (R150). -/
def State.verified (s : State) (u : UnitIx) (version : Version) : State :=
  s.modUnit u fun e => { e with running := some version, heldCount := 0, heldVersion := none }

theorem State.verifyReady_match (he : s.unit u = some e) (hi : (s.slot e.decl.slot).info? = some i) (hc : crc = i.crc) :
    s.verifyReady u v crc = ((s.setVerify u { v with lastCrc := some crc }).verified u i.version).enterContext u := by
  have hi' : ((s.setVerify u { v with lastCrc := some crc }).slot e.decl.slot).info? = some i := hi
  simp only [State.verifyReady, he, hi', if_pos hc]
  rfl

theorem State.verifyReady_mismatch (he : s.unit u = some e) (hi : (s.slot e.decl.slot).info? = some i) (hc : crc ≠ i.crc) :
    s.verifyReady u v crc =
      (s.setVerify u { v with lastCrc := some crc }).raise u .verifyMismatch (·.mismatchDefault u) := by
  have hi' : ((s.setVerify u { v with lastCrc := some crc }).slot e.decl.slot).info? = some i := hi
  simp only [State.verifyReady, he, hi', if_neg hc]

theorem State.unit_verified (he : s.unit u = some e) (version : Version) :
    (s.verified u version).unit u = some { e with running := some version, heldCount := 0, heldVersion := none } := by
  rw [State.verified, State.unit_modUnit, if_pos rfl, he, Option.map_some]

/-- VERIFY_MISMATCH's default action within the retry limit: WAIT with nothing held, on a usable segment (R151). -/
theorem State.mismatchDefault_usable (he : s.unit u = some e) (h : e.retry + 1 ≤ s.timing.retryLimit)
    (hx : s.usable e.decl.seg = true) : s.mismatchDefault u = (s.retried u).enterWait u 0 none := by
  have hr : (s.retried u).unit u = some { e with retry := e.retry + 1 } := by rw [s.unit_retried, he, Option.map_some]
  unfold State.mismatchDefault
  rw [State.fault_within he h, hr, Option.any_some]
  exact if_pos hx

/-- On a DOWN segment it is DARK (R151). -/
theorem State.mismatchDefault_down (he : s.unit u = some e) (h : e.retry + 1 ≤ s.timing.retryLimit)
    (hx : s.usable e.decl.seg = false) :
    s.mismatchDefault u = (s.retried u).move u .dark fun e => { e with heldCount := 0, heldVersion := none } := by
  have hr : (s.retried u).unit u = some { e with retry := e.retry + 1 } := by rw [s.unit_retried, he, Option.map_some]
  have hx' : ¬(s.retried u).usable e.decl.seg = true := by
    rw [show (s.retried u).usable e.decl.seg = false from hx]
    decide
  unfold State.mismatchDefault
  rw [State.fault_within he h, hr, Option.any_some]
  exact if_neg hx'

end

/-- Settles O36: a matching CRC, and VERIFY_MISMATCH. -/
theorem readyReportsJudgeTheImage : Obligations.ReadyReportsJudgeTheImage := by
  intro s x u e v d t0 n f i crc hp hr hstack hlaw hf hex hbody hphase hcut hmark he hst hv hvphase hi reported rises known
    unknownFlag mismatchFlag heldFlag
  have hexec := exec_unitAnswer (b := .verifyReport (.ready crc)) (State.running_eq_true hp hr) hf hphase (by rw [hbody]; rfl)
    hcut hmark (by rw [hex]; rfl) (by rw [hex]; rfl)
  have hout : (s.concluded x).unitOutcome f.exchange (some (.verifyReport (.ready crc))) =
      (s.concluded x).verifyReady u v crc := by
    rw [hex]
    exact State.verifyPollOutcome_ready (s := s.concluded x) he hst hv hvphase
  rw [hout] at hexec
  have hjudge : State.Judging u s (s.concluded x) e :=
    ⟨s.concluded_acts x u, hlaw, hstack, hlaw.lacks he (by rw [hst]; decide), rfl, rfl, he⟩
  have hset : State.Judging u s ((s.concluded x).setVerify u { v with lastCrc := some crc }) _ := hjudge.modified _
  have ends {t : State} {e' : UnitEntry} {good : State → UnitEntry → Prop}
      (ha : State.Answers (.segmentAnswer x ⟨f.frame.dest, f.seq, .verifyReport (.ready crc)⟩) u s t e')
      (hd : e'.decl = e.decl) (hv' : e'.verify = none) (hg : good t e') : reported good :=
    ⟨t, ha.exec, ha.frame, ha.spares, ha.permits, ha.alert, ha.ctxs, e', ha.unit, hd, hv', hg⟩
  refine ⟨fun hcrc => ?_, fun hcrc => ?_⟩
  · intro verified
    rw [State.verifyReady_match (s := s.concluded x) he hi hcrc] at hexec
    have hver : State.Judging u s (((s.concluded x).setVerify u { v with lastCrc := some crc }).verified u i.version) _ :=
      hset.modified _
    have hrises : rises ↔ e.decl.cls.isDoorOrRamp = true := (isDoorOrRamp_iff e.decl.cls).symm
    have hknown : known ↔ (s.ctx u).knowsPosition = true := (ContextRecord.knowsPosition_iff _).symm
    refine ⟨fun hr hk => ?_, fun hr => ?_, fun hr hk ho => ?_, fun hr hk ho => ?_⟩
    · obtain ⟨t, ha, hh⟩ := hver.contextKnown hexec (.inr (hknown.1 hk))
      exact ends ha rfl rfl ⟨⟨rfl, rfl, rfl, rfl⟩, rfl,
        congrArg some (if_neg fun h => by rw [hrises.1 hr] at h; cases h.1), rfl, hh⟩
    · have hclass : e.decl.cls.isDoorOrRamp = false := by simpa [hrises] using hr
      obtain ⟨t, ha, hh⟩ := hver.contextKnown hexec (.inl hclass)
      refine ends ha rfl rfl ⟨⟨rfl, rfl, rfl, rfl⟩, rfl, rfl, hh, ?_⟩
      simp only [State.knownForm, hclass, true_and]
    · obtain ⟨t, ha, hh⟩ := hver.contextMasked hexec (hrises.1 hr) (by simpa [hknown] using hk) ho
      exact ends ha rfl rfl ⟨⟨rfl, rfl, rfl, rfl⟩, rfl, rfl, rfl, hh⟩
    · obtain ⟨t, ha⟩ := hver.contextOpen hexec (hrises.1 hr) (by simpa [hknown] using hk) ho
      exact ends ha rfl rfl ⟨⟨rfl, rfl, rfl, rfl⟩, rfl, rfl, rfl⟩
  · rw [State.verifyReady_mismatch (s := s.concluded x) he hi hcrc] at hexec
    refine ⟨fun ho => ?_, fun ho hlimit => ?_⟩
    · obtain ⟨t, ha⟩ := hset.raise_open hexec ho
      exact ends ha rfl rfl ⟨rfl, rfl, rfl, rfl⟩
    · rw [State.raise_masked (hset.respOpen.symm ▸ ho)] at hexec
      have hflag := hset.flagged (.condition .verifyMismatch)
      have hlimit' : e.retry + 1 ≤ (((s.concluded x).setVerify u { v with lastCrc := some crc }).setUnitFlag u
          (.condition .verifyMismatch)).timing.retryLimit := by
        rw [hflag.acts.frame.timing]
        exact hlimit
      have husable := hflag.acts.frame.usable e.decl.seg
      have hretried := hflag.modified fun e => { e with retry := e.retry + 1 }
      cases hx : s.usable e.decl.seg with
      | true =>
        rw [State.mismatchDefault_usable hflag.unit hlimit' (husable.trans hx)] at hexec
        obtain ⟨t, e', ha, hsch, hw⟩ := hretried.waits hexec
        exact ends ha hsch.decl hw.verify ⟨hsch.retry, hsch.heldCount, hsch.heldVersion, hw.flags, fun _ => hw.state,
          fun h => by cases h⟩
      | false =>
        rw [State.mismatchDefault_down hflag.unit hlimit' (husable.trans hx)] at hexec
        obtain ⟨t, ha⟩ := hretried.moved hexec (by decide) fun _ => rfl
        exact ends ha rfl rfl ⟨rfl, rfl, rfl, rfl, fun h => (by cases h), fun _ => rfl⟩

end Sys2Proof.Machine

/-! Boot reports: the tests and the decision (R99 to R108). -/

namespace Sys2Proof.Machine

/-! ### What a report teaches (R73, R104) -/

/-- The entry as a report with the right echo leaves it before the outcome is made: the report is recorded, and the capability,
the running version and, of a BOOT report, the held count and version are learned. -/
structure UnitEntry.Learns (e d : UnitEntry) (r : BootReport) (tick : Tick) (maxWindow : Nat) : Prop where
  decl : d.decl = e.decl
  state : d.state = e.state
  retry : d.retry = e.retry
  flags : d.flags = e.flags
  lastBoot : d.lastBoot = some (r, tick)
  window : d.window = min r.capability maxWindow
  run : r.mode = some .run → d.running = r.version ∧ d.heldCount = e.heldCount ∧ d.heldVersion = e.heldVersion
  boot : r.mode = some .boot → d.running = none

/-- The entry of a unit in PROBE that a report with the right echo has taught. -/
def UnitEntry.taught (e : UnitEntry) (r : BootReport) (tick : Tick) (maxWindow : Nat) : UnitEntry :=
  { e with lastBoot := some (r, tick) }.learn r maxWindow

theorem UnitEntry.learns_taught (e : UnitEntry) (r : BootReport) (tick : Tick) (maxWindow : Nat) :
    e.Learns (e.taught r tick maxWindow) r tick maxWindow := by
  unfold UnitEntry.taught UnitEntry.learn
  split
  · next h => exact ⟨rfl, rfl, rfl, rfl, rfl, rfl, fun _ => ⟨rfl, rfl, rfl⟩, fun hb => by rw [h] at hb; cases hb⟩
  · next h => exact ⟨rfl, rfl, rfl, rfl, rfl, rfl, fun hr => absurd hr h, fun _ => rfl⟩

/-- The outcome keeps what was learned. -/
theorem UnitEntry.Learns.keeps {e d d' : UnitEntry} {r : BootReport} {tick : Tick} {maxWindow : Nat}
    (h : e.Learns d r tick maxWindow) (hr : d'.retry = d.retry) (hl : d'.lastBoot = d.lastBoot) (hw : d'.window = d.window)
    (hrun : d'.running = d.running) :
    d'.lastBoot = some (r, tick) ∧ d'.window = min r.capability maxWindow ∧ d'.retry = e.retry ∧
      (r.mode = some .run → d'.running = r.version) ∧ (r.mode = some .boot → d'.running = none) :=
  ⟨hl.trans h.lastBoot, hw.trans h.window, hr.trans h.retry, fun hm => hrun.trans (h.run hm).1, fun hm => hrun.trans (h.boot hm)⟩

/-! ### The decision -/

/-- Unit `u` after a report with the right echo, before its outcome is made. -/
def State.taught (s : State) (u : UnitIx) (r : BootReport) : State :=
  (s.recordBoot u r).modUnit u (·.learn r s.timing.maxWindow)

section
variable {s : State} {u : UnitIx} {e : UnitEntry} {p : Nat} {r : BootReport}

theorem State.taught_acts (s : State) : State.Acts u s (s.taught u r) :=
  (s.modUnit_acts _).trans (State.modUnit_acts _ _)

theorem State.unit_recordBoot (he : s.unit u = some e) :
    (s.recordBoot u r).unit u = some { e with lastBoot := some (r, s.tick) } := by
  rw [State.recordBoot, State.unit_modUnit, if_pos rfl, he, Option.map_some]

theorem State.unit_taught (he : s.unit u = some e) :
    (s.taught u r).unit u = some (e.taught r s.tick s.timing.maxWindow) := by
  rw [State.taught, State.unit_modUnit, if_pos rfl, State.unit_recordBoot he, Option.map_some]
  rfl

theorem State.probing?_eq (he : s.unit u = some e) (hst : e.state = .probe) (hprobe : e.probe = some ⟨.probing, p⟩) :
    s.probing? u = some ⟨.probing, p⟩ := by
  simp only [State.probing?, he, Option.bind_some, hst, if_true, hprobe]

theorem State.probeOutcome_malformed (hp : s.probing? u = some ⟨.probing, p⟩) (hr : reportWellFormed r = false) (sent : Nat) :
    s.probeOutcome u sent (some r) = s.probeFault u p := by
  simp only [State.probeOutcome, hp, hr, Bool.not_false, if_true]

theorem State.probeOutcome_wrongEcho (hp : s.probing? u = some ⟨.probing, p⟩) (hr : reportWellFormed r = true) {sent : Nat}
    (hecho : r.echo ≠ probePattern sent) :
    s.probeOutcome u sent (some r) = (s.recordBoot u r).raise u .linkTest (·.probeFault u p) := by
  simp only [State.probeOutcome, hp, hr, Bool.not_true, Bool.false_eq_true, if_false, if_pos hecho]

theorem State.probeOutcome_judged (hp : s.probing? u = some ⟨.probing, p⟩) (hr : reportWellFormed r = true) {sent : Nat}
    (hecho : r.echo = probePattern sent) :
    s.probeOutcome u sent (some r) = (s.recordBoot u r).judgeReport u p r := by
  simp only [State.probeOutcome, hp, hr, Bool.not_true, Bool.false_eq_true, if_false, hecho, ne_eq, not_true_eq_false]

theorem State.judge_classMismatch (he : s.unit u = some e) (hc : r.cls ≠ some e.decl.cls) :
    (s.recordBoot u r).judgeReport u p r = (s.taught u r).raise u .classMismatch (·.toFailed u) := by
  simp only [State.judgeReport, State.unit_recordBoot he, if_pos hc]
  rfl

/-- The slot of the unit's definition decides, once the class fits (R101). -/
theorem State.judge_class (he : s.unit u = some e) (hc : r.cls = some e.decl.cls) :
    (s.recordBoot u r).judgeReport u p r =
      match s.slot e.decl.slot with
      | .loading .. => if r.mode = some .run then (s.taught u r).restart u p .reload else (s.taught u r).waitAsReported u r
      | .valid i => (s.taught u r).decideVersion u p r i
      | _ => (s.taught u r).raise u .imageUnusable (·.toFailed u) := by
  simp only [State.judgeReport, State.unit_recordBoot he, hc, ne_eq, not_true_eq_false, if_false]
  rfl

theorem State.unit_restart (he : s.unit u = some e) (cause : RestartCause) :
    (s.restart u p cause).unit u = some { e with probe := some ⟨.restarting cause, p⟩ } := by
  rw [State.restart, State.unit_hand, State.unit_modUnit, if_pos rfl, he, Option.map_some]

theorem State.hands_restart (he : s.unit u = some e) (cause : RestartCause) :
    s.Hands (s.restart u p cause) e.decl.seg (.restart u) := by
  have hm : (s.modUnit u fun e => { e with probe := some ⟨.restarting cause, p⟩ }).unit u =
      some { e with probe := some ⟨.restarting cause, p⟩ } := by
    rw [State.unit_modUnit, if_pos rfl, he, Option.map_some]
  exact (s.modUnit_acts _).hands (State.hands_hand (e := { e with probe := some ⟨.restarting cause, p⟩ }) hm _)

theorem State.restart_acts (s : State) (cause : RestartCause) : State.Acts u s (s.restart u p cause) :=
  (s.modUnit_acts _).trans (State.hand_acts _ _)

theorem State.ctxs_restart (s : State) (cause : RestartCause) : (s.restart u p cause).ctxs = s.ctxs :=
  State.ctxs_hand _ _

theorem State.unit_dropHeld (he : s.unit u = some e) :
    (s.dropHeld u).unit u = some { e with heldCount := 0, heldVersion := none } := by
  rw [State.dropHeld, State.unit_modUnit, if_pos rfl, he, Option.map_some]

end

/-- What stands at the end of a probe's outcome, as the obligation of R99 to R108 says it. -/
theorem State.decided_of_answers {c : Instr} {u : UnitIx} {s t : State} {e e' : UnitEntry} (h : State.Answers c u s t e')
    (hd : e'.decl = e.decl) {good : State → UnitEntry → Prop} (hg : good t e') :
    ∃ t e', exec c s = .next t ∧ s.RestoreFrame t ∧ s.SparesOthers t u ∧ t.PermitLaw ∧ t.AlertLaw ∧ t.ctxs = s.ctxs ∧
      t.unit u = some e' ∧ e'.decl = e.decl ∧ good t e' :=
  ⟨t, e', h.exec, h.frame, h.spares, h.permits, h.alert, h.ctxs, h.unit, hd, hg⟩

section
variable {c : Instr} {u : UnitIx} {s q : State} {e : UnitEntry}

/-- A probe repeated within the retry limit (R100). -/
theorem State.Judging.again (h : State.Judging u s q e) {p : Nat}
    (hexec : exec c s = .next (q.probeFault u p).settled.finish) (hst : e.state = .probe)
    (hlimit : e.retry + 1 ≤ s.timing.retryLimit) :
    ∃ t, State.Answers c u s t { e with retry := e.retry + 1, probe := some ⟨.probing, p + 1⟩ } ∧
      s.Hands t e.decl.seg (.probe u (p + 1)) := by
  have hlimit' : e.retry + 1 ≤ q.timing.retryLimit := h.acts.frame.timing ▸ hlimit
  obtain ⟨hu, hc, hh⟩ := State.probeFault_within (p := p) h.unit hlimit'
  have hacts := h.acts.trans (State.probeFault_acts q p)
  have hne : ({ e with retry := e.retry + 1, probe := some ⟨.probing, p + 1⟩ } : UnitEntry).state ≠ .wait := by
    rw [show ({ e with retry := e.retry + 1, probe := some ⟨.probing, p + 1⟩ } : UnitEntry).state = .probe from hst]
    decide
  exact ⟨_, hacts.answers hexec h.law h.lacks (hc.trans h.ctxs) hu hne,
    hacts.hands_end h.law h.lacks hu hne rfl rfl (h.acts.hands hh)⟩

/-- A restart begun (R105). -/
theorem State.Judging.restart (h : State.Judging u s q e) {p : Nat} {cause : RestartCause}
    (hexec : exec c s = .next (q.restart u p cause).settled.finish) (hst : e.state = .probe) :
    ∃ t, State.Answers c u s t { e with probe := some ⟨.restarting cause, p⟩ } ∧ s.Hands t e.decl.seg (.restart u) := by
  have hacts := h.acts.trans (q.restart_acts (p := p) cause)
  have hu := State.unit_restart (p := p) h.unit cause
  have hne : ({ e with probe := some ⟨.restarting cause, p⟩ } : UnitEntry).state ≠ .wait := by
    rw [show ({ e with probe := some ⟨.restarting cause, p⟩ } : UnitEntry).state = .probe from hst]
    decide
  exact ⟨_, hacts.answers hexec h.law h.lacks ((State.ctxs_restart _ _).trans h.ctxs) hu hne,
    hacts.hands_end h.law h.lacks hu hne rfl rfl (h.acts.hands (State.hands_restart h.unit cause))⟩

end

/-! ### The decision on a report -/

section
variable {s : State} {u : UnitIx} {e : UnitEntry} {p : Nat} {r : BootReport} {i : SlotInfo}

theorem State.judge_loading_run {cursor : Nat} {written : List Nat} (he : s.unit u = some e) (hc : r.cls = some e.decl.cls)
    (hs : s.slot e.decl.slot = .loading i cursor written) (hm : r.mode = some .run) :
    (s.recordBoot u r).judgeReport u p r = (s.taught u r).restart u p .reload := by
  rw [State.judge_class he hc, hs]
  exact if_pos hm

theorem State.judge_loading_boot {cursor : Nat} {written : List Nat} (he : s.unit u = some e) (hc : r.cls = some e.decl.cls)
    (hs : s.slot e.decl.slot = .loading i cursor written) (hm : r.mode = some .boot) :
    (s.recordBoot u r).judgeReport u p r = (s.taught u r).enterWait u (partialImage r).1 (partialImage r).2 := by
  rw [State.judge_class he hc, hs]
  exact if_neg (by rw [hm]; decide)

theorem State.judge_unusable (he : s.unit u = some e) (hc : r.cls = some e.decl.cls)
    (hs : s.slot e.decl.slot = .empty ∨ ∃ i c, s.slot e.decl.slot = .damaged i c) :
    (s.recordBoot u r).judgeReport u p r = (s.taught u r).raise u .imageUnusable (·.toFailed u) := by
  rw [State.judge_class he hc]
  rcases hs with hs | ⟨i, c, hs⟩ <;> rw [hs]

theorem State.judge_valid (he : s.unit u = some e) (hc : r.cls = some e.decl.cls) (hs : s.slot e.decl.slot = .valid i) :
    (s.recordBoot u r).judgeReport u p r = (s.taught u r).decideVersion u p r i := by
  rw [State.judge_class he hc, hs]

theorem State.decideVersion_boot (hm : r.mode = some .boot) :
    s.decideVersion u p r i = s.enterWait u (partialImage r).1 (partialImage r).2 := by
  unfold State.decideVersion
  rw [hm]
  rfl

theorem State.decideVersion_less (hm : r.mode = some .run) (hc : compareVersion r.version i.version = .less) :
    s.decideVersion u p r i = s.restart u p .less := by
  unfold State.decideVersion
  rw [hm, hc]

theorem State.decideVersion_greater (hm : r.mode = some .run) (hc : compareVersion r.version i.version = .greater) :
    s.decideVersion u p r i = s.raise u .versionAhead (·.restart u p .ahead) := by
  unfold State.decideVersion
  rw [hm, hc]

theorem State.decideVersion_equal (hm : r.mode = some .run) (hv : r.version = some i.version) :
    s.decideVersion u p r i =
      if r.intact = some true then (s.dropHeld u).enterLive u false else (s.dropHeld u).enterContext u := by
  unfold State.decideVersion
  rw [hm, hv, compareVersion_eq_equal_iff.2 ⟨rfl, rfl, rfl⟩]

/-- What a BOOT report shows is held (R98, R104). -/
theorem partialImage_spec (r : BootReport) :
    (∀ h v, r.held = some (h + 1) → r.version = some v → (partialImage r).1 = h + 1 ∧ (partialImage r).2 = some v) ∧
      (r.held = some 0 → (partialImage r).1 = 0 ∧ (partialImage r).2 = none) := by
  refine ⟨fun h v hh hv => ?_, fun hh => ?_⟩
  · unfold partialImage
    rw [hh, hv]
    exact ⟨rfl, rfl⟩
  · unfold partialImage
    rw [hh]
    exact ⟨rfl, rfl⟩

end

/-- Settles O31: the tests on a boot report, and the decision. -/
theorem probeReportsAreDecided : Obligations.ProbeReportsAreDecided := by
  intro s x u e p n t0 f r hp hr hstack hlaw hf hex hbody hphase hcut hmark he hst hprobe decided isOpen flag raised wellFormed
    again unlearned learned asReported restarted refused
  have hexec := exec_unitAnswer (b := .bootReport r) (State.running_eq_true hp hr) hf hphase (by rw [hbody]; rfl)
    hcut hmark (by rw [hex]; rfl) (by rw [hex]; rfl)
  rw [show (s.concluded x).unitOutcome f.exchange (some (.bootReport r)) = (s.concluded x).probeOutcome u p (some r) by
    rw [hex]; rfl] at hexec
  have hprobing : (s.concluded x).probing? u = some ⟨.probing, p⟩ := State.probing?_eq (s := s.concluded x) he hst hprobe
  have hjudge : State.Judging u s (s.concluded x) e :=
    ⟨s.concluded_acts x u, hlaw, hstack, hlaw.lacks he (by rw [hst]; decide), rfl, rfl, he⟩
  have hwf : wellFormed ↔ reportWellFormed r = true := by
    simp only [wellFormed, reportWellFormed_iff, Option.isSome_iff_exists, Option.ne_none_iff_exists', and_assoc]
  refine ⟨fun hbad hlimit => ?_, fun hgood hecho => ?_, fun hgood hecho => ?_⟩
  · rw [State.probeOutcome_malformed hprobing (by simpa [hwf] using hbad)] at hexec
    obtain ⟨t, ha, hh⟩ := hjudge.again hexec hst hlimit
    exact State.decided_of_answers ha rfl ⟨⟨hst, rfl, rfl, hh⟩, ⟨rfl, rfl, rfl, rfl⟩, rfl, rfl⟩
  · rw [State.probeOutcome_wrongEcho hprobing (hwf.1 hgood) hecho] at hexec
    have hrec : State.Judging u s ((s.concluded x).recordBoot u r) _ := hjudge.modified _
    refine ⟨fun ho hlimit => ?_, fun ho hlimit ho' => ?_, fun ho => ?_⟩
    · rw [State.raise_masked (hrec.respOpen.symm ▸ Bool.not_eq_true _ ▸ ho)] at hexec
      obtain ⟨t, ha, hh⟩ := (hrec.flagged (.condition .linkTest)).again hexec hst hlimit
      exact State.decided_of_answers ha rfl ⟨⟨hst, rfl, rfl, hh⟩, ⟨rfl, rfl, rfl, rfl⟩, rfl, rfl⟩
    · rw [State.raise_masked (hrec.respOpen.symm ▸ Bool.not_eq_true _ ▸ ho)] at hexec
      have hflag := hrec.flagged (.condition .linkTest)
      rw [State.probeFault_past hflag.unit (by rw [hflag.acts.frame.timing]; exact hlimit)] at hexec
      obtain ⟨t, ha⟩ := (hflag.modified fun e => { e with retry := e.retry + 1 }).raise_failed hexec
        (Bool.not_eq_true _ ▸ ho')
      exact State.decided_of_answers ha rfl ⟨rfl, rfl, ⟨rfl, rfl, rfl, rfl⟩, rfl, rfl⟩
    · obtain ⟨t, ha⟩ := hrec.raise_open hexec ho
      exact State.decided_of_answers ha rfl
        ⟨rfl, rfl, by simp only [UnitEntry.heldFor, if_true, hprobe, Option.map_some], rfl, ⟨rfl, rfl, rfl, rfl⟩, rfl, rfl, rfl⟩
  · rw [State.probeOutcome_judged hprobing (hwf.1 hgood) hecho] at hexec
    have htaught : State.Judging u s ((s.concluded x).taught u r) (e.taught r s.tick s.timing.maxWindow) :=
      (hjudge.modified _).modified _
    have hlearn := e.learns_taught r s.tick s.timing.maxWindow
    generalize e.taught r s.tick s.timing.maxWindow = d at htaught hlearn
    have refuses (k : Condition) (hexec : exec (.segmentAnswer x ⟨f.frame.dest, f.seq, .bootReport r⟩) s =
        .next (((s.concluded x).taught u r).raise u k (·.toFailed u)).settled.finish) : refused k := by
      refine ⟨fun ho => ?_, fun ho => ?_⟩
      · obtain ⟨t, ha⟩ := htaught.raise_failed hexec (Bool.not_eq_true _ ▸ ho)
        exact State.decided_of_answers ha hlearn.decl
          ⟨hlearn.keeps rfl rfl rfl rfl, rfl, rfl, by rw [← hlearn.flags]; rfl, rfl⟩
      · obtain ⟨t, ha⟩ := htaught.raise_open hexec ho
        exact State.decided_of_answers ha hlearn.decl
          ⟨hlearn.keeps rfl rfl rfl rfl, rfl, rfl, by rw [← hlearn.flags]; rfl, rfl⟩
    have restarts (flags : BitVec 13) {q : State} {cause : RestartCause} (hm : r.mode = some .run)
        (hq : State.Judging u s q { d with flags := flags })
        (hexec : exec (.segmentAnswer x ⟨f.frame.dest, f.seq, .bootReport r⟩) s = .next (q.restart u p cause).settled.finish) :
        restarted cause flags := by
      obtain ⟨t, ha, hh⟩ := hq.restart hexec (hlearn.state.trans hst)
      rw [hlearn.decl] at hh
      exact State.decided_of_answers ha hlearn.decl ⟨hlearn.keeps rfl rfl rfl rfl, hlearn.state.trans hst, rfl,
        (hlearn.run hm).2.1, (hlearn.run hm).2.2, rfl, hh⟩
    obtain ⟨hsome, hzero⟩ := partialImage_spec r
    refine ⟨fun hc => ?_, fun hc hslot => ?_, fun i cursor written hc hslot => ⟨fun hm => ?_, fun hm => ?_⟩,
      fun i hc hslot => ⟨fun hm => ?_, fun hm hless => ?_, fun hm hmore => ⟨fun ho => ?_, fun ho => ?_⟩, fun hm hv hin => ?_,
        fun hm hv hin => ?_⟩⟩
    · rw [State.judge_classMismatch (s := s.concluded x) he hc] at hexec
      exact refuses _ hexec
    · rw [State.judge_unusable (s := s.concluded x) he hc hslot] at hexec
      exact refuses _ hexec
    · rw [State.judge_loading_run (s := s.concluded x) he hc hslot hm] at hexec
      rw [← hlearn.flags]
      exact restarts d.flags hm htaught hexec
    · rw [State.judge_loading_boot (s := s.concluded x) he hc hslot hm] at hexec
      obtain ⟨t, ha⟩ := htaught.waits_idle hexec (by rw [hlearn.decl, hslot]; rfl)
      exact State.decided_of_answers ha hlearn.decl
        ⟨hlearn.keeps rfl rfl rfl rfl, ⟨hsome, hzero⟩, rfl, rfl, hlearn.flags⟩
    · rw [State.judge_valid (s := s.concluded x) he hc hslot, State.decideVersion_boot hm] at hexec
      obtain ⟨t, e', ha, hsch, hw⟩ := htaught.waits hexec
      refine State.decided_of_answers ha (hsch.decl.trans hlearn.decl)
        ⟨hlearn.keeps hsch.retry hsch.lastBoot hsch.window hsch.running, ⟨fun h v hh hv => ?_, fun hh => ?_⟩, hw.state, hw.probe,
          hw.flags.trans hlearn.flags⟩
      · exact ⟨hsch.heldCount.trans (hsome h v hh hv).1, hsch.heldVersion.trans (hsome h v hh hv).2⟩
      · exact ⟨hsch.heldCount.trans (hzero hh).1, hsch.heldVersion.trans (hzero hh).2⟩
    · rw [State.judge_valid (s := s.concluded x) he hc hslot, State.decideVersion_less hm hless] at hexec
      rw [← hlearn.flags]
      exact restarts d.flags hm htaught hexec
    · rw [State.judge_valid (s := s.concluded x) he hc hslot, State.decideVersion_greater hm hmore,
        State.raise_masked (htaught.respOpen.symm ▸ Bool.not_eq_true _ ▸ ho)] at hexec
      have hflag := htaught.flagged (.condition .versionAhead)
      rw [hlearn.flags] at hflag
      exact restarts _ hm hflag hexec
    · rw [State.judge_valid (s := s.concluded x) he hc hslot, State.decideVersion_greater hm hmore] at hexec
      obtain ⟨t, ha⟩ := htaught.raise_open hexec ho
      exact State.decided_of_answers ha hlearn.decl
        ⟨hlearn.keeps rfl rfl rfl rfl, rfl, rfl, by rw [← hlearn.flags]; rfl, rfl⟩
    · rw [State.judge_valid (s := s.concluded x) he hc hslot, State.decideVersion_equal hm hv, if_pos hin] at hexec
      have hdrop := htaught.modified fun e => { e with heldCount := 0, heldVersion := none }
      obtain ⟨t, ha, hevent⟩ := hdrop.live hexec
      refine State.decided_of_answers ha hlearn.decl ⟨hlearn.keeps rfl rfl rfl rfl, rfl, rfl, (hlearn.run hm).1.trans hv, rfl, rfl,
        rfl, rfl, by rw [← hlearn.flags], fun hf => hevent (by rw [← hf, ← hlearn.flags])⟩
    · rw [State.judge_valid (s := s.concluded x) he hc hslot, State.decideVersion_equal hm hv, if_neg (by rw [hin]; decide)] at hexec
      have hdrop : State.Judging u s (((s.concluded x).taught u r).dropHeld u) { d with heldCount := 0, heldVersion := none } :=
        htaught.modified _
      intro rises known current
      have hrises : rises ↔ d.decl.cls.isDoorOrRamp = true := by rw [hlearn.decl]; exact (isDoorOrRamp_iff e.decl.cls).symm
      have hknown : known ↔ (s.ctx u).knowsPosition = true := (ContextRecord.knowsPosition_iff _).symm
      have hrunning := (hlearn.run hm).1.trans hv
      refine ⟨fun h => ?_, fun hr hk ho => ?_, fun hr hk ho => ?_⟩
      · have h' : d.decl.cls.isDoorOrRamp = false ∨ (s.ctx u).knowsPosition = true :=
          h.imp (fun hr => by simpa [hrises] using hr) hknown.1
        obtain ⟨t, ha, hh⟩ := hdrop.contextKnown hexec h'
        rw [hlearn.decl] at hh
        refine State.decided_of_answers ha hlearn.decl ⟨⟨hlearn.keeps rfl rfl rfl rfl, hrunning, rfl, rfl, rfl⟩, rfl,
          hlearn.flags, hh, fun hr => congrArg some (if_neg fun hn => ?_), fun hr hv => congrArg some (if_pos ⟨?_, hv⟩)⟩
        · rcases hr with hr | hr
          · exact absurd (hrises.1 hr) (by rw [hn.1]; decide)
          · exact hr hn.2
        · simpa [hrises] using hr
      · obtain ⟨t, ha, hh⟩ := hdrop.contextMasked hexec (hrises.1 hr) (by simpa [hknown] using hk) (Bool.not_eq_true _ ▸ ho)
        rw [hlearn.decl] at hh
        exact State.decided_of_answers ha hlearn.decl ⟨⟨hlearn.keeps rfl rfl rfl rfl, hrunning, rfl, rfl, rfl⟩, rfl, rfl,
          by rw [← hlearn.flags], hh⟩
      · obtain ⟨t, ha⟩ := hdrop.contextOpen hexec (hrises.1 hr) (by simpa [hknown] using hk) ho
        exact State.decided_of_answers ha hlearn.decl ⟨⟨hlearn.keeps rfl rfl rfl rfl, hrunning, rfl, rfl, rfl⟩, rfl, rfl,
          by rw [← hlearn.flags]; rfl, rfl⟩

end Sys2Proof.Machine

/-! The context sequence with its lock and yield (R85, R86, R87, R93, R165). -/

namespace Sys2Proof.Machine

/-! ### The mark (R86, R87) -/

/-- A level-7 part handed under yield marks the sequence in flight, and so does yield turned on; another part marks nothing. -/
theorem Link.marks_sequence {l : Link} {f : InFlight} (part : WindowPart) (hh : l.halted = false) (hf : l.inFlight = some f)
    (hs : f.exchange.isSequence = true) (hcut : f.cut = false) :
    let queue : List Exchange := (l.queue.filter fun q => !q.isWindow) ++ [.window part]
    (part.level = 7 → l.yieldOn = true →
        l.handPart part = { l with queue := queue, inFlight := some { f with marked := true } }) ∧
      (part.level ≠ 7 ∨ l.yieldOn = false → l.handPart part = { l with queue := queue }) ∧
      (l.yieldOn = false → .window part ∈ l.queue → part.level = 7 →
        l.setYield true = { l with yieldOn := true, inFlight := some { f with marked := true } }) ∧
      (l.yieldOn = true → l.setYield false = { l with yieldOn := false, inFlight := some { f with marked := false } }) ∧
      l.setYield l.yieldOn = l := by
  intro queue
  have hwindow (q : Exchange) : (!(Exchange.window part).replaces q) = !q.isWindow := by cases q <;> rfl
  have hhand : l.hand (.window part) = { l with queue := queue } := by
    simp only [Link.hand, hh, Bool.false_eq_true, if_false, hwindow, queue]
  have hmark (q : List Exchange) (y : Bool) :
      ({ l with queue := q, yieldOn := y } : Link).mark =
        { l with queue := q, yieldOn := y, inFlight := some { f with marked := true } } := by
    simp only [Link.mark, hf, Option.map_some, InFlight.markable, hs, hcut, Bool.not_false, Bool.and_self, if_true]
  refine ⟨fun h7 hy => ?_, fun h => ?_, fun hy hq h7 => ?_, fun hy => ?_, ?_⟩
  · have : (decide (part.level = 7) && l.yieldOn && !l.halted) = true := by simp [h7, hy, hh]
    simp only [Link.handPart, hhand, this, if_true]
    exact hmark queue l.yieldOn
  · have : (decide (part.level = 7) && l.yieldOn && !l.halted) = false := by
      rcases h with h | h <;> simp [h]
    simp only [Link.handPart, hhand, this, Bool.false_eq_true, if_false]
  · have h7w : ({ l with yieldOn := true } : Link).level7Waiting = true :=
      List.any_eq_true.2 ⟨_, hq, by simp [h7]⟩
    simp only [Link.setYield, hy, Bool.true_eq_false, if_false, if_true, h7w]
    exact hmark l.queue true
  · simp only [Link.setYield, hy, Bool.false_eq_true, if_false, Link.unmark, hf, Option.map_some]
  · exact if_pos rfl

/-! ### The waits of a sequence (R85, R86) -/

section
variable {s : State} {x : Seg} {u : UnitIx} {f : InFlight} {o : OutFrame} {rest : List OutFrame}

theorem InFlight.abandons_eq_true (hm : f.marked = true) (hb : f.frame.body ≠ .contextCommit) : f.abandons = true := by
  simp [InFlight.abandons, hm, hb]

theorem InFlight.abandons_of_commit (hb : f.frame.body = .contextCommit) : f.abandons = false := by
  simp [InFlight.abandons, hb]

theorem State.waitEnded_abandoned (hf : (perGet s.links x).inFlight = some f) (hcut : f.cut = false)
    (hab : f.abandons = true) (a : Option AnswerBody) : s.waitEnded x a = s.onLink x (·.abandon f.exchange) := by
  unfold State.waitEnded
  simp only [hf, hcut, hab, Bool.false_eq_true, if_false, if_true]

theorem State.waitEnded_sequence (hf : (perGet s.links x).inFlight = some f) (hcut : f.cut = false)
    (hab : f.abandons = false) (hex : f.exchange = .contextSequence u) (a : Option AnswerBody) :
    s.waitEnded x a = s.sequenceAnswer x f u a := by
  unfold State.waitEnded
  simp only [hf, hcut, hab, Bool.false_eq_true, if_false, hex]

theorem State.onLink_clearSegRx (s : State) (x : Seg) (g : Link → Link) :
    (s.clearSegRx x).onLink x g = { s with links := perSet s.links x (g { perGet s.links x with rx := [] }) } := by
  cases x <;> rfl

theorem State.sequenceAnswer_next (ht : f.todo = o :: rest) :
    s.sequenceAnswer x f u (some .ack) = s.onLink x (·.send f.exchange o rest) := by
  unfold State.sequenceAnswer
  rw [ht]

theorem State.sequenceAnswer_last (ht : f.todo = []) (a : Option AnswerBody) :
    s.sequenceAnswer x f u a = ((s.onLink x (·.endExchange)).contextOutcome u (a.bind contextAck?)).settled := by
  unfold State.sequenceAnswer
  rw [ht]
  cases a with
  | none => rfl
  | some b => cases b <;> rfl

/-- An abandoned sequence waits first in the queue with the lock free, and a window part that waits goes next (R83, R86). -/
theorem State.Ends.abandoned {t : State} {l : Link} {part : WindowPart} {queue : List Exchange}
    (h : State.Ends
      { s with
        links := perSet s.links x { l with inFlight := none, lock := none, queue := .contextSequence u :: queue } } t)
    (hh : l.halted = false) (hw : queue.find? Exchange.isWindow = some (.window part)) (hp : s.partFrames part ≠ []) :
    (perGet t.links x).lock = none ∧ (perGet t.links x).queue.head? = some (.contextSequence u) ∧
      ∃ f', (perGet t.links x).inFlight = some f' ∧ f'.exchange = .window part := by
  rw [h.links, perGet_perSet_self]
  generalize hl : ({ l with inFlight := none, lock := none, queue := .contextSequence u :: queue } : Link) = q
  have hchoose : q.choose = some (.window part) := by
    have : (Exchange.contextSequence u :: queue).find? Exchange.isWindow = some (.window part) := hw
    rw [← hl, Link.choose, this]
    rfl
  have hframes : ({ s with links := perSet s.links x q } : State).framesOf (.window part) = s.partFrames part := rfl
  rw [Link.arbitrate_of_choose (by rw [← hl]; exact hh) (by rw [← hl]) hchoose, hframes, ← hl]
  cases hcons : s.partFrames part with
  | nil => exact absurd hcons hp
  | cons o rest => exact ⟨rfl, rfl, _, rfl, rfl⟩

end

/-! ### The outcome of COMMIT (R165) -/

section
variable {s : State} {u : UnitIx} {e : UnitEntry}

/-- Entry to LIVE: the poll timer starts, and the unit is restrained as the entry says (R88, R165). -/
theorem State.unit_enterLive (he : s.unit u = some e) (b : Bool) :
    ∃ flags, (s.enterLive u b).unit u = some
      { e.goto .live with
        restrained := b, pollDue := some (s.tick + BitVec.ofNat 32 s.timing.pollPeriod), flags := flags } := by
  have hm : (s.move u .live fun e =>
      { e with restrained := b, pollDue := some (s.tick + BitVec.ofNat 32 s.timing.pollPeriod) }).unit u =
      some { e.goto .live with restrained := b, pollDue := some (s.tick + BitVec.ofNat 32 s.timing.pollPeriod) } := by
    rw [State.unit_move, if_pos rfl, he, Option.map_some]
  have hl := State.unit_flagged hm .liveReached
  unfold State.enterLive
  cases b with
  | true => exact ⟨_, State.unit_flagged hl .restrained⟩
  | false => exact ⟨_, hl⟩

theorem State.ctxs_enterLive (s : State) (u : UnitIx) (b : Bool) : (s.enterLive u b).ctxs = s.ctxs := by
  unfold State.enterLive
  simp only
  split
  · rw [State.ctxs_setUnitFlag, State.ctxs_setUnitFlag]
    rfl
  · rw [State.ctxs_setUnitFlag]
    rfl

theorem State.contextOutcome_applied {form : WriteForm} (he : s.unit u = some e) (hst : e.state = .context)
    (hf : e.form = some form) :
    s.contextOutcome u (some .applied) = (s.putCtx u ((s.ctx u).applied form)).enterLive u (form == .unknown) := by
  simp only [State.contextOutcome, he, hst, ne_eq, not_true_eq_false, if_false, hf, State.contextApplied]

theorem State.contextOutcome_silent {form : WriteForm} (he : s.unit u = some e) (hst : e.state = .context)
    (hf : e.form = some form) : s.contextOutcome u none = s.contextFault u := by
  simp only [State.contextOutcome, he, hst, ne_eq, not_true_eq_false, if_false, hf]

theorem State.contextFault_acts (s : State) : State.Acts u s (s.contextFault u) :=
  s.fault_acts fun t => t.hand_acts _

/-- A context sequence's fault within the retry limit: a new sequence is handed (R165). -/
theorem State.contextFault_within (he : s.unit u = some e) (h : e.retry + 1 ≤ s.timing.retryLimit) :
    (s.contextFault u).unit u = some { e with retry := e.retry + 1 } ∧ (s.contextFault u).ctxs = s.ctxs ∧
      s.Hands (s.contextFault u) e.decl.seg (.contextSequence u) := by
  have hr : (s.retried u).unit u = some { e with retry := e.retry + 1 } := by rw [s.unit_retried, he, Option.map_some]
  unfold State.contextFault
  rw [State.fault_within he h]
  exact ⟨(State.unit_hand _ _ _ _).trans hr, State.ctxs_hand _ _,
    s.retried_acts.hands (State.hands_hand (e := { e with retry := e.retry + 1 }) hr _)⟩

/-- What an applied write makes of a record (R165). -/
theorem ContextRecord.applied_spec (r : ContextRecord) (form : WriteForm) :
    (r.validity = .empty → r.applied form = r) ∧
      (r.validity ≠ .empty → form = .record → r.applied form = { r with validity := .written }) ∧
      (∀ c, r.validity = .frozen → form = .unknown → r.content = some (.door c) →
        r.applied form =
          { r with validity := .written, content := some (.door { c with leaf := .indefinite, position := none }) }) ∧
      (r.validity = .frozen → form = .empty → r.applied form = ContextRecord.blank) := by
  unfold ContextRecord.applied
  refine ⟨fun h => if_pos h, fun h hf => ?_, fun c h hf hc => ?_, fun h hf => ?_⟩
  · rw [if_neg h, hf]
  · rw [if_neg (by rw [h]; decide), hf, hc]
    rfl
  · rw [if_neg (by rw [h]; decide), hf]

end

/-- Settles O38: the mark, the next frame, the abandonment, and the outcome of COMMIT. -/
theorem contextSequencesKeepTheLockOrYield : Obligations.ContextSequencesKeepTheLockOrYield := by
  refine ⟨fun l f part hh hf hs hcut => Link.marks_sequence part hh hf hs hcut, ?_⟩
  intro s x u e t0 n f hp hr hlaw hf hex hphase hcut he hst link answered abandoned
  have hrun := State.running_eq_true hp hr
  have hf' := (s.inFlight_clearSegRx x).trans hf
  refine ⟨fun o rest htodo hmark hcalls => ?_, fun hmark hbody => ⟨fun b hcalls => ?_, fun hn hrx => ?_⟩,
    fun form hbody htodo hform => ⟨?_, fun hn hrx hlimit => ?_⟩⟩
  · have hab : f.abandons = false := by simp [InFlight.abandons, hmark]
    refine ⟨_, exec_segmentAnswer hrun hf hphase hcalls, ?_⟩
    rw [State.waitEnded_sequence hf' hcut hab hex, State.sequenceAnswer_next htodo, State.onLink_clearSegRx]
    exact State.ends_finish _
  · refine ⟨_, exec_segmentAnswer hrun hf hphase hcalls, ?_⟩
    rw [State.waitEnded_abandoned hf' hcut (InFlight.abandons_eq_true hmark hbody), hex, State.onLink_clearSegRx]
    exact ⟨State.ends_finish _, fun part hh hw hp => State.Ends.abandoned (State.ends_finish _) hh hw hp⟩
  · refine ⟨_, exec_silentTimeout hrun hf hphase hn hrx, ?_⟩
    rw [State.waitEnded_abandoned hf hcut (InFlight.abandons_eq_true hmark hbody), hex]
    exact ⟨State.ends_finish _, fun part hh hw hp => State.Ends.abandoned (State.ends_finish _) hh hw hp⟩
  · refine ⟨_, exec_segmentAnswer (b := .contextAck .applied) hrun hf hphase (by rw [hbody]; rfl), ?_⟩
    rw [State.waitEnded_sequence hf' hcut (InFlight.abandons_of_commit hbody) hex, State.sequenceAnswer_last htodo]
    have houtcome : ((s.clearSegRx x).onLink x (·.endExchange)).contextOutcome u
        ((some (.contextAck .applied)).bind contextAck?) = ((s.concluded x).putCtx u ((s.ctx u).applied form)).enterLive u (form == .unknown) :=
      State.contextOutcome_applied (s := s.concluded x) he hst hform
    rw [houtcome]
    have hacts : State.Acts u s (((s.concluded x).putCtx u ((s.ctx u).applied form)).enterLive u (form == .unknown)) :=
      (s.concluded_acts x u).trans ((State.putCtx_acts _ _).trans (State.enterLive_acts _ _))
    have hdone := hacts.concludes hlaw
    obtain ⟨flags, hu⟩ := State.unit_enterLive (s := (s.concluded x).putCtx u ((s.ctx u).applied form)) he (form == .unknown)
    have hctx (v : UnitIx) := State.ctx_congr (hdone.ctxs.trans (State.ctxs_enterLive _ u _)) v
    have hctx' (v : UnitIx) := (hctx v).trans (State.ctx_putCtx (s.concluded x) u v _)
    have hself := (hctx' u).trans (if_pos rfl)
    obtain ⟨hempty, hrecord, hunknown, hblank⟩ := (s.ctx u).applied_spec form
    refine ⟨hdone.frame, hdone.spares, hdone.ended.permits, fun v hv => (hctx' v).trans (if_neg hv.symm),
      fun h => hself.trans (hempty h), fun h h' => hself.trans (hrecord h h'), fun c h h' h'' => hself.trans (hunknown c h h' h''),
      fun h h' => hself.trans (hblank h h'), _,
      (hdone.unit_eq (hacts.idle (hlaw.lacks he (by rw [hst]; decide)) hu (by simp [UnitEntry.goto]))).trans hu, rfl, rfl, rfl,
      rfl, by simp, rfl⟩
  · refine ⟨_, exec_silentTimeout hrun hf hphase hn hrx, ?_⟩
    rw [State.waitEnded_sequence hf hcut (InFlight.abandons_of_commit hbody) hex, State.sequenceAnswer_last htodo,
      State.concluded_of_silent hrx]
    have houtcome : (s.concluded x).contextOutcome u (none.bind contextAck?) = (s.concluded x).contextFault u :=
      State.contextOutcome_silent (s := s.concluded x) he hst hform
    rw [houtcome]
    obtain ⟨hu, hc, hh⟩ := State.contextFault_within (s := s.concluded x) he hlimit
    have hacts := (s.concluded_acts x u).trans (State.contextFault_acts _)
    have hdone := hacts.concludes hlaw
    have hidle := hacts.idle (hlaw.lacks he (by rw [hst]; decide)) hu (by simp [hst])
    exact ⟨hdone.frame, hdone.spares, hdone.ctxs.trans hc, (hdone.unit_eq hidle).trans hu,
      hdone.hands hidle hu rfl (fun h => by cases h) ((s.concluded_acts x u).hands hh)⟩

end Sys2Proof.Machine

/-! Acknowledged exchanges: RESTART, JOIN and VERIFY_REQ (R105, R117, R118, R124, R148). -/

namespace Sys2Proof.Machine

/-! ### Members of the active record -/

section
variable {s : State} {r : StreamRecord} {m : Member}

theorem State.activeUnits_eq (hr : s.rsch.active = some r) : s.activeUnits = r.members.map (·.unit) := by
  simp [State.activeUnits, hr]

/-- A unit is a member of the active record once (R112). -/
theorem State.MembershipLaw.member_eq (h : s.MembershipLaw) (hr : s.rsch.active = some r) {m' : Member} (hm : m ∈ r.members)
    (hm' : m' ∈ r.members) (hu : m'.unit = m.unit) : m' = m := by
  have hnd : (r.members.map (·.unit)).Nodup := State.activeUnits_eq hr ▸ (List.nodup_append.1 h.1).1
  exact List.inj_on_of_nodup_map hnd hm' hm hu

/-- A member of the active record is a member of no suspended one (R112). -/
theorem State.MembershipLaw.not_suspended (h : s.MembershipLaw) (hr : s.rsch.active = some r) (hm : m ∈ r.members) :
    ∀ q ∈ s.rsch.stack, ∀ m' ∈ q.members, m'.unit ≠ m.unit := by
  intro q hq m' hm' hu
  have ha : m.unit ∈ s.activeUnits := by rw [State.activeUnits_eq hr]; exact List.mem_map_of_mem hm
  have hs : m.unit ∈ s.suspendedUnits :=
    List.mem_map.2 ⟨m', List.mem_flatMap.2 ⟨q, hq, hm'⟩, hu⟩
  exact (List.nodup_append.1 h.1).2.2 _ ha _ hs rfl

/-- A unit in SUSPENDED is no member of the active record (R112). -/
theorem State.MembershipLaw.not_has (h : s.MembershipLaw) (hr : s.rsch.active = some r) {u : UnitIx} {e : UnitEntry}
    (he : s.unit u = some e) (hst : e.state ≠ .stream) : r.has u = false := by
  by_contra hh
  obtain ⟨m, hm, hmu⟩ := (r.has_iff u).1 (by simpa using hh)
  have ha : u ∈ s.activeUnits := by rw [State.activeUnits_eq hr]; exact List.mem_map.2 ⟨m, hm, hmu⟩
  obtain ⟨d, hd, hds⟩ := (h.2.1 u).1 ha
  obtain rfl := Option.some.inj (he.symm.trans hd)
  exact hst hds

end

/-! ### Entry to VERIFY (R124, R148) -/

/-- The entry of a member that completes. -/
def UnitEntry.toVerify (e : UnitEntry) : UnitEntry :=
  { e.goto .verify with verify := some { phase := .requesting, pollDue := none, polls := 0, lastCrc := none } }

theorem UnitEntry.toVerify_toVerify (e : UnitEntry) : e.toVerify.toVerify = e.toVerify := by
  simp [UnitEntry.toVerify, UnitEntry.goto]

theorem State.unit_enterVerify (s : State) (u v : UnitIx) :
    (s.enterVerify u).unit v = if u = v then (s.unit v).map UnitEntry.toVerify else s.unit v :=
  s.unit_move u v .verify _

theorem State.unit_foldl_enterVerify (l : List Member) (s : State) (v : UnitIx) :
    (l.foldl (fun s m => s.enterVerify m.unit) s).unit v =
      if ∃ m ∈ l, m.unit = v then (s.unit v).map UnitEntry.toVerify else s.unit v := by
  induction l generalizing s with
  | nil => simp
  | cons m l ih =>
    rw [List.foldl_cons, ih, State.unit_enterVerify]
    by_cases hm : m.unit = v
    · have hex : ∃ n ∈ m :: l, n.unit = v := ⟨m, by simp, hm⟩
      rw [if_pos hm, if_pos hex]
      split
      · rw [Option.map_map]
        exact Option.map_congr fun e _ => e.toVerify_toVerify
      · rfl
    · simp [hm]

theorem State.unit_foldl_handVerify (l : List UnitIx) (s : State) (v : UnitIx) :
    (l.foldl State.handVerify s).unit v = s.unit v := by
  induction l generalizing s with
  | nil => rfl
  | cons u l ih => exact (ih _).trans (s.unit_hand u v _)

/-- A verify request handed with others in one event is held by its unit's link, where that runs (R82, R148). -/
theorem State.holds_foldl_handVerify {u : UnitIx} {e : UnitEntry} (l : List UnitIx) (hu : u ∈ l) (s : State)
    (he : s.unit u = some e) (hh : (perGet s.links e.decl.seg).halted = false) :
    (perGet (l.foldl State.handVerify s).links e.decl.seg).Holds (.verifyRequest u) := by
  have keeps (l : List UnitIx) (hl : u ∉ l) (s : State) (h : (perGet s.links e.decl.seg).Holds (.verifyRequest u)) :
      (perGet (l.foldl State.handVerify s).links e.decl.seg).Holds (.verifyRequest u) := by
    induction l generalizing s with
    | nil => exact h
    | cons v l ih =>
      refine ih (fun hm => hl (by simp [hm])) _ ?_
      exact (s.hand_keepsExchanges (v := u) (.verifyRequest v) rfl (fun hv => hl (by simp [hv])) _ _ rfl).2 h
  induction l generalizing s with
  | nil => cases hu
  | cons v l ih =>
    by_cases hl : u ∈ l
    · refine ih hl _ ((s.unit_hand v u _).trans he) ?_
      rw [State.handVerify, ((s.hand_works v _).links _).1]
      exact hh
    · obtain rfl : u = v := (List.mem_cons.1 hu).resolve_right hl
      exact keeps l hl _ (State.hands_hand he (.verifyRequest u) hh)

section
variable {s : State} {r : StreamRecord}

/-- The completion check takes the completing members' units to VERIFY and leaves every other unit as it is (R124). -/
theorem State.unit_complete (hr : s.rsch.active = some r) (v : UnitIx) :
    s.complete.unit v =
      if ∃ m ∈ r.members, s.completes m = true ∧ m.unit = v then (s.unit v).map UnitEntry.toVerify else s.unit v := by
  simp only [State.complete, hr]
  rw [State.unit_foldl_handVerify, State.unit_foldl_enterVerify]
  refine if_congr ?_ rfl rfl
  simp [and_assoc]

theorem State.holds_complete {u : UnitIx} {e : UnitEntry} {m : Member} (hr : s.rsch.active = some r) (hm : m ∈ r.members)
    (hc : s.completes m = true) (hu : m.unit = u) (he : s.unit u = some e) :
    s.Hands s.complete e.decl.seg (.verifyRequest u) := by
  intro hh
  simp only [State.complete, hr]
  have hmem : m ∈ r.members.filter s.completes := List.mem_filter.2 ⟨hm, hc⟩
  generalize hq : ({ s with
    rsch := { s.rsch with active := some { r with members := r.members.filter fun m => !s.completes m } } } : State) = q
  have hunit : (List.foldl (fun s (m : Member) => s.enterVerify m.unit) q (r.members.filter s.completes)).unit u =
      some e.toVerify := by
    rw [State.unit_foldl_enterVerify, if_pos ⟨m, hmem, hu⟩, show q.unit u = some e by rw [← hq]; exact he, Option.map_some]
  have hlinks (l : List Member) (t : State) : (l.foldl (fun s (m : Member) => s.enterVerify m.unit) t).links = t.links := by
    induction l generalizing t with
    | nil => rfl
    | cons n l ih => exact ih (t.enterVerify n.unit)
  refine State.holds_foldl_handVerify (e := e.toVerify) _ ?_ _ hunit ?_
  · rw [mem_unitsWhere, List.any_eq_true]
    exact ⟨m, hmem, by simp [hu]⟩
  · rw [hlinks, ← hq]
    exact hh

end

/-! ### The active record at the end of a command -/

section
variable {s : State} {r : StreamRecord}

/-- While the active record has a member or a window in flight, the scheduler's own work changes its size and begins a window
at most. -/
theorem State.settled_active (hr : s.rsch.active = some r) (h : r.members ≠ [] ∨ r.window ≠ none) :
    ∃ w window, s.settled.rsch.active = some { r with w := w, window := window } := by
  have ha : s.refreshWidths.rsch.active = some { r with w := s.width r } := by simp [State.refreshWidths, hr]
  rw [State.settled, (State.reportDemand_same _).2.2.2.1, State.settleStreams_of_active hr h]
  unfold State.beginWindow
  rw [ha]
  simp only
  split
  · exact ⟨_, _, rfl⟩
  · exact ⟨_, _, ha⟩

/-- A window begins where none is in flight and a joined member owes blocks (R122). -/
theorem State.settled_begins (hr : s.rsch.active = some r) (hw : r.window = none) (hs : s.seng = none) {m : Member}
    (hm : m ∈ r.members) (howed : m.owed ≠ []) {e : UnitEntry} (he : s.unit m.unit = some e) (hj : e.joined = true) :
    ∃ w, s.settled.seng = some w ∧ w.slot = r.slot ∧ w.start = r.cursor ∧ w.phase = .reading ∧
      { unit := m.unit, seg := e.decl.seg, answer := .pending } ∈ w.participants ∧
      ∃ size, s.settled.rsch.active = some { r with w := size, window := some (w.start, w.count) } := by
  have ha : s.refreshWidths.rsch.active = some { r with w := s.width r } := by simp [State.refreshWidths, hr]
  have hne : r.members ≠ [] ∨ r.window ≠ none := .inl (List.ne_nil_of_mem hm)
  have hmem : ({ unit := m.unit, seg := e.decl.seg, answer := .pending } : Participant) ∈
      r.members.filterMap fun m => (s.refreshWidths.unit m.unit).bind fun e =>
        if e.joined then some { unit := m.unit, seg := e.decl.seg, answer := PartAnswer.pending : Participant } else none := by
    refine List.mem_filterMap.2 ⟨m, hm, ?_⟩
    rw [show s.refreshWidths.unit m.unit = some e from he, Option.bind_some, if_pos hj]
  obtain ⟨-, -, -, hrs, hse⟩ := (State.beginWindow s.refreshWidths).reportDemand_same
  rw [State.settled, State.settleStreams_of_active hr hne, hrs, hse]
  generalize hj : (r.members.filterMap fun m => (s.refreshWidths.unit m.unit).bind fun e =>
    if e.joined then some { unit := m.unit, seg := e.decl.seg, answer := PartAnswer.pending : Participant } else none) =
    joined at hmem
  have hany : r.members.any (fun m => !m.owed.isEmpty) = true := List.any_eq_true.2 ⟨m, hm, by simpa using howed⟩
  have hseng : s.refreshWidths.seng = none := hs
  have hcond : (r.window.isNone && s.refreshWidths.seng.isNone && !joined.isEmpty &&
      r.members.any fun m => !m.owed.isEmpty) = true := by
    rw [hw, hseng, hany]
    simpa using List.ne_nil_of_mem hmem
  unfold State.beginWindow
  rw [ha]
  simp only [hj, if_pos hcond]
  exact ⟨_, rfl, rfl, rfl, rfl, hmem, _, rfl⟩

end

/-! ### The JOIN's acknowledgement (R118, R124) -/

/-- The JOIN acknowledged: the unit is joined. -/
def State.nowJoined (s : State) (u : UnitIx) : State :=
  s.modUnit u fun e => { e with joined := true }

section
variable {s : State} {u : UnitIx} {e : UnitEntry} {keep : Bool}

theorem State.unit_nowJoined (he : s.unit u = some e) : (s.nowJoined u).unit u = some { e with joined := true } := by
  rw [State.nowJoined, State.unit_modUnit, if_pos rfl, he, Option.map_some]

theorem State.joinOutcome_acked (he : s.unit u = some e) (hst : e.state = .stream ∨ e.state = .suspended) :
    s.joinOutcome u keep true =
      if s.rsch.active.any (fun r => r.has u && r.window.isNone) then (s.nowJoined u).complete else s.nowJoined u := by
  have hno : ¬(e.state ≠ .stream ∧ e.state ≠ .suspended) := by
    rintro ⟨h1, h2⟩
    exact hst.elim h1 h2
  simp only [State.joinOutcome, he, if_neg hno, if_true]
  rfl

theorem State.joinOutcome_idle (he : s.unit u = some e) (hst : e.state = .stream ∨ e.state = .suspended) {r : StreamRecord}
    (hr : s.rsch.active = some r) (h : r.has u = false ∨ r.window ≠ none) :
    s.joinOutcome u keep true = s.nowJoined u := by
  rw [State.joinOutcome_acked he hst, hr, Option.any_some, if_neg]
  rcases h with h | h
  · simp [h]
  · simp [h]

theorem State.joinOutcome_checked (he : s.unit u = some e) (hst : e.state = .stream ∨ e.state = .suspended) {r : StreamRecord}
    (hr : s.rsch.active = some r) (h : r.has u = true) (hw : r.window = none) :
    s.joinOutcome u keep true = (s.nowJoined u).complete := by
  rw [State.joinOutcome_acked he hst, hr, Option.any_some, if_pos (by simp [h, hw])]

theorem State.restartOutcome_acked {cause : RestartCause} {p : Nat} (he : s.unit u = some e) (hst : e.state = .probe)
    (hp : e.probe = some ⟨.restarting cause, p⟩) :
    s.restartOutcome u true = (s.modUnit u fun e => { e with running := none }).enterWait u 0 none := by
  simp only [State.restartOutcome, State.probing?, he, Option.bind_some, hst, if_true, hp]

theorem State.verifyRequestOutcome_acked {v : VerifyRecord} (he : s.unit u = some e) (hst : e.state = .verify)
    (hv : e.verify = some v) (hphase : v.phase = .requesting) :
    s.verifyRequestOutcome u true =
      s.setVerify u
        { v with
          phase := .polling (s.tick + BitVec.ofNat 32 s.timing.verify), pollDue := s.nextPollDue, polls := 0 } := by
  simp only [State.verifyRequestOutcome, State.verifying?_eq he hst hv, hphase, ne_eq, not_true_eq_false, if_false, if_true]

end

/-! ### The completion check at the JOIN's acknowledgement (R124) -/

section
variable {s : State} {u : UnitIx} {e : UnitEntry} {r : StreamRecord} {m : Member}

/-- A member that owes blocks stays. -/
theorem State.complete_nowJoined_owing (hlaw : s.MembershipLaw) (he : s.unit u = some e) (hr : s.rsch.active = some r)
    (hm : m ∈ r.members) (hu : m.unit = u) (howed : m.owed ≠ []) :
    (s.nowJoined u).complete.unit u = some { e with joined := true } ∧
      ∃ r', (s.nowJoined u).complete.rsch.active = some r' ∧ r'.slot = r.slot ∧ r'.cursor = r.cursor ∧
        r'.window = r.window ∧ m ∈ r'.members := by
  have hr' : (s.nowJoined u).rsch.active = some r := hr
  have hnot : (s.nowJoined u).completes m = false := by
    have : m.owed.isEmpty = false := by simpa using howed
    rw [State.completes, this, Bool.false_and]
  constructor
  · rw [State.unit_complete hr', if_neg, State.unit_nowJoined he]
    rintro ⟨m', hm', hc, hu'⟩
    obtain rfl := hlaw.member_eq hr hm hm' (hu'.trans hu.symm)
    rw [hnot] at hc
    cases hc
  · rw [(State.complete_records _).2, hr', Option.map_some]
    exact ⟨_, rfl, rfl, rfl, rfl, List.mem_filter.2 ⟨hm, by rw [hnot]; rfl⟩⟩

/-- A member that owes none leaves for VERIFY, and its verify request is handed. -/
theorem State.complete_nowJoined_done (hlaw : s.MembershipLaw) (he : s.unit u = some e) (hr : s.rsch.active = some r)
    (hm : m ∈ r.members) (hu : m.unit = u) (howed : m.owed = []) :
    (s.nowJoined u).complete.unit u = some { e with joined := true }.toVerify ∧ (s.nowJoined u).complete.rsch.Lacks u ∧
      s.Hands (s.nowJoined u).complete e.decl.seg (.verifyRequest u) := by
  have hr' : (s.nowJoined u).rsch.active = some r := hr
  have hj := State.unit_nowJoined he
  have hc : (s.nowJoined u).completes m = true := by
    rw [State.completes, howed, hu, hj]
    rfl
  obtain ⟨hstack, hactive⟩ := (s.nowJoined u).complete_records
  refine ⟨?_, ⟨fun q hq m' hm' hu' => ?_, fun q hq m' hm' => ?_⟩, State.holds_complete (e := { e with joined := true }) hr' hm hc hu hj⟩
  · rw [State.unit_complete hr', if_pos ⟨m, hm, hc, hu⟩, hj, Option.map_some]
  · rw [hactive, hr', Option.map_some] at hq
    obtain rfl := Option.some.inj hq
    obtain ⟨hm'', hno⟩ := List.mem_filter.1 hm'
    obtain rfl := hlaw.member_eq hr hm hm'' (hu'.trans hu.symm)
    rw [hc] at hno
    cases hno
  · rw [hstack] at hq
    exact hu ▸ hlaw.not_suspended hr hm q hq m' hm'

end

/-- The unit's own work with its record may have a completion check after it. -/
theorem State.Passes.of_nowJoined {s : State} {u v : UnitIx} (hv : u ≠ v) :
    s.Passes (s.nowJoined u) v ∧ s.Passes (s.nowJoined u).complete v :=
  ⟨s.modUnit_passes _ hv, (s.modUnit_passes _ hv).trans (State.complete_passes _)⟩

/-! ### The member list of the active record gets a unit that waits (R117) -/

section
variable {s : State} {u : UnitIx} {e : UnitEntry} {r : StreamRecord}

/-- The active record with a unit appended (R117, R119). -/
def StreamRecord.admitting (r : StreamRecord) (u : UnitIx) (e : UnitEntry) (keep : Bool) : StreamRecord :=
  if r.window.isNone then (r.enrol u e keep).place r.cursor else r.enrol u e keep

theorem StreamRecord.admitting_slot (r : StreamRecord) (u : UnitIx) (e : UnitEntry) (keep : Bool) :
    (r.admitting u e keep).slot = r.slot ∧ (r.admitting u e keep).members = (r.enrol u e keep).members := by
  unfold StreamRecord.admitting
  split <;> exact ⟨rfl, rfl⟩

/-- A unit in WAIT whose slot is the active record's joins that record (R117). -/
theorem State.enlist_active {i : SlotInfo} (he : s.unit u = some e) (hst : e.state = .wait)
    (hi : (s.slot e.decl.slot).valid? = some i) (hx : s.usable e.decl.seg = true) (hr : s.rsch.active = some r)
    (hslot : r.slot = e.decl.slot) :
    s.enlist u =
      ({ s with rsch := { s.rsch with active := some (r.admitting u e (e.keeps i)) } } : State).move u .stream fun e =>
        { e with firstWindow := true, joined := false } := by
  have hno : ¬(e.state ≠ .wait ∨ (!s.usable e.decl.seg) = true) := by simp [hst, hx]
  have hin : (s.rsch.active.any fun r => r.slot == e.decl.slot) = true := by simp [hr, hslot]
  unfold State.enlist
  simp only [he]
  rw [hi]
  simp only [if_neg hno, if_pos hin]
  rw [hr]
  rfl

/-- A unit with nothing held that enters WAIT joins the active record of its slot: it owes every block, is in STREAM and is
handed its JOIN, DISCARD (R117, R118). -/
theorem State.enterWait_joins (he : s.unit u = some e) (hr : s.rsch.active = some r) (hslot : r.slot = e.decl.slot)
    (hvalid : (s.slot e.decl.slot).valid?.isSome = true) (hx : s.usable e.decl.seg = true) :
    (∃ e', (s.enterWait u 0 none).unit u = some e' ∧ e'.decl = e.decl ∧ e'.state = .stream ∧ e'.firstWindow = true ∧
        e'.joined = false) ∧
      s.Hands (s.enterWait u 0 none) e.decl.seg (.join u false) ∧
      ∃ r', (s.enterWait u 0 none).rsch.active = some r' ∧ r'.slot = r.slot ∧
        r'.members = r.members ++ [{ unit := u, owed := List.range r.len }] := by
  obtain ⟨i, hi⟩ := Option.isSome_iff_exists.1 hvalid
  have hm := State.unit_movedToWait he 0 none
  have hlist := State.enlist_active (i := i) hm rfl hi hx hr hslot
  have hkeep : ({ e.goto .wait with heldCount := 0, heldVersion := none } : UnitEntry).keeps i = false := rfl
  rw [hkeep] at hlist
  obtain ⟨hs, hmem⟩ := r.admitting_slot u { e.goto .wait with heldCount := 0, heldVersion := none } false
  generalize hq : (s.move u .wait fun e => { e with heldCount := 0, heldVersion := none }).enlist u = q at hlist
  have hunit : q.unit u = some
      { ({ e.goto .wait with heldCount := 0, heldVersion := none } : UnitEntry).goto .stream with
        firstWindow := true, joined := false } := by
    rw [hlist, State.unit_move, if_pos rfl]
    exact congrArg (Option.map _) hm
  have hwait : s.enterWait u 0 none = q.hand u (.join u false) := by
    rw [State.enterWait, State.join, hq, State.handJoin, hunit]
    have hslotq : (q.slot e.decl.slot).valid? = some i := by rw [hlist]; exact hi
    simp only [UnitEntry.goto, true_or, if_true, hslotq, Option.any_some]
    rfl
  have hhalted (x : Seg) : (perGet q.links x).halted = (perGet s.links x).halted := by rw [hlist]; rfl
  rw [hwait]
  refine ⟨⟨_, (q.unit_hand u u _).trans hunit, rfl, rfl, rfl, rfl⟩,
    fun hh => State.hands_hand hunit (.join u false) ((hhalted _).trans hh), _,
    (congrArg Scheduler.active (q.rsch_hand u _)).trans (by rw [hlist]; rfl), hs, hmem.trans ?_⟩
  have hall : blocksFrom 0 r.len = List.range r.len := by simp [blocksFrom]
  rw [← hall]
  rfl

end

/-- The exchanges that the links hold for a unit stand while the active record stays at work. -/
theorem State.Concludes.hands_at_work {u : UnitIx} {s q t : State} (h : State.Concludes u s q t) {r : StreamRecord}
    (hr : q.rsch.active = some r) (hm : r.members ≠ [] ∨ r.window ≠ none) {e : UnitEntry} (he : q.unit u = some e)
    {ex : Exchange} (hex : ex.unit? = some u) (hn : ex.namesImage = true → (q.slot e.decl.slot).info? ≠ none) {x : Seg}
    (hh : s.Hands q x ex) : s.Hands t x ex := by
  intro hx
  have hidles := State.settled_of_active hr hm
  rw [h.ended.links x, hidles.links]
  refine Link.holds_arbitrate (hh hx) (State.framesOf_ne_nil (e := e) hex ?_ ?_)
  · rw [State.unit, hidles.units]
    exact he
  · rwa [hidles.works.slot]

theorem State.Concludes.unit_at_work {u : UnitIx} {s q t : State} (h : State.Concludes u s q t) {r : StreamRecord}
    (hr : q.rsch.active = some r) (hm : r.members ≠ [] ∨ r.window ≠ none) (v : UnitIx) : t.unit v = q.unit v := by
  rw [h.ended.unit_eq, State.unit, (State.settled_of_active hr hm).units]
  rfl

theorem State.Concludes.active {u : UnitIx} {s q t : State} (h : State.Concludes u s q t) :
    t.rsch = q.settled.rsch ∧ t.seng = q.settled.seng := by
  rw [h.ended.same]
  exact ⟨rfl, rfl⟩

theorem State.setVerify_acts {u : UnitIx} (s : State) (v : VerifyRecord) : State.Acts u s (s.setVerify u v) :=
  s.modUnit_acts _

theorem Slot.info?_of_valid {v : Slot} (h : v.valid?.isSome = true) : v.info? ≠ none := by
  cases v <;> simp_all [Slot.valid?, Slot.info?]

/-- Settles O35: the ACK of a RESTART, of a JOIN in its three cases, and of a VERIFY_REQ. -/
theorem acknowledgementsMoveTheRestoreOn : Obligations.AcknowledgementsMoveTheRestoreOn := by
  intro s x u e t0 n f hp hr hlaw hf hphase hcalls hcut hmark he acked
  have hexec (hw : f.exchange.isWindow = false) (hs : f.exchange.isSequence = false) :=
    exec_unitAnswer (b := .ack) (State.running_eq_true hp hr) hf hphase hcalls hcut hmark hw hs
  have ends {q : State} {good : State → Prop}
      (hexec : exec (.segmentAnswer x ⟨f.frame.dest, f.seq, .ack⟩) s = .next q.settled.finish)
      (hframe : s.RestoreFrame q) (hpass : ∀ v, u ≠ v → s.Passes q v) (hc : q.ctxs = s.ctxs)
      (hg : State.Concludes u s q q.settled.finish → good q.settled.finish) : acked good := by
    have hdone := State.concludes hframe hpass hlaw
    exact ⟨_, hexec, hdone.frame, hdone.spares, hdone.ended.permits, hdone.ended.alert, hdone.ctxs.trans hc, hg hdone⟩
  refine ⟨fun cause p hex hst hprobe => ?_, fun keep r m hex hst hr hm hu => ⟨fun h => ?_, fun howed hwin => ?_⟩,
    fun keep r hex hst hr hm => ?_, fun v hex hst hv hphase => ?_⟩
  · have hexec := hexec (by rw [hex]; rfl) (by rw [hex]; rfl)
    have hout : (s.concluded x).unitOutcome f.exchange (some .ack) =
        ((s.concluded x).modUnit u fun e => { e with running := none }).enterWait u 0 none := by
      rw [hex]
      exact State.restartOutcome_acked (s := s.concluded x) he hst hprobe
    rw [hout] at hexec
    have hacts := (s.concluded_acts x u).trans (State.modUnit_acts (s.concluded x) fun e => { e with running := none })
    have hunit : ((s.concluded x).modUnit u fun e => { e with running := none }).unit u = some { e with running := none } := by
      rw [State.unit_modUnit, if_pos rfl, show (s.concluded x).unit u = some e from he, Option.map_some]
    have hsame : ((s.concluded x).modUnit u fun e => { e with running := none }).rsch = s.rsch := rfl
    have hctxs : ((s.concluded x).modUnit u fun e => { e with running := none }).ctxs = s.ctxs := rfl
    generalize (s.concluded x).modUnit u (fun e => { e with running := none }) = q at hexec hacts hunit hsame hctxs
    refine ends hexec (hacts.frame.trans (q.enterWait_frame _ _ _))
      (fun v hv => (hacts.passes v hv).trans ((q.move_passes _ _ hv).trans (State.join_passes _ u)))
      ((q.ctxs_enterWait _ _ _).trans hctxs) fun hdone => ⟨?_, fun r hr hslot hvalid hx => ?_⟩
    · obtain ⟨d, hd, hs⟩ := State.enterWait_scheduled hunit 0 none
      obtain ⟨e', he', hs'⟩ := hdone.scheduled hd
      have hsch := hs.trans hs'
      refine ⟨e', he', hsch.decl, hsch.heldCount, hsch.heldVersion, hsch.running, hsch.retry, hsch.probe rfl, fun hnone => ?_⟩
      have hlacks : q.rsch.Lacks u := hsame ▸ hlaw.lacks he (by rw [hst]; decide)
      have hnone' : (q.slot e.decl.slot).valid? = none := by rw [hacts.frame.slot]; exact hnone
      have hwait := State.unit_movedToWait hunit 0 none
      rw [State.enterWait_of_not_valid hunit hlacks hnone'] at he' hdone
      have hidle : (q.move u .wait fun e => { e with heldCount := 0, heldVersion := none }).Idle u :=
        ⟨hlacks, fun c hc _ => Option.some.inj (hwait.symm.trans hc) ▸ hnone'⟩
      have := Option.some.inj (he'.symm.trans ((hdone.unit_eq hidle).trans hwait))
      rw [this]
      rfl
    · have hvalid' : (q.slot e.decl.slot).valid?.isSome = true := by rw [hacts.frame.slot]; exact hvalid
      obtain ⟨⟨d, hd, hdd, hdst, hfirst, hjoined⟩, hhands, r', hr', hs', hmem⟩ :=
        State.enterWait_joins hunit (hsame ▸ hr) hslot hvalid' ((hacts.frame.usable _).trans hx)
      have hne : r'.members ≠ [] ∨ r'.window ≠ none := .inl (by rw [hmem]; simp)
      obtain ⟨w, window, hend⟩ := State.settled_active hr' hne
      refine ⟨hdone.hands_at_work hr' hne hd rfl (fun _ => ?_) (hacts.hands hhands),
        ⟨d, (hdone.unit_at_work hr' hne u).trans hd, hdst, hfirst, hjoined⟩, _,
        (congrArg Scheduler.active hdone.active.1).trans hend, hs', hmem⟩
      rw [hdd, (hacts.frame.trans (q.enterWait_frame _ _ _)).slot]
      exact Slot.info?_of_valid hvalid
  · have hexec := hexec (by rw [hex]; rfl) (by rw [hex]; rfl)
    have hhas : r.has u = true := (r.has_iff u).2 ⟨m, hm, hu⟩
    have hjoined := State.unit_nowJoined (s := s.concluded x) he
    by_cases hw : r.window = none
    · have hout : (s.concluded x).unitOutcome f.exchange (some .ack) = ((s.concluded x).nowJoined u).complete := by
        rw [hex]
        exact State.joinOutcome_checked (s := s.concluded x) he (.inl hst) hr hhas hw
      rw [hout] at hexec
      have howed : m.owed ≠ [] := h.resolve_right (by simp [hw])
      obtain ⟨hunit, r', hr', hslot, hcursor, hwindow, hm'⟩ :=
        State.complete_nowJoined_owing (s := s.concluded x) hlaw he hr hm hu howed
      refine ends hexec (State.complete_frame _) (fun v hv => (State.Passes.of_nowJoined (s := s.concluded x) hv).2)
        (State.complete_keepsUnits _).ctxs fun hdone => ?_
      refine ⟨(hdone.unit_at_work hr' (.inl (List.ne_nil_of_mem hm')) u).trans hunit, fun _ hseng => ?_⟩
      obtain ⟨w, hw', hws, hwc, hwp, hmem, -⟩ := State.settled_begins hr' (hwindow.trans hw)
        ((State.seng_complete _).trans hseng) hm' howed (hu.symm ▸ hunit : _ = some { e with joined := true }) rfl
      exact ⟨w, hdone.active.2.trans hw', hws.trans hslot, hwc.trans hcursor, hwp, by rw [← hu]; exact hmem⟩
    · have hout : (s.concluded x).unitOutcome f.exchange (some .ack) = (s.concluded x).nowJoined u := by
        rw [hex]
        exact State.joinOutcome_idle (s := s.concluded x) he (.inl hst) hr (.inr hw)
      rw [hout] at hexec
      refine ends hexec rfl (fun v hv => (State.Passes.of_nowJoined (s := s.concluded x) hv).1) rfl fun hdone => ?_
      exact ⟨(hdone.unit_at_work hr (.inr hw) u).trans hjoined, fun h => absurd h hw⟩
  · have hexec := hexec (by rw [hex]; rfl) (by rw [hex]; rfl)
    have hhas : r.has u = true := (r.has_iff u).2 ⟨m, hm, hu⟩
    have hout : (s.concluded x).unitOutcome f.exchange (some .ack) = ((s.concluded x).nowJoined u).complete := by
      rw [hex]
      exact State.joinOutcome_checked (s := s.concluded x) he (.inl hst) hr hhas hwin
    rw [hout] at hexec
    obtain ⟨hunit, hlacks, hhands⟩ := State.complete_nowJoined_done (s := s.concluded x) hlaw he hr hm hu howed
    refine ends hexec (State.complete_frame _) (fun v hv => (State.Passes.of_nowJoined (s := s.concluded x) hv).2)
      (State.complete_keepsUnits _).ctxs fun hdone => ?_
    have hidle : ((s.concluded x).nowJoined u).complete.Idle u :=
      ⟨hlacks, fun d hd hw => by rw [← Option.some.inj (hunit.symm.trans hd)] at hw; cases hw⟩
    refine ⟨fun hslot => hdone.hands hidle hunit rfl (fun _ => ?_) ((s.concluded_acts x u).hands hhands), _,
      (hdone.unit_eq hidle).trans hunit, rfl, rfl, rfl, Bool.and_false _, rfl, rfl⟩
    rw [(State.complete_frame _).slot]
    exact hslot
  · have hexec := hexec (by rw [hex]; rfl) (by rw [hex]; rfl)
    have hhas := hlaw.not_has hr he (by rw [hst]; decide)
    have hout : (s.concluded x).unitOutcome f.exchange (some .ack) = (s.concluded x).nowJoined u := by
      rw [hex]
      exact State.joinOutcome_idle (s := s.concluded x) he (.inr hst) hr (.inl hhas)
    rw [hout] at hexec
    refine ends hexec rfl (fun v hv => (State.Passes.of_nowJoined (s := s.concluded x) hv).1) rfl fun hdone => ?_
    exact (hdone.unit_at_work hr hm u).trans (State.unit_nowJoined (s := s.concluded x) he)
  · have hexec := hexec (by rw [hex]; rfl) (by rw [hex]; rfl)
    have hout : (s.concluded x).unitOutcome f.exchange (some .ack) = (s.concluded x).setVerify u
        { v with
          phase := .polling (s.tick + BitVec.ofNat 32 s.timing.verify), pollDue := some (s.tick + 5), polls := 0 } := by
      rw [hex]
      exact State.verifyRequestOutcome_acked (s := s.concluded x) he hst hv hphase
    rw [hout] at hexec
    have hacts := (s.concluded_acts x u).trans (State.setVerify_acts (s.concluded x)
      { v with phase := .polling (s.tick + BitVec.ofNat 32 s.timing.verify), pollDue := some (s.tick + 5), polls := 0 })
    refine ends hexec hacts.frame hacts.passes rfl fun hdone => ?_
    have hunit := State.unit_setVerify (s := s.concluded x) (v := { v with
          phase := .polling (s.tick + BitVec.ofNat 32 s.timing.verify), pollDue := some (s.tick + 5), polls := 0 }) he
    exact (hdone.unit_eq (hacts.idle (hlaw.lacks he (by rw [hst]; decide)) hunit (by simp [hst]))).trans hunit

end Sys2Proof.Machine

/-! The end of a window part: the readings and the boundary work, seen from one member of the active record (R121 to R128, R142,
R145). -/

namespace Sys2Proof.Machine

/-! ### The placed cursor (R121) -/

/-- A cursor placed where some member owes a block stands on an owed block: the smallest at or above the position, if there is
one, else the smallest. -/
theorem StreamRecord.place_spec {r : StreamRecord} {b0 : Nat} (h0 : r.Owes b0) (p : Nat) :
    r.Owes (r.place p).cursor ∧
      ∀ b, r.Owes b → (p ≤ b → p ≤ (r.place p).cursor ∧ (r.place p).cursor ≤ b) ∧
        ((r.place p).cursor < p → (r.place p).cursor ≤ b) := by
  classical
  by_cases h : ∃ b, r.Owes b ∧ p ≤ b
  · obtain ⟨hb, hp⟩ := Nat.find_spec h
    have hmin (c : Nat) (hc : r.Owes c) (hpc : p ≤ c) : Nat.find h ≤ c := Nat.find_min' h ⟨hc, hpc⟩
    have hcur : (r.place p).cursor = Nat.find h := by
      rw [StreamRecord.place_cursor, StreamRecord.smallestFrom_eq_some hb hp hmin]
      rfl
    rw [hcur]
    exact ⟨hb, fun b hb' => ⟨fun hpb => ⟨hp, hmin b hb' hpb⟩, fun hlt => absurd hp (Nat.not_le.2 hlt)⟩⟩
  · have hlt (c : Nat) (hc : r.Owes c) : c < p := Nat.lt_of_not_le fun hpc => h ⟨c, hc, hpc⟩
    have hex : ∃ b, r.Owes b := ⟨b0, h0⟩
    have hmin (c : Nat) (hc : r.Owes c) : Nat.find hex ≤ c := Nat.find_min' hex hc
    have hcur : (r.place p).cursor = Nat.find hex := by
      rw [StreamRecord.place_cursor, StreamRecord.smallestFrom_eq_none hlt,
        StreamRecord.smallestFrom_eq_some (Nat.find_spec hex) (Nat.zero_le _) fun c hc _ => hmin c hc]
      rfl
    rw [hcur]
    exact ⟨Nat.find_spec hex, fun b hb => ⟨fun hpb => absurd hpb (Nat.not_le.2 (hlt b hb)), fun _ => hmin b hb⟩⟩

/-! ### What the readings of other units leave (R142, R145) -/

/-- From `s` to `t` units' answers have been read: unit `u` keeps its place in the active record, no unit begins to wait, and no
unit gets into a record. -/
structure State.Reads (u : UnitIx) (s t : State) : Prop where
  frame : s.RestoreFrame t
  ctxs : t.ctxs = s.ctxs
  seng : s.seng = none → t.seng = none
  halted : ∀ x, (perGet t.links x).halted = (perGet s.links x).halted
  waits : ∀ v d, t.unit v = some d → d.state = .wait → ∃ d', s.unit v = some d' ∧ d'.state = .wait ∧ d'.decl = d.decl
  active : ∀ r, s.rsch.active = some r → r.window ≠ none →
    ∃ ms, t.rsch.active = some { r with members := ms } ∧ ms.Sublist r.members ∧ ∀ m ∈ r.members, m.unit = u → m ∈ ms
  stack : ∀ q ∈ t.rsch.stack, ∃ q' ∈ s.rsch.stack, ∀ m ∈ q.members, m ∈ q'.members

/-- So they have been read of other units: unit `u` keeps its entry, too. -/
structure State.ReadsOthers (u : UnitIx) (s t : State) : Prop extends State.Reads u s t where
  unit : t.unit u = s.unit u

section
variable {u : UnitIx} {s t : State}

theorem State.Reads.refl (s : State) : State.Reads u s s :=
  ⟨rfl, rfl, id, fun _ => rfl, fun _ d hd hw => ⟨d, hd, hw, rfl⟩, fun r hr _ => ⟨r.members, hr, .refl _, fun _ h _ => h⟩,
    fun q hq => ⟨q, hq, fun _ h => h⟩⟩

theorem State.Reads.trans {r : State} (h : State.Reads u s t) (h' : State.Reads u t r) : State.Reads u s r where
  frame := h.frame.trans h'.frame
  ctxs := h'.ctxs.trans h.ctxs
  seng hs := h'.seng (h.seng hs)
  halted x := (h'.halted x).trans (h.halted x)
  waits v d hd hw := by
    obtain ⟨d', hd', hw', he'⟩ := h'.waits v d hd hw
    obtain ⟨d'', hd'', hw'', he''⟩ := h.waits v d' hd' hw'
    exact ⟨d'', hd'', hw'', he''.trans he'⟩
  active q hq hw := by
    obtain ⟨ms, hms, hsub, hin⟩ := h.active q hq hw
    obtain ⟨ms', hms', hsub', hin'⟩ := h'.active _ hms hw
    exact ⟨ms', hms', hsub'.trans hsub, fun m hm hu => hin' m (hin m hm hu) hu⟩
  stack q hq := by
    obtain ⟨q', hq', hm'⟩ := h'.stack q hq
    obtain ⟨q'', hq'', hm''⟩ := h.stack q' hq'
    exact ⟨q'', hq'', fun m hm => hm'' m (hm' m hm)⟩

theorem State.ReadsOthers.refl (s : State) : State.ReadsOthers u s s :=
  ⟨.refl s, rfl⟩

theorem State.ReadsOthers.trans {r : State} (h : State.ReadsOthers u s t) (h' : State.ReadsOthers u t r) :
    State.ReadsOthers u s r :=
  ⟨h.toReads.trans h'.toReads, h'.unit.trans h.unit⟩

/-- One unit's entry changes, and does not begin to wait. -/
theorem State.Reads.of_unit {v : UnitIx} {f : UnitEntry → UnitEntry} (hframe : s.RestoreFrame t)
    (hu : ∀ w, t.unit w = if v = w then (s.unit w).map f else s.unit w)
    (hf : ∀ e : UnitEntry, (f e).state = .wait → e.state = .wait ∧ e.decl = (f e).decl)
    (hc : t.ctxs = s.ctxs) (hs : t.seng = s.seng) (hl : t.links = s.links) (ha : t.rsch.active = s.rsch.active)
    (hst : t.rsch.stack = s.rsch.stack) : State.Reads u s t where
  frame := hframe
  ctxs := hc
  seng h := hs.trans h
  halted x := by rw [hl]
  waits w d hd hw := by
    rw [hu] at hd
    split at hd
    · obtain ⟨e, he, rfl⟩ := Option.map_eq_some_iff.1 hd
      obtain ⟨hw', hd'⟩ := hf e hw
      exact ⟨e, he, hw', hd'⟩
    · exact ⟨d, hd, hw, rfl⟩
  active r hr _ := ⟨r.members, by rw [ha]; exact hr, .refl _, fun _ h _ => h⟩
  stack q hq := ⟨q, by rwa [hst] at hq, fun _ h => h⟩

theorem State.modUnit_reads (s : State) (v : UnitIx) {f : UnitEntry → UnitEntry}
    (hf : ∀ e : UnitEntry, (f e).state = e.state ∧ (f e).decl = e.decl) : State.Reads u s (s.modUnit v f) :=
  .of_unit rfl (fun w => s.unit_modUnit v w f) (fun e h => ⟨(hf e).1 ▸ h, (hf e).2.symm⟩) rfl rfl rfl rfl rfl

theorem State.modUnit_readsOthers (s : State) {v : UnitIx} (hv : v ≠ u) {f : UnitEntry → UnitEntry}
    (hf : ∀ e : UnitEntry, (f e).state = e.state ∧ (f e).decl = e.decl) : State.ReadsOthers u s (s.modUnit v f) :=
  ⟨s.modUnit_reads v hf, by rw [State.unit_modUnit, if_neg hv]⟩

theorem State.move_readsOthers (s : State) {v : UnitIx} (hv : v ≠ u) {st : UnitState} {f : UnitEntry → UnitEntry}
    (hf : ∀ e : UnitEntry, (f e).state = e.state) (hst : st ≠ .wait) : State.ReadsOthers u s (s.move v st f) :=
  ⟨.of_unit rfl (fun w => s.unit_move v w st f) (fun _ h => absurd ((hf _).symm.trans h) hst) rfl rfl rfl rfl rfl,
    by rw [State.unit_move, if_neg hv]⟩

theorem State.setUnitFlag_readsOthers (s : State) {v : UnitIx} (hv : v ≠ u) (f : UnitFlag) :
    State.ReadsOthers u s (s.setUnitFlag v f) :=
  ⟨.of_unit (s.setUnitFlag_frame v f) (fun w => s.unit_setUnitFlag v w f) (fun _ h => ⟨h, rfl⟩) (State.ctxs_setUnitFlag _ _)
    (s.seng_setUnitFlag v f) (s.links_setUnitFlag v f).1 (by rw [s.rsch_setUnitFlag]) (by rw [s.rsch_setUnitFlag]),
    by rw [State.unit_setUnitFlag, if_neg hv]⟩

theorem State.withdraw_readsOthers (s : State) {v : UnitIx} (hv : v ≠ u) : State.ReadsOthers u s (s.withdraw v) where
  frame := s.withdraw_frame v
  unit := s.unit_withdraw v u
  ctxs := State.ctxs_withdraw s
  seng h := by rw [State.seng_withdraw, h]; rfl
  halted x := ((s.withdraw_works v).links x).1
  waits w d hd hw := ⟨d, (s.unit_withdraw v w) ▸ hd, hw, rfl⟩
  active r hr hw := by
    have hno : r.window.isNone = false := by simpa [Option.isSome_iff_ne_none] using hw
    refine ⟨(r.removeAll (· == v)).members, ?_, List.filter_sublist, fun m hm hu => List.mem_filter.2 ⟨hm, ?_⟩⟩
    · rw [State.rsch_withdraw, Scheduler.removeAll]
      simp only [hr, Option.map_some, StreamRecord.removeActive, hno, Bool.and_false, Bool.false_eq_true, if_false]
      rfl
    · simpa [hu] using hv.symm
  stack q hq := by
    rw [State.rsch_withdraw] at hq
    obtain ⟨q', hq', rfl⟩ := List.mem_map.1 (List.mem_filter.1 hq).1
    exact ⟨q', hq', fun m hm => (StreamRecord.mem_removeAll hm).1⟩

theorem State.toHeld_readsOthers (s : State) {v : UnitIx} (hv : v ≠ u) (k : Condition) : State.ReadsOthers u s (s.toHeld v k) := by
  refine (s.withdraw_readsOthers hv).trans (.trans ?_ (State.setUnitFlag_readsOthers _ hv .held))
  exact State.move_readsOthers _ hv (fun _ => rfl) (by decide)

theorem State.toFailed_readsOthers (s : State) {v : UnitIx} (hv : v ≠ u) : State.ReadsOthers u s (s.toFailed v) := by
  refine (s.withdraw_readsOthers hv).trans (.trans ?_ (State.setUnitFlag_readsOthers _ hv .failed))
  exact State.move_readsOthers _ hv (fun _ => rfl) (by decide)

theorem State.raise_readsOthers (s : State) {v : UnitIx} (hv : v ≠ u) (k : Condition) {f : State → State}
    (hf : ∀ s : State, State.ReadsOthers u s (f s)) : State.ReadsOthers u s (s.raise v k f) := by
  unfold State.raise
  simp only
  refine State.ReadsOthers.trans (t := s.setUnitFlag v (.condition k)) (State.setUnitFlag_readsOthers s hv (.condition k)) ?_
  split
  · exact State.toHeld_readsOthers _ hv k
  · exact hf _

theorem State.takeReading_readsOthers (s : State) {v : UnitIx} (hv : v ≠ u) (r : Reading) :
    State.ReadsOthers u s (s.takeReading v r) := by
  have hmod (s : State) (f : UnitEntry → UnitEntry) (hf : ∀ e : UnitEntry, (f e).state = e.state ∧ (f e).decl = e.decl) :
      State.ReadsOthers u s (s.modUnit v f) := s.modUnit_readsOthers hv hf
  have hfault (s : State) : State.ReadsOthers u s (s.fault v id) := by
    unfold State.fault
    simp only
    refine (hmod s (fun e => { e with retry := e.retry + 1 }) fun _ => ⟨rfl, rfl⟩).trans ?_
    split
    · exact State.raise_readsOthers _ hv _ fun s => s.toFailed_readsOthers hv
    · exact .refl _
  unfold State.takeReading
  simp only
  split
  · refine .trans ?_ (hfault _)
    exact hmod s _ fun _ => ⟨rfl, rfl⟩
  · exact hmod s _ fun _ => ⟨rfl, rfl⟩

theorem State.foldl_takeReading_readsOthers (l : List (UnitIx × Reading)) (hl : ∀ p ∈ l, p.1 ≠ u) (s : State) :
    State.ReadsOthers u s (l.foldl (fun s p => s.takeReading p.1 p.2) s) := by
  induction l generalizing s with
  | nil => exact .refl s
  | cons p l ih =>
    exact (s.takeReading_readsOthers (hl p (by simp)) p.2).trans (ih (fun q hq => hl q (by simp [hq])) _)

/-! ### The unit's own reading -/

/-- The entry after a reading that is no fault. -/
def UnitEntry.readAs (e : UnitEntry) (r : Reading) : UnitEntry :=
  { e with firstWindow := false, window := if r.single then 1 else e.window }

theorem State.takeReading_good {e : UnitEntry} (he : s.unit u = some e) {r : Reading} (hr : r.fault = false) :
    State.Reads u s (s.takeReading u r) ∧ (s.takeReading u r).unit u = some (e.readAs r) := by
  have h : s.takeReading u r = s.modUnit u (·.readAs r) := if_neg (by rw [hr]; decide)
  rw [h]
  exact ⟨s.modUnit_reads u fun _ => ⟨rfl, rfl⟩, by rw [State.unit_modUnit, if_pos rfl, he, Option.map_some]⟩

theorem State.takeReading_fault {e : UnitEntry} (he : s.unit u = some e) {r : Reading} (hr : r.fault = true)
    (hl : e.retry + 1 ≤ s.timing.retryLimit) :
    State.Reads u s (s.takeReading u r) ∧
      (s.takeReading u r).unit u = some { e.readAs r with retry := e.retry + 1 } := by
  have hm : (s.modUnit u (·.readAs r)).unit u = some (e.readAs r) := by
    rw [State.unit_modUnit, if_pos rfl, he, Option.map_some]
  have h : s.takeReading u r = (s.modUnit u (·.readAs r)).retried u := by
    have h : s.takeReading u r = (s.modUnit u (·.readAs r)).fault u id := if_pos hr
    rw [h, State.fault_within hm hl]
    rfl
  rw [h]
  refine ⟨.trans (t := s.modUnit u (·.readAs r)) (s.modUnit_reads u fun _ => ⟨rfl, rfl⟩) ?_, ?_⟩
  · exact State.modUnit_reads _ u fun _ => ⟨rfl, rfl⟩
  · rw [State.unit_retried, hm, Option.map_some]
    rfl

end

/-! ### The readings of a window -/

theorem map_fst_filterMap_sublist {α β γ : Type} {f : α → Option (β × γ)} {g : α → β}
    (h : ∀ a p, f a = some p → p.1 = g a) (l : List α) : ((l.filterMap f).map Prod.fst).Sublist (l.map g) := by
  induction l with
  | nil => simp
  | cons a l ih =>
    cases hf : f a with
    | none => simpa [hf] using ih.cons (g a)
    | some p => simpa [hf, h a p hf] using ih

/-- Each participant has one reading: the one of a participant whose answer was recorded stands among those of others. -/
theorem State.readings_split {s : State} {w : Window} {u : UnitIx} {e : UnitEntry} {x : Seg} {a : WindowAnswer}
    (he : s.unit u = some e) (hnd : (w.participants.map (·.unit)).Nodup)
    (hp : { unit := u, seg := x, answer := .answered a } ∈ w.participants) :
    ∃ pre post, s.readings w = pre ++ (u, readAnswer w.start w.count e.firstWindow (.answered a)) :: post ∧
      (∀ p ∈ pre, p.1 ≠ u) ∧ ∀ p ∈ post, p.1 ≠ u := by
  have hmem : (u, readAnswer w.start w.count e.firstWindow (.answered a)) ∈ s.readings w :=
    List.mem_filterMap.2 ⟨_, hp, by simp [he]⟩
  have hsub := map_fst_filterMap_sublist (g := Participant.unit)
    (f := fun p : Participant => if p.answer = .ignored then none
      else (s.unit p.unit).map fun e => (p.unit, readAnswer w.start w.count e.firstWindow p.answer))
    (fun p q hq => by
      split at hq
      · cases hq
      · obtain ⟨d, -, rfl⟩ := Option.map_eq_some_iff.1 hq
        rfl) w.participants
  obtain ⟨pre, post, hsplit⟩ := List.append_of_mem hmem
  have hnd' : ((pre ++ (u, readAnswer w.start w.count e.firstWindow (.answered a)) :: post).map Prod.fst).Nodup :=
    hsplit ▸ hnd.sublist hsub
  rw [List.map_append, List.map_cons, List.nodup_append, List.nodup_cons] at hnd'
  refine ⟨pre, post, hsplit, fun p hp hpu => ?_, fun p hp hpu => ?_⟩
  · exact hnd'.2.2 _ (List.mem_map_of_mem hp) _ (List.mem_cons_self ..) hpu
  · exact hnd'.2.1.1 (List.mem_map.2 ⟨p, hp, hpu⟩)

theorem lookup_taken {pre post : List (UnitIx × Reading)} {u : UnitIx} {r : Reading} (h : ∀ p ∈ pre, p.1 ≠ u) :
    ((pre ++ (u, r) :: post).map fun p => (p.1, p.2.taken)).lookup u = some r.taken := by
  induction pre with
  | nil => simp
  | cons p pre ih =>
    have hne : (u == p.1) = false := by simpa using (h p (by simp)).symm
    simpa [List.lookup_cons, hne] using ih fun q hq => h q (by simp [hq])

/-- All answers of the window read: unit `u`'s own reading makes its entry. -/
theorem State.readings_done {s : State} {pre post : List (UnitIx × Reading)} {u : UnitIx} {r : Reading} {e e' : UnitEntry}
    (hpre : ∀ p ∈ pre, p.1 ≠ u) (hpost : ∀ p ∈ post, p.1 ≠ u) (he : s.unit u = some e)
    (hown : ∀ t : State, t.unit u = some e → t.timing = s.timing →
      State.Reads u t (t.takeReading u r) ∧ (t.takeReading u r).unit u = some e') :
    State.Reads u s ((pre ++ (u, r) :: post).foldl (fun s p => s.takeReading p.1 p.2) s) ∧
      ((pre ++ (u, r) :: post).foldl (fun s p => s.takeReading p.1 p.2) s).unit u = some e' := by
  rw [List.foldl_append, List.foldl_cons]
  have h1 := State.foldl_takeReading_readsOthers pre hpre s
  obtain ⟨h2, hu2⟩ := hown _ (h1.unit.trans he) h1.frame.timing
  have h3 := State.foldl_takeReading_readsOthers post hpost
    ((pre.foldl (fun s p => s.takeReading p.1 p.2) s).takeReading u r)
  exact ⟨h1.toReads.trans (h2.trans h3.toReads), h3.unit.trans hu2⟩

end Sys2Proof.Machine

/-! The boundary work at a window's end, and what it leaves of a member: VERIFY for one that completes, its place in a record for
one that still owes (R121 to R128). -/

namespace Sys2Proof.Machine

/-! ### The steps of the boundary work (R123) -/

/-- A member's owed set without the blocks taken of the window [c, c + n). -/
def Member.without (m : Member) (c k : Nat) : Member :=
  { m with owed := m.owed.filter fun b => !(decide (c ≤ b) && decide (b < c + k)) }

/-- The window is over, and the blocks taken are owed no more. -/
def State.blocksTaken (s : State) (c : Nat) (taken : List (UnitIx × Nat)) : State :=
  { s with
    rsch := { s.rsch with
      active := s.rsch.active.map fun r =>
        { r with members := r.members.map fun m => m.without c ((taken.lookup m.unit).getD 0), window := none } } }

/-- The cursor placed from `p`, the sizes of the windows refreshed and preemption checked, where the active record has members. -/
def State.placedFrom (s : State) (p : Nat) : State :=
  match s.rsch.active with
  | none => s
  | some r =>
    if r.members.isEmpty then s
    else ({ s with rsch := { s.rsch with active := some (r.place p) } } : State).refreshWidths.preempt

theorem State.boundary_eq (s : State) (c n : Nat) (taken : List (UnitIx × Nat)) :
    s.boundary c n taken = (s.blocksTaken c taken).complete.placedFrom (c + n) := rfl

theorem State.placedFrom_schedules (s : State) (p : Nat) : State.Schedules True s (s.placedFrom p) := by
  unfold State.placedFrom
  split
  · exact .refl
  · next r hr =>
    split
    · exact .refl
    · exact State.Schedules.edit { s.rsch with active := some (r.place p) }
        (fun v hl => hl.withActive fun b hb => Option.some.inj hb ▸ hl.1 r hr)
        ((State.refreshWidths_schedules _).trans (State.preempt_schedules _ (.inr trivial)))

/-- The window's end (R145). -/
theorem State.endWindow_ended {s : State} {w : Window} (hs : s.seng = some w) (he : w.ended = true) :
    s.endWindow =
      ((s.readings w).foldl (fun (s : State) (p : UnitIx × Reading) => s.takeReading p.1 p.2) { s with seng := none }).boundary
        w.start w.count ((s.readings w).map fun p => (p.1, p.2.taken)) := by
  simp only [State.endWindow, hs, he, if_true]

theorem State.endWindow_going {s : State} {w : Window} (hs : s.seng = some w) (he : w.ended = false) : s.endWindow = s := by
  simp only [State.endWindow, hs, he, Bool.false_eq_true, if_false]

/-! ### One member at the window's end -/

/-- A member of the active record of `s`, in STREAM: all answers have been read in `t`, which leaves its unit the entry `e'`, and
`k` blocks of the window from block `c` count as taken by it. -/
structure State.MemberRead (s t : State) (r : StreamRecord) (m : Member) (e' : UnitEntry) : Prop where
  law : s.MembershipLaw
  active : s.rsch.active = some r
  window : r.window ≠ none
  mem : m ∈ r.members
  reads : State.Reads m.unit s t
  unit : t.unit m.unit = some e'

section
variable {s t : State} {r : StreamRecord} {m : Member} {e' : UnitEntry} {c k : Nat} {taken : List (UnitIx × Nat)}

/-- The active record after the blocks taken are cut: the member is in it once, and no member but of the record is. -/
theorem State.MemberRead.cut (h : State.MemberRead s t r m e') (hk : taken.lookup m.unit = some k) :
    ∃ r', (t.blocksTaken c taken).rsch.active = some r' ∧ r'.slot = r.slot ∧ r'.level = r.level ∧ r'.window = none ∧
      m.without c k ∈ r'.members ∧ (∀ m' ∈ r'.members, m'.unit = m.unit → m' = m.without c k) ∧
      ∀ m' ∈ r'.members, ∃ n ∈ r.members, n.unit = m'.unit := by
  obtain ⟨ms, hms, hsub, hin⟩ := h.reads.active r h.active h.window
  have hactive : (t.blocksTaken c taken).rsch.active = some
      { r with members := ms.map fun m => m.without c ((taken.lookup m.unit).getD 0), window := none } := by
    rw [State.blocksTaken, hms]
    rfl
  refine ⟨_, hactive, rfl, rfl, rfl, List.mem_map.2 ⟨m, hin m h.mem rfl, by rw [hk]; rfl⟩, fun m' hm' hu => ?_, fun m' hm' => ?_⟩
  · obtain ⟨n, hn, rfl⟩ := List.mem_map.1 hm'
    obtain rfl := h.law.member_eq h.active h.mem (hsub.subset hn) hu
    rw [hk]
    rfl
  · obtain ⟨n, hn, rfl⟩ := List.mem_map.1 hm'
    exact ⟨n, hsub.subset hn, rfl⟩

/-- A joined member left with nothing to owe goes to VERIFY, and its verify request is handed (R124, R148). -/
theorem State.MemberRead.completes (h : State.MemberRead s t r m e') (hk : taken.lookup m.unit = some k)
    (hdone : (m.without c k).owed = []) (hj : e'.joined = true) :
    (t.blocksTaken c taken).complete.unit m.unit = some e'.toVerify ∧ (t.blocksTaken c taken).complete.Idle m.unit ∧
      s.Hands (t.blocksTaken c taken).complete e'.decl.seg (.verifyRequest m.unit) := by
  obtain ⟨r', hr', -, -, -, hmem, honly, -⟩ := h.cut (c := c) hk
  have hunit : (t.blocksTaken c taken).unit m.unit = some e' := h.unit
  have hc : (t.blocksTaken c taken).completes (m.without c k) = true := by
    rw [State.completes, hdone, show (m.without c k).unit = m.unit from rfl, hunit]
    simpa using hj
  obtain ⟨hstack, hactive⟩ := (t.blocksTaken c taken).complete_records
  have hverify : (t.blocksTaken c taken).complete.unit m.unit = some e'.toVerify := by
    rw [State.unit_complete hr', if_pos ⟨_, hmem, hc, rfl⟩, hunit, Option.map_some]
  refine ⟨hverify, ⟨⟨fun q hq m' hm' hu => ?_, fun q hq m' hm' => ?_⟩, fun d hd hw => ?_⟩, fun hh => ?_⟩
  · rw [hactive, hr', Option.map_some] at hq
    obtain rfl := Option.some.inj hq
    obtain ⟨hm'', hno⟩ := List.mem_filter.1 hm'
    rw [honly m' hm'' hu, hc] at hno
    cases hno
  · rw [hstack] at hq
    obtain ⟨q', hq', hsub⟩ := h.reads.stack q hq
    exact h.law.not_suspended h.active h.mem q' hq' m' (hsub m' hm')
  · rw [← Option.some.inj (hverify.symm.trans hd)] at hw
    cases hw
  · exact State.holds_complete hr' hmem hc rfl hunit ((h.reads.halted _).trans hh)

/-- A member that still owes blocks stays, with its entry (R124). -/
theorem State.MemberRead.stays (h : State.MemberRead s t r m e') (hk : taken.lookup m.unit = some k)
    (howed : (m.without c k).owed ≠ []) :
    (t.blocksTaken c taken).complete.unit m.unit = some e' ∧
      ∃ r', (t.blocksTaken c taken).complete.rsch.active = some r' ∧ r'.slot = r.slot ∧ r'.level = r.level ∧
        r'.window = none ∧ m.without c k ∈ r'.members ∧ ∀ m' ∈ r'.members, ∃ n ∈ r.members, n.unit = m'.unit := by
  obtain ⟨r', hr', hslot, hlevel, hwindow, hmem, honly, hfrom⟩ := h.cut (c := c) hk
  have hc : (t.blocksTaken c taken).completes (m.without c k) = false := by
    have : (m.without c k).owed.isEmpty = false := by simpa using howed
    rw [State.completes, this, Bool.false_and]
  constructor
  · rw [State.unit_complete hr', if_neg]
    · exact h.unit
    · rintro ⟨m', hm', hc', hu⟩
      rw [honly m' hm' hu, hc] at hc'
      cases hc'
  · rw [(State.complete_records _).2, hr', Option.map_some]
    exact ⟨_, rfl, hslot, hlevel, hwindow, List.mem_filter.2 ⟨hmem, by rw [hc]; rfl⟩,
      fun m' hm' => hfrom m' (List.mem_filter.1 hm').1⟩

/-- Every unit in WAIT then was in WAIT at the start, and no member of the active record was. -/
theorem State.MemberRead.waits (h : State.MemberRead s t r m e') {v : UnitIx} {d : UnitEntry}
    (hd : (t.blocksTaken c taken).complete.unit v = some d) (hw : d.state = .wait) :
    ∃ d', s.unit v = some d' ∧ d'.state = .wait ∧ d'.decl = d.decl := by
  have hkeep : (t.blocksTaken c taken).unit v = some d := by
    cases ha : (t.blocksTaken c taken).rsch.active with
    | none => simpa only [State.complete, ha] using hd
    | some q =>
      rw [State.unit_complete ha] at hd
      split at hd
      · obtain ⟨d', -, rfl⟩ := Option.map_eq_some_iff.1 hd
        cases hw
      · exact hd
  exact h.reads.waits v d hkeep hw

end

/-! ### A member that stays, when preemption is checked (R126, R128) -/

section
variable {s : State} {u v : UnitIx} {e : UnitEntry}

/-- Joining takes no member out of a record (R117). -/
theorem State.enlist_keeps_members (s : State) (v : UnitIx) :
    (∀ a, s.rsch.active = some a → ∃ a', (s.enlist v).rsch.active = some a' ∧ ∀ m ∈ a.members, m ∈ a'.members) ∧
      ∀ q ∈ s.rsch.stack, ∃ q' ∈ (s.enlist v).rsch.stack, ∀ m ∈ q.members, m ∈ q'.members := by
  have hsame : (∀ a, s.rsch.active = some a → ∃ a', s.rsch.active = some a' ∧ ∀ m ∈ a.members, m ∈ a'.members) ∧
      ∀ q ∈ s.rsch.stack, ∃ q' ∈ s.rsch.stack, ∀ m ∈ q.members, m ∈ q'.members :=
    ⟨fun a ha => ⟨a, ha, fun _ h => h⟩, fun q hq => ⟨q, hq, fun _ h => h⟩⟩
  unfold State.enlist
  split
  · exact hsame
  · split
    · exact hsame
    · simp only
      split
      · exact hsame
      · split
        · refine ⟨fun a ha => ⟨_, congrArg (Option.map _) ha, fun m hm => ?_⟩, fun q hq => ⟨q, hq, fun _ h => h⟩⟩
          dsimp only
          split <;> exact List.mem_append_left _ hm
        · split
          · refine ⟨fun a ha => ⟨a, ha, fun _ h => h⟩, fun q hq => ⟨_, List.mem_map_of_mem hq, fun m hm => ?_⟩⟩
            split
            · exact List.mem_append_left _ hm
            · exact hm
          · exact hsame

/-- A unit that is not in WAIT joins no record, and another's joining leaves its entry (R117). -/
theorem State.unit_enlist (he : s.unit u = some e) (hst : e.state ≠ .wait) : (s.enlist v).unit u = some e := by
  unfold State.enlist
  split
  · exact he
  · next d hd =>
    split
    · exact he
    · simp only
      split
      · exact he
      · next hno =>
        have hv : v ≠ u := by
          rintro rfl
          obtain rfl := Option.some.inj (he.symm.trans hd)
          exact hno (.inl hst)
        split
        · rw [State.unit_move, if_neg hv]
          exact he
        · split
          · rw [State.unit_move, if_neg hv]
            exact he
          · exact he

/-- Units join: a unit not in WAIT keeps its entry, the active record its members, and every suspended one its members. -/
theorem State.foldl_enlist_keeps (l : List UnitIx) (s : State) (he : s.unit u = some e) (hst : e.state ≠ .wait) :
    (l.foldl State.enlist s).unit u = some e ∧
      (∀ a, s.rsch.active = some a →
        ∃ a', (l.foldl State.enlist s).rsch.active = some a' ∧ ∀ m ∈ a.members, m ∈ a'.members) ∧
      ∀ q ∈ s.rsch.stack, ∃ q' ∈ (l.foldl State.enlist s).rsch.stack, ∀ m ∈ q.members, m ∈ q'.members := by
  induction l generalizing s with
  | nil => exact ⟨he, fun a ha => ⟨a, ha, fun _ h => h⟩, fun q hq => ⟨q, hq, fun _ h => h⟩⟩
  | cons v l ih =>
    obtain ⟨ha, hs⟩ := s.enlist_keeps_members v
    obtain ⟨hu, ha', hs'⟩ := ih (s.enlist v) (State.unit_enlist he hst)
    refine ⟨hu, fun a h => ?_, fun q hq => ?_⟩
    · obtain ⟨a1, h1, hm1⟩ := ha a h
      obtain ⟨a2, h2, hm2⟩ := ha' a1 h1
      exact ⟨a2, h2, fun m hm => hm2 m (hm1 m hm)⟩
    · obtain ⟨q1, h1, hm1⟩ := hs q hq
      obtain ⟨q2, h2, hm2⟩ := hs' q1 h1
      exact ⟨q2, h2, fun m hm => hm2 m (hm1 m hm)⟩

theorem State.foldl_handJoin_keeps (l : List UnitIx) (s : State) :
    (l.foldl State.handJoin s).unit u = s.unit u ∧ (l.foldl State.handJoin s).rsch = s.rsch := by
  induction l generalizing s with
  | nil => exact ⟨rfl, rfl⟩
  | cons v l ih => exact ⟨(ih _).1.trans (s.unit_handJoin v), (ih _).2.trans (s.rsch_handJoin v)⟩

/-- A record formed for an eligible leader has the leader as a member; a unit not in WAIT keeps its entry, and every suspended
record its members (R116). -/
theorem State.form_keeps {leader : UnitIx} {d : UnitEntry} {i : SlotInfo} (hd : s.unit leader = some d) (hw : d.state = .wait)
    (hi : (s.slot d.decl.slot).valid? = some i) (hx : s.usable d.decl.seg = true) (he : s.unit u = some e)
    (hst : e.state ≠ .wait) :
    (s.form leader).unit u = some e ∧ (∃ a, (s.form leader).rsch.active = some a ∧ a.members ≠ []) ∧
      ∀ q ∈ s.rsch.stack, ∃ q' ∈ (s.form leader).rsch.stack, ∀ m ∈ q.members, m ∈ q'.members := by
  unfold State.form
  simp only [hd]
  rw [hi]
  simp only [List.foldl_cons]
  generalize hs0 : ({ s with rsch := { s.rsch with active := some _ } } : State) = s0
  have hleader := State.enlist_active (s := s0) (u := leader) (e := d) (i := i) (by rw [← hs0]; exact hd) hw
    (by rw [← hs0]; exact hi) (by rw [← hs0]; exact hx) (by rw [← hs0]) rfl
  have hne : ∃ a, (s0.enlist leader).rsch.active = some a ∧ a.members ≠ [] := by
    rw [hleader]
    refine ⟨_, rfl, ?_⟩
    rw [(StreamRecord.admitting_slot _ _ _ _).2]
    simp [StreamRecord.enrol]
  obtain ⟨a, ha, hane⟩ := hne
  obtain ⟨hunit, hactive, hstack⟩ := State.foldl_enlist_keeps
    (leader :: allUnits.filter fun v => v != leader && s.eligible v && (s.unit v).any fun f => f.decl.slot == d.decl.slot) s0
    (u := u) (e := e) (by rw [← hs0]; exact he) hst
  obtain ⟨-, hactive', -⟩ := State.foldl_enlist_keeps
    (allUnits.filter fun v => v != leader && s.eligible v && (s.unit v).any fun f => f.decl.slot == d.decl.slot)
    (s0.enlist leader) (u := u) (e := e) (State.unit_enlist (by rw [← hs0]; exact he) hst) hst
  obtain ⟨a', ha', hsub⟩ := hactive' a ha
  rw [show s.rsch.stack = s0.rsch.stack from hs0 ▸ rfl]
  rw [List.foldl_cons] at hunit hstack
  generalize (allUnits.filter fun v => v != leader && s.eligible v && (s.unit v).any fun f => f.decl.slot == d.decl.slot).foldl
    State.enlist (s0.enlist leader) = s1 at hunit hstack ha' ⊢
  rw [(State.foldl_handJoin_keeps _ _).1, (State.foldl_handJoin_keeps (u := u) _ _).2]
  refine ⟨hunit, ⟨a'.place 0, congrArg (Option.map (·.place 0)) ha', ?_⟩, hstack⟩
  obtain ⟨m, hm⟩ := List.exists_mem_of_ne_nil _ hane
  exact List.ne_nil_of_mem (hsub m hm)

/-- Member `m`, whose unit had entry `e` in STREAM, is in a record of `t`, its unit in STREAM or suspended with its record. -/
structure State.KeepsMember (t : State) (m : Member) (e : UnitEntry) : Prop where
  unit : t.unit m.unit = some e ∨ t.unit m.unit = some (e.goto .suspended)
  active : ∃ a, t.rsch.active = some a ∧ a.members ≠ []
  record : ∃ q ∈ t.records, m ∈ q.members

theorem UnitEntry.goto_goto (e : UnitEntry) (st : UnitState) : (e.goto st).goto st = e.goto st := by
  have hif {α : Type} (p : Prop) [Decidable p] (a b : α) : (if p then (if p then a else b) else b) = if p then a else b := by
    split <;> rfl
  have hif' {α : Type} (p : Prop) [Decidable p] (a b : α) : (if p then a else (if p then a else b)) = if p then a else b := by
    split <;> rfl
  simp only [UnitEntry.goto, Bool.and_assoc, Bool.and_self, hif, hif']

theorem State.unit_foldl_move (l : List Member) (s : State) (st : UnitState) (u : UnitIx) :
    (l.foldl (fun s m => s.move m.unit st id) s).unit u =
      if ∃ m ∈ l, m.unit = u then (s.unit u).map (·.goto st) else s.unit u := by
  induction l generalizing s with
  | nil => simp
  | cons m l ih =>
    rw [List.foldl_cons, ih, State.unit_move]
    by_cases hm : m.unit = u
    · rw [if_pos hm, if_pos (c := ∃ n ∈ m :: l, n.unit = u) ⟨m, List.mem_cons_self .., hm⟩, Option.map_map]
      split
      · exact congrArg (Option.map · (s.unit u)) (funext fun e => e.goto_goto st)
      · rfl
    · rw [if_neg hm]
      simp [hm]

theorem State.rsch_foldl_move (l : List Member) (s : State) (st : UnitState) :
    (l.foldl (fun s m => s.move m.unit st id) s).rsch.active = s.rsch.active ∧
      (l.foldl (fun s m => s.move m.unit st id) s).rsch.stack = s.rsch.stack := by
  induction l generalizing s with
  | nil => exact ⟨rfl, rfl⟩
  | cons m l ih => exact ⟨(ih _).1, (ih _).2⟩

/-- The active record pushed: its members are suspended, every other unit stands (R126). -/
theorem State.push_spec {r : StreamRecord} (hr : s.rsch.active = some r) :
    s.push.rsch.stack = r :: s.rsch.stack ∧
      ∀ u, s.push.unit u = if ∃ m ∈ r.members, m.unit = u then (s.unit u).map (·.goto .suspended) else s.unit u := by
  unfold State.push
  simp only [hr]
  exact ⟨(State.rsch_foldl_move _ _ _).2, fun u => State.unit_foldl_move _ _ _ u⟩

/-- The preemption check keeps a member: it stays active, goes to the stack with its record, or a leader that finds the stack full
is held (R128, R129). -/
theorem State.preempt_keepsMember {r : StreamRecord} {m : Member} {e : UnitEntry} (hr : s.rsch.active = some r)
    (hm : m ∈ r.members) (hall : ∀ n ∈ r.members, ∀ d, s.unit n.unit = some d → d.state ≠ .wait)
    (he : s.unit m.unit = some e) : s.preempt.KeepsMember m e := by
  have hst : e.state ≠ .wait := hall m hm e he
  have same : s.KeepsMember m e :=
    ⟨.inl he, ⟨r, hr, List.ne_nil_of_mem hm⟩, r, by simp [State.records, hr], hm⟩
  unfold State.preempt
  split
  · next r' v hr' hv =>
    obtain rfl := Option.some.inj (hr.symm.trans hr')
    have hel := State.leader_eligible hv
    obtain ⟨d, hd, hw⟩ := State.eligible_wait hel
    have hnot : ¬∃ n ∈ r.members, n.unit = v := by
      rintro ⟨n, hn, rfl⟩
      exact hall n hn d hd hw
    split
    · exact same
    · split
      · obtain ⟨hstack, hunit⟩ := State.push_spec hr
        have hdp : s.push.unit v = some d := by rw [hunit, if_neg hnot, hd]
        have hep : s.push.unit m.unit = some (e.goto .suspended) := by
          rw [hunit, if_pos ⟨m, hm, rfl⟩, he, Option.map_some]
        simp only [State.eligible, hd, Option.any_some, Bool.and_eq_true] at hel
        obtain ⟨⟨⟨-, hvalid⟩, -⟩, hx⟩ := hel
        obtain ⟨i, hi⟩ := Option.isSome_iff_exists.1 hvalid
        obtain ⟨hu, hactive, hkeep⟩ := State.form_keeps hdp hw (by rw [s.push_frame.slot]; exact hi)
          (by rw [s.push_frame.usable]; exact hx) hep (by simp [UnitEntry.goto])
        obtain ⟨q, hq, hsub⟩ := hkeep r (by rw [hstack]; exact List.mem_cons_self ..)
        exact ⟨.inr hu, hactive, q, List.mem_append_right _ hq, hsub m hm⟩
      · split
        · exact same
        · generalize hs0 : ({ s with rsch := { s.rsch with marks := s.rsch.marks ++ [v] } } : State) = s0
          have hr0 : s0.rsch.active = some r := by rw [← hs0]; exact hr
          have he0 : s0.unit m.unit = some e := by rw [← hs0]; exact he
          have hne : v ≠ m.unit := fun h => hnot ⟨m, hm, h.symm⟩
          have hactive : ∃ a, (s0.raise v .stackFull id).rsch.active = some a ∧ m ∈ a.members := by
            unfold State.raise
            simp only
            split
            · refine ⟨(r.removeActive (· == v)), ?_, ?_⟩
              · rw [State.toHeld, State.rsch_setUnitFlag]
                have h : (s0.setUnitFlag v (.condition .stackFull)).rsch.active = some r := by simpa using hr0
                change (State.withdraw _ v).rsch.active = _
                rw [State.rsch_withdraw]
                exact congrArg (Option.map fun q : StreamRecord => q.removeActive (· == v)) h
              · rw [StreamRecord.removeActive_members]
                exact List.mem_filter.2 ⟨hm, by simpa using hne.symm⟩
            · exact ⟨r, by simpa using hr0, hm⟩
          obtain ⟨a, ha, hma⟩ := hactive
          refine ⟨.inl ?_, ⟨a, ha, List.ne_nil_of_mem hma⟩, a, by simp [State.records, ha], hma⟩
          exact (State.raise_readsOthers s0 hne .stackFull State.ReadsOthers.refl).unit.trans he0
  · exact same

end

end Sys2Proof.Machine

/-! A window answer: the next participant is asked, the part ends, or the window ends with its boundary work (R141, R142, R145). -/

namespace Sys2Proof.Machine

/-! ### After the boundary work -/

section
variable {s t : State} {r : StreamRecord} {m : Member} {e' : UnitEntry} {c k p : Nat} {taken : List (UnitIx × Nat)}

/-- No member of the record that stays is in WAIT: those were in STREAM. -/
theorem State.MemberRead.no_waiting_member (h : State.MemberRead s t r m e') {r' : StreamRecord}
    (hfrom : ∀ m' ∈ r'.members, ∃ n ∈ r.members, n.unit = m'.unit) :
    ∀ n ∈ r'.members, ∀ d, (t.blocksTaken c taken).complete.unit n.unit = some d → d.state ≠ .wait := by
  intro n hn d hd hw
  obtain ⟨d', hd', hw', -⟩ := h.waits hd hw
  obtain ⟨n', hn', hu⟩ := hfrom n hn
  have hmem : n.unit ∈ s.activeUnits := by
    rw [State.activeUnits_eq h.active, ← hu]
    exact List.mem_map_of_mem hn'
  obtain ⟨d'', hd'', hs⟩ := (h.law.2.1 _).1 hmem
  obtain rfl := Option.some.inj (hd'.symm.trans hd'')
  rw [hw'] at hs
  cases hs

theorem State.placedFrom_of_member {q : State} (hr : q.rsch.active = some r) (hm : m ∈ r.members) :
    q.placedFrom p = ({ q with rsch := { q.rsch with active := some (r.place p) } } : State).refreshWidths.preempt := by
  have hne : r.members.isEmpty = false := by simpa using List.ne_nil_of_mem hm
  simp only [State.placedFrom, hr, hne, Bool.false_eq_true, if_false]

theorem State.placedFrom_keepsMember {q : State} {e : UnitEntry} (hr : q.rsch.active = some r) (hm : m ∈ r.members)
    (hall : ∀ n ∈ r.members, ∀ d, q.unit n.unit = some d → d.state ≠ .wait) (he : q.unit m.unit = some e) :
    (q.placedFrom p).KeepsMember m e := by
  rw [State.placedFrom_of_member hr hm]
  exact State.preempt_keepsMember (r := { r.place p with w := _ }) rfl hm hall he

/-- With no unit of a higher level in WAIT there is no preemption (R128). -/
theorem State.preempt_of_no_higher {q : State} (hr : q.rsch.active = some r)
    (h : ∀ v d, q.unit v = some d → d.state = .wait → d.decl.level ≤ r.level) : q.preempt = q := by
  unfold State.preempt
  split
  · next r' v hr' hv =>
    obtain rfl := Option.some.inj (hr.symm.trans hr')
    obtain ⟨d, hd, hw⟩ := State.eligible_wait (State.leader_eligible hv)
    have hl : q.levelOf v = d.decl.level := by simp [State.levelOf, hd]
    rw [if_pos (hl ▸ h v d hd hw)]
  · rfl

/-- Records keep their members while the scheduler only begins a window. -/
theorem State.settled_keepsMember {q : State} {e : UnitEntry} (h : q.KeepsMember m e) :
    (q.settled.unit m.unit = some e ∨ q.settled.unit m.unit = some (e.goto .suspended)) ∧
      ∃ a ∈ q.settled.records, m ∈ a.members := by
  obtain ⟨a, ha, hne⟩ := h.active
  have hunits := (State.settled_of_active ha (.inl hne)).units
  refine ⟨by simpa only [State.unit, hunits] using h.unit, ?_⟩
  obtain ⟨w, window, ha'⟩ := State.settled_active ha (.inl hne)
  obtain ⟨b, hb, hmb⟩ := h.record
  rcases List.mem_append.1 hb with hb | hb
  · rw [ha] at hb
    obtain rfl := List.mem_singleton.1 hb
    exact ⟨{ b with w := w, window := window }, List.mem_append_left _ (by rw [ha']; exact List.mem_singleton_self _), hmb⟩
  · refine ⟨{ b with w := q.width b }, List.mem_append_right _ ?_, hmb⟩
    have hstack : q.settled.rsch.stack = q.refreshWidths.rsch.stack := by
      rw [State.settled, (State.reportDemand_same _).2.2.2.1, State.settleStreams_of_active ha (.inl hne)]
      unfold State.beginWindow
      split
      · rfl
      · simp only
        split <;> rfl
    rw [hstack]
    exact List.mem_map_of_mem hb

/-- A member that still owes blocks after the boundary work is in its record at the command's end (R124). -/
theorem State.MemberRead.kept (h : State.MemberRead s t r m e') (hk : taken.lookup m.unit = some k)
    (howed : (m.without c k).owed ≠ []) {T : State}
    (hends : State.Ends ((t.blocksTaken c taken).complete.placedFrom p).settled T) :
    (∃ d, T.unit m.unit = some d ∧ (d = e' ∨ d = e'.goto .suspended)) ∧ ∃ q ∈ T.records, m.without c k ∈ q.members := by
  obtain ⟨hu, r', hr', -, -, -, hmem, hfrom⟩ := h.stays (c := c) hk howed
  obtain ⟨hunit, hrec⟩ := State.settled_keepsMember
    (State.placedFrom_keepsMember (p := p) hr' hmem (h.no_waiting_member hfrom) hu)
  refine ⟨?_, ?_⟩
  · rw [hends.unit_eq]
    rcases hunit with h | h
    · exact ⟨_, h, .inl rfl⟩
    · exact ⟨_, h, .inr rfl⟩
  · rw [hends.same]
    exact hrec

/-- With no unit of a higher level in WAIT the next window begins at the cursor placed from `p` (R122, R123). -/
theorem State.MemberRead.next_window (h : State.MemberRead s t r m e') (hk : taken.lookup m.unit = some k)
    (howed : (m.without c k).owed ≠ []) (hseng : t.seng = none) (hj : e'.joined = true)
    (hlow : ∀ v d, s.unit v = some d → d.state = .wait → d.decl.level ≤ r.level) {T : State}
    (hends : State.Ends ((t.blocksTaken c taken).complete.placedFrom p).settled T) :
    ∃ q w, T.rsch.active = some q ∧ q.slot = r.slot ∧ T.seng = some w ∧ w.slot = r.slot ∧ w.start = q.cursor ∧
      q.window = some (w.start, w.count) ∧ w.phase = .reading ∧ (∃ n ∈ q.members, q.cursor ∈ n.owed) ∧
      ∀ n ∈ q.members, ∀ b ∈ n.owed, (p ≤ b → p ≤ q.cursor ∧ q.cursor ≤ b) ∧ (q.cursor < p → q.cursor ≤ b) := by
  obtain ⟨hu, r', hr', hslot, hlevel, hwindow, hmem, -⟩ := h.stays (c := c) hk howed
  generalize hq : (t.blocksTaken c taken).complete = q at hu hr' hends
  have hsengq : q.seng = none := by rw [← hq, State.seng_complete]; exact hseng
  have hwaits (v : UnitIx) (d : UnitEntry) (hd : q.unit v = some d) (hw : d.state = .wait) : d.decl.level ≤ r'.level := by
    obtain ⟨d', hd', hw', hdecl⟩ := h.waits (hq.symm ▸ hd) hw
    rw [← hdecl, hlevel]
    exact hlow v d' hd' hw'
  rw [State.placedFrom_of_member hr' hmem] at hends
  generalize hq0 : ({ q with rsch := { q.rsch with active := some (r'.place p) } } : State).refreshWidths = q0 at hends
  obtain ⟨width, hactive⟩ : ∃ width, q0.rsch.active = some { r'.place p with w := width } := by
    rw [← hq0]
    exact ⟨_, rfl⟩
  have hunit0 (v : UnitIx) : q0.unit v = q.unit v := by rw [← hq0]; rfl
  rw [State.preempt_of_no_higher hactive fun v d hd hw => hwaits v d ((hunit0 v).symm.trans hd) hw] at hends
  obtain ⟨w, hw, hws, hwc, hwp, -, size, hend⟩ := State.settled_begins hactive hwindow
    (by rw [← hq0]; exact hsengq) hmem howed ((hunit0 _).trans hu) hj
  obtain ⟨b0, hb0⟩ := List.exists_mem_of_ne_nil _ howed
  have howes : r'.Owes b0 := ⟨_, hmem, hb0⟩
  obtain ⟨hcur, hmin⟩ := StreamRecord.place_spec howes p
  have hT : T.rsch = q0.settled.rsch ∧ T.seng = q0.settled.seng := by
    rw [hends.same]
    exact ⟨rfl, rfl⟩
  exact ⟨_, w, (congrArg Scheduler.active hT.1).trans hend, hslot, hT.2.trans hw, hws.trans hslot, hwc, rfl, hwp, hcur,
    fun n hn b hb => hmin b ⟨n, hn, hb⟩⟩

/-- A joined member left with nothing to owe is in VERIFY at the command's end, in no record, its verify request handed (R124,
R148). -/
theorem State.MemberRead.verifies (h : State.MemberRead s t r m e') (hk : taken.lookup m.unit = some k)
    (hdone : (m.without c k).owed = []) (hj : e'.joined = true) {T : State}
    (hends : State.Ends ((t.blocksTaken c taken).complete.placedFrom p).settled T) :
    T.unit m.unit = some e'.toVerify ∧ T.rsch.Lacks m.unit ∧
      ((s.slot e'.decl.slot).info? ≠ none → s.Hands T e'.decl.seg (.verifyRequest m.unit)) := by
  obtain ⟨hunit, hidle, hhands⟩ := h.completes (c := c) hk hdone hj
  have hframe : s.RestoreFrame (t.blocksTaken c taken).complete :=
    h.reads.frame.trans (State.complete_frame (t.blocksTaken c taken))
  have hsch := (t.blocksTaken c taken).complete.placedFrom_schedules p
  obtain ⟨hidle', hunit', hkeeps⟩ := hsch.rests hidle
  obtain ⟨hidle'', hunit'', -⟩ := State.settled_rests _ hidle'
  refine ⟨(hends.unit_eq _).trans (hunit''.trans (hunit'.trans hunit)), ?_, fun hslot hx => ?_⟩
  · rw [hends.same]
    exact hidle''.1
  · refine hends.holds_settled hidle' (hunit'.trans hunit) rfl (fun _ => ?_) ((hkeeps _ _ rfl).2 (hhands hx))
    rw [State.slot, hsch.keepsUnits.ims]
    exact fun hnone => hslot ((congrArg Slot.info? (hframe.slot e'.decl.slot)).symm.trans hnone)

theorem State.MemberRead.ctxs (h : State.MemberRead s t r m e') {T : State}
    (hends : State.Ends ((t.blocksTaken c taken).complete.placedFrom p).settled T) : T.ctxs = s.ctxs := by
  rw [hends.same]
  exact (State.settled_keepsUnits _).ctxs.trans ((State.placedFrom_schedules _ p).keepsUnits.ctxs.trans
    ((State.complete_keepsUnits (t.blocksTaken c taken)).ctxs.trans h.reads.ctxs))

end

/-! ### The window's end -/

/-- The window with the answer of `u` recorded and the part of segment `x` ended. -/
def Window.answeredAt (w : Window) (u : UnitIx) (a : WindowAnswer) (x : Seg) : Window :=
  { w.record u (.answered a) with parts := perSet w.parts x .ended }

theorem Window.record_units (w : Window) (u : UnitIx) (a : PartAnswer) :
    (w.record u a).participants.map (·.unit) = w.participants.map (·.unit) := by
  rw [Window.record, List.map_map]
  refine List.map_congr_left fun p _ => ?_
  change Participant.unit (if _ then _ else _) = _
  split <;> rfl

theorem Window.record_answered {w : Window} {u : UnitIx} {x : Seg} (a : PartAnswer)
    (h : { unit := u, seg := x, answer := .pending } ∈ w.participants) :
    { unit := u, seg := x, answer := a } ∈ (w.record u a).participants :=
  List.mem_map.2 ⟨_, h, by simp⟩

theorem Window.answeredAt_ended {w : Window} {x : Seg} (hw : w.phase = .carrying)
    (h : ∀ y, y ≠ x → perGet w.parts y = .ended) (u : UnitIx) (a : WindowAnswer) : (w.answeredAt u a x).ended = true := by
  have hall (y : Seg) : perGet (w.answeredAt u a x).parts y = .ended := by
    change perGet (perSet w.parts x .ended) y = _
    rw [perGet_perSet]
    split
    · rfl
    · next hne => exact h y (Ne.symm hne)
  have ha := hall .a
  have hb := hall .b
  have hc := hall .c
  have hp : (w.answeredAt u a x).phase = .carrying := hw
  simp only [perGet] at ha hb hc
  simp [Window.ended, ha, hb, hc, hp]

theorem Window.answeredAt_not_ended {w : Window} {x y : Seg} (hy : y ≠ x) (h : perGet w.parts y ≠ .ended) (u : UnitIx)
    (a : WindowAnswer) : (w.answeredAt u a x).ended = false := by
  have hno : perGet (w.answeredAt u a x).parts y ≠ .ended := by
    change perGet (perSet w.parts x .ended) y ≠ _
    rwa [perGet_perSet_ne _ _ hy.symm]
  cases y <;> simp only [perGet] at hno <;> simp [Window.ended, hno]

/-- The last part of the window has ended: the answers are read, of the one unit with its reading `e'`, and the boundary work is
done (R145). -/
theorem State.endWindow_read {s : State} {w : Window} {u : UnitIx} {x : Seg} {a : WindowAnswer} {e e' : UnitEntry}
    {r : StreamRecord} {m : Member} (hlaw : s.MembershipLaw) (hs : s.seng = some w) (hended : w.ended = true)
    (hnd : (w.participants.map (·.unit)).Nodup) (hp : { unit := u, seg := x, answer := .answered a } ∈ w.participants)
    (he : s.unit u = some e) (hr : s.rsch.active = some r) (hwin : r.window ≠ none) (hm : m ∈ r.members) (hu : m.unit = u)
    (hown : ∀ t : State, t.unit u = some e → t.timing = s.timing →
      State.Reads u t (t.takeReading u (readAnswer w.start w.count e.firstWindow (.answered a))) ∧
        (t.takeReading u (readAnswer w.start w.count e.firstWindow (.answered a))).unit u = some e') :
    ∃ t taken, s.endWindow = (t.blocksTaken w.start taken).complete.placedFrom (w.start + w.count) ∧
      State.MemberRead s t r m e' ∧ t.seng = none ∧
      taken.lookup m.unit = some (readAnswer w.start w.count e.firstWindow (.answered a)).taken := by
  subst hu
  obtain ⟨pre, post, hsplit, hpre, hpost⟩ := State.readings_split he hnd hp
  obtain ⟨hreads, hunit⟩ := State.readings_done (s := { s with seng := none }) hpre hpost he hown
  have hstart : State.Reads m.unit s ({ s with seng := none } : State) :=
    ⟨rfl, rfl, fun _ => rfl, fun _ => rfl, fun _ d hd hw => ⟨d, hd, hw, rfl⟩,
      fun r hr _ => ⟨r.members, hr, .refl _, fun _ h _ => h⟩, fun q hq => ⟨q, hq, fun _ h => h⟩⟩
  refine ⟨_, _, State.endWindow_ended hs hended, ?_, ?_, ?_⟩
  · rw [hsplit]
    exact ⟨hlaw, hr, hwin, hm, hstart.trans hreads, hunit⟩
  · rw [hsplit]
    exact hreads.seng rfl
  · rw [hsplit]
    exact lookup_taken hpre

end Sys2Proof.Machine

/-! The three outcomes of a window answer, and the obligation about them. -/

namespace Sys2Proof.Machine

section
variable {s : State} {x : Seg} {u : UnitIx} {e : UnitEntry} {t0 : Tick} {n : Nat} {f : InFlight} {part : WindowPart}
  {a : WindowAnswer} {w : Window}

/-- The state in which the last answer of the part of segment `x` is recorded and the part ended. -/
def State.partAnswered (s : State) (x : Seg) (w : Window) (u : UnitIx) (a : WindowAnswer) : State :=
  { s.concluded x with seng := some (w.answeredAt u a x) }

theorem exec_windowAnswer (hrun : s.running = true) (hf : (perGet s.links x).inFlight = some f)
    (hex : f.exchange = .window part) (hcalls : f.frame.body.calls (.windowAnswer a) = true) (hphase : f.phase = .waiting t0 n)
    (hcut : f.cut = false) (hmark : f.marked = false) :
    exec (.segmentAnswer x ⟨f.frame.dest, f.seq, .windowAnswer a⟩) s =
      .next ((s.clearSegRx x).partAnswer x f (some (.windowAnswer a))).finish := by
  have hab : f.abandons = false := by simp [InFlight.abandons, hmark]
  rw [exec_segmentAnswer hrun hf hphase hcalls]
  unfold State.waitEnded
  simp only [(s.inFlight_clearSegRx x).trans hf, hcut, hab, hex, Bool.false_eq_true, if_false]

/-- An answer within a part: it is recorded, and the next frame is sent (R141). -/
theorem State.partAnswer_goes {o : OutFrame} {rest : List OutFrame} (hunit : f.frame.unit = some u) (hw : s.seng = some w)
    (ht : f.todo = o :: rest) :
    (s.clearSegRx x).partAnswer x f (some (.windowAnswer a)) =
      { s with
        seng := some (w.record u (.answered a))
        links := perSet s.links x (({ perGet s.links x with rx := [] } : Link).send f.exchange o rest) } := by
  unfold State.partAnswer
  simp only [hunit, ht, windowAnswer]
  rw [show (s.clearSegRx x).seng = some w from hw]
  cases x <;> rfl

theorem State.partAnswer_ends (hunit : f.frame.unit = some u) (hw : s.seng = some w) (ht : f.todo = []) :
    (s.clearSegRx x).partAnswer x f (some (.windowAnswer a)) = (s.partAnswered x w u a).endWindow.settled := by
  unfold State.partAnswer
  simp only [hunit, ht, windowAnswer]
  rw [show (s.clearSegRx x).seng = some w from hw]
  rfl

end

theorem readAnswer_counts {w : Window} {a : WindowAnswer} (firstWindow : Bool) (hstart : a.start.toNat = w.start)
    (hone : 1 ≤ a.count.toNat) (hcount : a.count.toNat ≤ w.count) (herr : a.err = false) (hbusy : a.busy = false)
    (hno : a.noburst = false) : readAnswer w.start w.count firstWindow (.answered a) = ⟨a.count.toNat, false, false⟩ := by
  have hform : ¬(a.start.toNat ≠ w.start ∨ w.count < a.count.toNat) := by omega
  have hzero : (a.count.toNat == 0) = false := by simpa using (by omega : a.count.toNat ≠ 0)
  simp only [readAnswer, if_neg hform, herr, hbusy, hno, hzero, Bool.false_eq_true, if_false]

theorem readAnswer_faults {w : Window} {a : WindowAnswer} (firstWindow : Bool)
    (h : a.start.toNat ≠ w.start ∨ w.count < a.count.toNat ∨ a.err = true) :
    readAnswer w.start w.count firstWindow (.answered a) = ⟨0, true, false⟩ := by
  unfold readAnswer
  rcases h with h | h | h
  · exact if_pos (.inl h)
  · exact if_pos (.inr h)
  · simp only [h, if_true, ite_self]

theorem Member.without_zero (m : Member) (c : Nat) : m.without c 0 = m := by
  have h : m.owed.filter (fun b => !(decide (c ≤ b) && decide (b < c + 0))) = m.owed :=
    List.filter_eq_self.2 fun b _ => by simpa using Nat.lt_or_ge b c
  rw [Member.without, h]

/-- Settles O37: the answer within a part, the part's end, and the window's end with a count and with a fault. -/
theorem windowAnswersEndTheWindow : Obligations.WindowAnswersEndTheWindow := by
  intro s x u e t0 n f part a w r m hp hr hlaw hf hex hunit hcalls hphase hcut hmark he hw hcarry hrec hwindow hm hu hnd hpart
    answer recorded counts faults left
  subst hu
  have hexec : exec answer s = _ :=
    exec_windowAnswer (State.running_eq_true hp hr) hf hex hcalls hphase hcut hmark
  refine ⟨fun o rest ht => ?_, fun y ht hy hnot => ?_, fun ht hothers => ?_⟩
  · rw [State.partAnswer_goes hunit hw ht] at hexec
    exact ⟨_, hexec, State.ends_finish _⟩
  · rw [State.partAnswer_ends hunit hw ht, State.endWindow_going (w := w.answeredAt m.unit a x) rfl
      (Window.answeredAt_not_ended hy hnot _ _)] at hexec
    have hactive : (s.partAnswered x w m.unit a).rsch.active = some r := hrec
    have hwin : r.window ≠ none := by simp [hwindow]
    have hidles := State.settled_of_active hactive (.inr hwin)
    have hends := State.ends_finish (s.partAnswered x w m.unit a).settled
    have hframe : s.RestoreFrame (s.partAnswered x w m.unit a) := rfl
    refine ⟨_, hexec, hframe.trans ((State.settled_frame _).trans (.of_ends hends)), ?_, ?_, hends.permits, ?_⟩
    · rw [hends.same]
      exact hidles.units
    · rw [hends.same]
      exact hidles.ctxs
    · rw [hends.same]
      exact (State.settled_in_flight hactive hwin).1
  · rw [State.partAnswer_ends hunit hw ht] at hexec
    have hwin : r.window ≠ none := by simp [hwindow]
    have hread {e' : UnitEntry} := State.endWindow_read (s := s.partAnswered x w m.unit a) (e' := e') hlaw rfl
      (Window.answeredAt_ended hcarry hothers m.unit a) ((w.record_units m.unit (.answered a)).symm ▸ hnd)
      (Window.record_answered (.answered a) hpart) he hrec hwin hm rfl
    have hends := State.ends_finish (s.partAnswered x w m.unit a).endWindow.settled
    have hframe : s.RestoreFrame (s.partAnswered x w m.unit a).endWindow.settled.finish :=
      (show s.RestoreFrame (s.partAnswered x w m.unit a) from rfl).trans
        ((State.endWindow_frame _).trans ((State.settled_frame _).trans (.of_ends hends)))
    have hstream : e.state = .stream := by
      obtain ⟨d, hd, hs⟩ := (hlaw.2.1 m.unit).1 (by rw [State.activeUnits_eq hrec]; exact List.mem_map_of_mem hm)
      exact Option.some.inj (he.symm.trans hd) ▸ hs
    have hstate {d e' : UnitEntry} (hd : d.state = .stream) (h : e' = d ∨ e' = d.goto .suspended) :
        e'.state = .stream ∨ e'.state = .suspended := by
      rcases h with rfl | rfl
      · exact .inl hd
      · exact .inr rfl
    refine ⟨fun hcounts hleft hj => ?_, fun hcounts hleft => ?_, fun hfaults howed hlimit => ?_⟩
    · obtain ⟨hstart, hone, hcount, herr, hbusy, hno⟩ := hcounts
      have hreading := readAnswer_counts e.firstWindow hstart hone hcount herr hbusy hno
      obtain ⟨t, taken, hend, hmem, -, hlook⟩ := hread (e' := e.readAs ⟨a.count.toNat, false, false⟩) fun t ht _ => by
        rw [show readAnswer (w.answeredAt m.unit a x).start (w.answeredAt m.unit a x).count e.firstWindow (.answered a) = _
          from hreading]
        exact State.takeReading_good ht rfl
      replace hlook := hlook.trans (congrArg (fun r => some r.taken) hreading)
      rw [hend] at hexec hends hframe
      obtain ⟨hunit', hlacks, hhands⟩ := hmem.verifies hlook hleft hj hends
      obtain ⟨hact, hsus⟩ := (State.lacks_iff _ _).1 hlacks
      exact ⟨_, _, hexec, hframe, hmem.ctxs hends, hends.permits, hunit', rfl, rfl, rfl, hact, hsus,
        fun hslot => (s.concluded_acts x m.unit).hands (hhands hslot), rfl⟩
    · obtain ⟨hstart, hone, hcount, herr, hbusy, hno⟩ := hcounts
      have hreading := readAnswer_counts e.firstWindow hstart hone hcount herr hbusy hno
      obtain ⟨t, taken, hend, hmem, hseng, hlook⟩ := hread (e' := e.readAs ⟨a.count.toNat, false, false⟩) fun t ht _ => by
        rw [show readAnswer (w.answeredAt m.unit a x).start (w.answeredAt m.unit a x).count e.firstWindow (.answered a) = _
          from hreading]
        exact State.takeReading_good ht rfl
      replace hlook := hlook.trans (congrArg (fun r => some r.taken) hreading)
      rw [hend] at hexec hends hframe
      obtain ⟨⟨e', he', hcase⟩, hin⟩ := hmem.kept hlook hleft hends
      have hkeep : e'.decl = e.decl ∧ e'.retry = e.retry ∧ e'.firstWindow = false ∧ e'.joined = e.joined := by
        rcases hcase with rfl | rfl
        · exact ⟨rfl, rfl, rfl, rfl⟩
        · exact ⟨rfl, rfl, rfl, Bool.and_true _⟩
      exact ⟨_, e', hexec, hframe, hmem.ctxs hends, hends.permits, he', hkeep.1,
        hstate (d := e.readAs ⟨a.count.toNat, false, false⟩) hstream hcase, hkeep.2.1, hkeep.2.2.1, hkeep.2.2.2, hin, fun hj hlow => hmem.next_window hlook hleft hseng hj hlow hends⟩
    · have hreading := readAnswer_faults (w := w) e.firstWindow hfaults
      obtain ⟨t, taken, hend, hmem, -, hlook⟩ :=
        hread (e' := { e.readAs ⟨0, true, false⟩ with retry := e.retry + 1 }) fun t ht htiming => by
          rw [show readAnswer (w.answeredAt m.unit a x).start (w.answeredAt m.unit a x).count e.firstWindow (.answered a) = _
            from hreading]
          exact State.takeReading_fault ht rfl (by rw [htiming]; exact hlimit)
      replace hlook := hlook.trans (congrArg (fun r => some r.taken) hreading)
      rw [hend] at hexec hends hframe
      obtain ⟨⟨e', he', hcase⟩, hin⟩ := hmem.kept hlook (by rw [m.without_zero]; exact howed) hends
      rw [m.without_zero] at hin
      have hkeep : e'.decl = e.decl ∧ e'.retry = e.retry + 1 ∧ e'.firstWindow = false := by
        rcases hcase with rfl | rfl <;> exact ⟨rfl, rfl, rfl⟩
      exact ⟨_, e', hexec, hframe, hmem.ctxs hends, hends.permits, he', hkeep.1,
        hstate (d := { e.readAs ⟨0, true, false⟩ with retry := e.retry + 1 }) hstream hcase, hkeep.2.1, hkeep.2.2, hin⟩

end Sys2Proof.Machine

/-! Unit requests that change the unit table: the scheduler's own work follows, and the reply is owed (R65 to R68, R178, R191). -/

namespace Sys2Proof.Machine

/-! ### Exchanges that a link holds of no unit -/

/-- A unit has no place on a link that holds no exchange of it (R77). -/
theorem Link.place_eq_absent (l : Link) (u : UnitIx) : l.place u = .absent ↔ ∀ ex, ex.unit? = some u → ¬l.Holds ex := by
  have hflight : (l.inFlight.any fun f => f.exchange.unit? == some u && !f.cut) = true ↔
      ∃ f, l.inFlight = some f ∧ f.exchange.unit? = some u ∧ f.cut = false := by
    cases l.inFlight <;> simp
  have hqueue : (l.queue.any fun q => q.unit? == some u) = true ↔ ∃ q ∈ l.queue, q.unit? = some u := by simp
  unfold Link.place
  split
  · next h =>
    obtain ⟨f, hf, hu, hcut⟩ := hflight.1 h
    exact iff_of_false (fun h => by cases h) fun hn => hn _ hu (.inr ⟨f, hf, rfl, hcut⟩)
  · next h =>
    split
    · next h' =>
      obtain ⟨q, hq, hu⟩ := hqueue.1 h'
      exact iff_of_false (fun h => by cases h) fun hn => hn q hu (.inl hq)
    · next h' =>
      refine iff_of_true rfl fun ex hex hh => ?_
      rcases hh with hq | ⟨f, hf, rfl, hcut⟩
      · exact h' (hqueue.2 ⟨ex, hq, hex⟩)
      · exact h (hflight.2 ⟨f, hf, hex, hcut⟩)

theorem Link.not_holds_withdraw (l : Link) {u : UnitIx} {ex : Exchange} (hex : ex.unit? = some u) : ¬(l.withdraw u).Holds ex := by
  rintro (hq | ⟨f, hf, hfx, hcut⟩)
  · obtain ⟨q, hq', rfl⟩ := List.mem_map.1 hq
    obtain ⟨-, hne⟩ := List.mem_filter.1 hq'
    have hunit : (q.withoutMember u).unit? = q.unit? := by cases q <;> rfl
    rw [hunit] at hex
    simp [hex] at hne
  · obtain ⟨f', -, rfl⟩ := Option.map_eq_some_iff.1 hf
    unfold InFlight.withdraw at hfx hcut
    split at hcut
    · cases hcut
    · next h =>
      rw [if_neg h] at hfx
      exact h (by rw [← hex, ← hfx])

theorem Link.choose_mem {l : Link} {ex : Exchange} (h : l.choose = some ex) : ex ∈ l.queue := by
  have find {p : Exchange → Bool} (h : l.queue.find? p = some ex) : ex ∈ l.queue := List.mem_of_find?_eq_some h
  unfold Link.choose at h
  simp only [Option.orElse_eq_orElse, Option.orElse_eq_or, Option.or_eq_some_iff] at h
  rcases h with h | ⟨-, h | ⟨-, h | ⟨-, h⟩⟩⟩ <;> exact find h

/-- The arbiter's step gives a link no exchange (R83). -/
theorem Link.holds_of_arbitrate {l : Link} {ex : Exchange} {frames : Exchange → List OutFrame}
    (h : (l.arbitrate frames).Holds ex) : l.Holds ex := by
  unfold Link.arbitrate at h
  split at h
  · exact h
  · split at h
    · exact h
    · next c hc =>
      have hc' := Link.choose_mem hc
      unfold Link.carry at h
      split at h
      · exact h.imp List.mem_of_mem_erase id
      · rcases h with h | ⟨f, hf, hfx, -⟩
        · exact .inl (List.mem_of_mem_erase h)
        · obtain rfl := Option.some.inj hf
          exact .inl (hfx ▸ hc')

theorem State.Ends.place_absent {s t : State} (h : State.Ends s t) {x : Seg} {u : UnitIx}
    (ha : (perGet s.links x).place u = .absent) : (perGet t.links x).place u = .absent := by
  rw [Link.place_eq_absent] at ha ⊢
  intro ex hex hh
  rw [h.links x] at hh
  exact ha ex hex (Link.holds_of_arbitrate hh)

/-- An exchange that a link holds is still held when a command ends, where it has frames. -/
theorem State.Ends.holds {s t : State} (h : State.Ends s t) {v : UnitIx} {e : UnitEntry} (he : s.unit v = some e)
    {ex : Exchange} (hex : ex.unit? = some v) (hn : ex.namesImage = true → (s.slot e.decl.slot).info? ≠ none) {x : Seg}
    (hh : (perGet s.links x).Holds ex) : (perGet t.links x).Holds ex := by
  rw [h.links x]
  exact Link.holds_arbitrate hh (State.framesOf_ne_nil hex he hn)

/-! ### A request granted -/

/-- A unit request has been granted: its own work leads from `s` to `q`, the scheduler's follows, the reply is owed, and the
command ends at `t`. -/
structure State.Granted (s q : State) (kind tag : Byte) (b : Result) (t : State) : Prop where
  frame : s.RestoreFrame t
  owed : t.clnk.owed = s.clnk.owed ++ [⟨kind, tag, .ok b⟩]
  ended : State.Ends (q.settled.replied kind tag (.ok b)) t

section
variable {s q t : State} {kind tag : Byte} {b : Result} {u : UnitIx}

theorem State.replied_frame (s : State) (kind tag : Byte) (st : Status) : s.RestoreFrame (s.replied kind tag st) := rfl

theorem State.replied_passes (s : State) (kind tag : Byte) (st : Status) {v : UnitIx} : s.Passes (s.replied kind tag st) v :=
  .of_same rfl fun hl => hl

theorem oweAnswer_okay (s : State) (kind tag : Byte) (b : Result) :
    oweAnswer kind tag (okay s b) = s.replied kind tag (.ok b) := rfl

theorem State.granted (hw : s.Works q) :
    State.Granted s q kind tag b (q.settled.replied kind tag (.ok b)).finish := by
  have hends := State.ends_finish (q.settled.replied kind tag (.ok b))
  refine ⟨(hw.frame.trans q.settled_frame).trans (.trans (q.settled.replied_frame kind tag _) (.of_ends hends)), ?_, hends⟩
  rw [hends.same]
  exact congrArg (fun c : ControlLink => c.owed ++ [⟨kind, tag, .ok b⟩]) (q.settled_works.clnk.trans hw.clnk)

/-- A request whose work settles. -/
theorem State.request_granted {p : List Byte} {need : Option (BitVec 16)} {act : State → Answer} (h : s.TakesWork)
    (hp : p.length ≤ 1060) (hneed : need = none) (ha : act s = okay q.settled b) :
    (Host.Outcome.next (s.request kind tag false p need act) : Host.Outcome State Fault Refusal) =
      .next (q.settled.replied kind tag (.ok b)).finish := by
  obtain ⟨ht, hl⟩ := h
  subst hneed
  rw [State.request_works ht hp (.inr hl), ha, oweAnswer_okay]

theorem State.granted_spares (hlaw : s.MembershipLaw) (hpass : ∀ v, u ≠ v → s.Passes q v) :
    s.SparesOthers (q.settled.replied kind tag (.ok b)).finish u :=
  hlaw.spares fun v hv =>
    (hpass v hv).trans (q.settled_passes.trans ((q.settled.replied_passes kind tag _).trans (State.finishAfter_passes _ none)))

theorem State.Granted.ctxs (h : State.Granted s q kind tag b t) : t.ctxs = q.ctxs := by
  rw [h.ended.same]
  exact q.settled_keepsUnits.ctxs

theorem State.Granted.unit_eq (h : State.Granted s q kind tag b t) (hi : q.Idle u) : t.unit u = q.unit u :=
  (h.ended.unit_eq u).trans (q.settled_rests hi).2.1

theorem State.Granted.lacks (h : State.Granted s q kind tag b t) (hi : q.Idle u) : u ∉ t.activeUnits ∧ u ∉ t.suspendedUnits := by
  refine (State.lacks_iff _ _).1 ?_
  rw [h.ended.same]
  exact (q.settled_rests hi).1.1

theorem State.Granted.hands (h : State.Granted s q kind tag b t) (hi : q.Idle u) {e : UnitEntry} (he : q.unit u = some e)
    {ex : Exchange} (hex : ex.unit? = some u) (hn : ex.namesImage = true → (q.slot e.decl.slot).info? ≠ none) {x : Seg}
    (hh : s.Hands q x ex) : s.Hands t x ex := by
  intro hx
  obtain ⟨-, hunit, hkeeps⟩ := q.settled_rests hi
  refine h.ended.holds (hunit.trans he) hex (fun hi => ?_) ((hkeeps x ex hex).2 (hh hx))
  exact fun hnone => hn hi ((congrArg Slot.info? (q.settled_works.slot e.decl.slot)).symm.trans hnone)

theorem State.Granted.place_absent (h : State.Granted s q kind tag b t) (hi : q.Idle u) {x : Seg}
    (ha : (perGet q.links x).place u = .absent) : (perGet t.links x).place u = .absent := by
  refine h.ended.place_absent ?_
  rw [Link.place_eq_absent] at ha ⊢
  exact fun ex hex hh => ha ex hex (((q.settled_rests hi).2.2 x ex hex).1 hh)

end

/-! ### DEFINE_UNIT (R56, R57) -/

theorem State.definitionOf_eq {p : List Byte} {u : UnitIx} {d : UnitDef} (hu : u8 p 0 = u.val) (hx : seg? (u8 p 1) = some d.seg)
    (ha : u8 p 2 = d.addr) (hc : class? (u8 p 3) = some d.cls) (hk : u8 p 4 = d.slot.val)
    (hl : u8 p 5 = d.level ∧ d.level ≤ 7 ∨ u8 p 5 = 0xFF ∧ d.level = d.cls.defaultLevel) (h1 : 1 ≤ d.addr) (h30 : d.addr ≤ 30) :
    definitionOf p = .ok ⟨u, d⟩ := by
  have hlevel : levelOf? d.cls (u8 p 5) = some d.level := by
    rcases hl with ⟨h, h7⟩ | ⟨h, hd⟩
    · have : ¬u8 p 5 = wordByte := by rw [h]; unfold wordByte; omega
      rw [levelOf?, if_neg this, if_pos (by omega), h]
    · rw [levelOf?, if_pos (show u8 p 5 = wordByte from h), hd]
  have haddr : (!decide (1 ≤ d.addr ∧ d.addr ≤ 30)) = false := by simp [h1, h30]
  unfold definitionOf
  simp only [unitIx?_of_eq hu, hx, hc, slotIx?_of_eq hk, haddr, hlevel, ha, Bool.false_eq_true, if_false]

/-- The entry, context record and unreported flags that DEFINE_UNIT writes (R57). -/
def State.defined (s : State) (u : UnitIx) (d : UnitDef) : State :=
  { s with
    units := s.units.set u.val (some (.fresh d s.timing.maxWindow))
    ctxs := s.ctxs.set u.val .blank
    cflu := s.cflu.forgetUnit u (BitVec.allOnes 13) }

theorem State.unit_defined (s : State) (u v : UnitIx) (d : UnitDef) :
    (s.defined u d).unit v = if u = v then some (.fresh d s.timing.maxWindow) else s.unit v :=
  State.unit_putUnit s u v _

theorem State.mem_othersOn (s : State) (u v : UnitIx) (x : Seg) :
    v ∈ s.othersOn u x ↔ ∃ e, s.unit v = some e ∧ e.decl.seg = x ∧ v ≠ u := by
  have hall : v ∈ allUnits := List.mem_finRange v
  unfold State.othersOn
  simp only [List.mem_filter, hall, true_and, Bool.and_eq_true, bne_iff_ne, ne_eq]
  cases s.unit v with
  | none => simp
  | some e => simp [and_comm]

/-- Settles O51: a definition that passes its checks. -/
theorem defineUnitMakesAFreshEntry : Obligations.DefineUnitMakesAFreshEntry := by
  intro s tag p u d ht hlaw hlen hu hx ha hc hk hl h1 h30 hdef haddr hcount hslot
  have hdefinable : s.definable u = true := by
    unfold State.definable
    rcases hdef with h | ⟨e, h, hs | hs⟩
    · rw [h]
      rfl
    · simp [h, hs]
    · simp [h, hs]
  have hfree : s.addressTaken ⟨u, d⟩ = false := by
    refine Bool.eq_false_iff.2 fun h => ?_
    obtain ⟨v, hv, htaken⟩ := List.any_eq_true.1 h
    obtain ⟨e, he, hseg, hne⟩ := (s.mem_othersOn u v d.seg).1 hv
    simp only [he, Option.any_some, beq_iff_eq] at htaken
    exact haddr v e hne he hseg htaken
  have hwork : s.defineWork p = okay (s.define ⟨u, d⟩).settled (.level d.level) := by
    unfold State.defineWork
    simp only [State.definitionOf_eq hu hx ha hc hk hl h1 h30, hdefinable, hfree, if_neg (Nat.not_le.2 hcount), Bool.not_true,
      Bool.false_eq_true, if_false]
    split
    · next i hi => rw [if_neg (not_not.2 (hslot i hi))]
    · rfl
  have hself : (s.defined u d).unit u = some (.fresh d s.timing.maxWindow) := by rw [State.unit_defined, if_pos rfl]
  have hpass (v : UnitIx) (hv : u ≠ v) : s.Passes (s.define ⟨u, d⟩) v :=
    .trans (t := s.defined u d) (.of_same (by rw [State.unit_defined, if_neg hv]) fun hl => hl) ((State.enterProbe_acts (u := u) _).passes v hv)
  have hlacks : s.rsch.Lacks u := (hlaw.apart fun e he => by
    rcases hdef with h | ⟨e', h, hs⟩
    · rw [h] at he; cases he
    · rcases Option.some.inj (h.symm.trans he) ▸ hs with h | h <;> simp [h]).1
  have hunit : (s.define ⟨u, d⟩).unit u = some ((UnitEntry.fresh d s.timing.maxWindow).probed (s.serves d.seg)) :=
    State.unit_enterProbe hself
  have hctxs : (s.define ⟨u, d⟩).ctxs = (s.putCtx u .blank).ctxs := State.ctxs_enterProbe (s.defined u d) u
  have hidle : (s.define ⟨u, d⟩).Idle u :=
    ⟨(State.enterProbe_acts (u := u) (s.defined u d)).lacks hlacks, fun e he hw =>
      absurd hw (Option.some.inj (hunit.symm.trans he) ▸ UnitEntry.probed_state_ne_wait _ _)⟩
  have hdone := State.granted (kind := 0x06) (tag := tag) (b := .level d.level) (s.define_works ⟨u, d⟩)
  have hctx (v : UnitIx) := (State.ctx_congr (hdone.ctxs.trans hctxs) v).trans (State.ctx_putCtx s u v .blank)
  refine ⟨_, State.request_granted ht (by omega) (fixedNeed_eq hlen) hwork, hdone.frame, State.granted_spares hlaw hpass,
    hdone.ended.permits, fun hs => ?_, hdone.owed, (hctx u).trans (if_pos rfl), fun v hv => (hctx v).trans (if_neg hv.symm), ?_⟩
  · exact hdone.hands hidle hunit rfl (fun h => by cases h) (State.hands_enterProbe hself hs)
  · rw [hdone.unit_eq hidle, hunit]
    cases s.serves d.seg <;> rfl

end Sys2Proof.Machine

/-! REMOVE_UNIT, ISOLATE, ADMIT, FORCE_RESTORE and RESOLVE (R65 to R68, R178, R179). -/

namespace Sys2Proof.Machine

section
variable {s : State} {u : UnitIx} {e : UnitEntry}

/-! ### Withdrawal (R65) -/

theorem State.withdraw_lacks (s : State) (u : UnitIx) : (s.withdraw u).rsch.Lacks u :=
  (s.rsch_withdraw u).symm ▸ Scheduler.lacks_removeAll _ u _ (by simp)

theorem State.withdraw_absent (he : s.unit u = some e) : (perGet (s.withdraw u).links e.decl.seg).place u = .absent := by
  have hw : (s.withdraw u).links = (s.onLink e.decl.seg (·.withdraw u)).links := by
    unfold State.withdraw State.withdrawLink
    split
    · next h => cases he.symm.trans h
    · next d hd =>
      obtain rfl := Option.some.inj (he.symm.trans hd)
      rfl
  rw [hw, State.perGet_onLink, if_pos rfl, Link.place_eq_absent]
  exact fun ex hex => Link.not_holds_withdraw _ hex

theorem State.unit_remove (s : State) (u v : UnitIx) : (s.remove u).unit v = if u = v then none else s.unit v :=
  (getElem_set_ix _ u v none).trans (by rw [show (s.withdraw u).units[v.val] = s.unit v from s.unit_withdraw u v])

theorem State.ctx_remove (s : State) (u v : UnitIx) : (s.remove u).ctx v = if u = v then .blank else s.ctx v :=
  (getElem_set_ix _ u v _).trans (by rw [show (s.withdraw u).ctxs[v.val] = s.ctx v from State.ctx_congr s.ctxs_withdraw v])

theorem State.remove_passes {v : UnitIx} (hv : u ≠ v) : s.Passes (s.remove u) v :=
  (s.withdraw_passes u).trans (.of_same (by rw [State.unit_remove, if_neg hv, State.unit_withdraw]) fun hl => hl)

/-- Settles O52: REMOVE_UNIT, and ISOLATE. -/
theorem removeAndIsolateWithdrawTheUnit : Obligations.RemoveAndIsolateWithdrawTheUnit := by
  intro s tag b u e ht hlaw hb he
  have hu : u8 [b] 0 = u.val := hb
  constructor
  · have hdone := State.granted (kind := 0x07) (tag := tag) (b := .nothing) (s.remove_works u)
    have hnone : (s.remove u).unit u = none := by rw [State.unit_remove, if_pos rfl]
    have hidle : (s.remove u).Idle u :=
      ⟨s.withdraw_lacks u, fun d hd => by rw [hnone] at hd; cases hd⟩
    have hctx (v : UnitIx) := (State.ctx_congr hdone.ctxs v).trans (s.ctx_remove u v)
    obtain ⟨hact, hsus⟩ := hdone.lacks hidle
    exact ⟨_, State.request_granted ht (by simp) (fixedNeed_eq rfl) (State.onUnit_eq hu he), hdone.frame,
      State.granted_spares hlaw fun v hv => State.remove_passes hv, hdone.ended.permits, hdone.owed,
      (hdone.unit_eq hidle).trans hnone, (hctx u).trans (if_pos rfl), fun v hv => (hctx v).trans (if_neg hv.symm), hact, hsus,
      hdone.place_absent hidle (State.withdraw_absent he)⟩
  · intro hst
    have hacts : State.Acts u s ((s.withdraw u).move u .isolated id) := s.withdraw_acts.trans (State.move_acts _ _ _)
    have hdone := State.granted (kind := 0x21) (tag := tag) (b := .nothing)
      ((s.withdraw_works u).trans (State.move_works (s.withdraw u) u .isolated id))
    have hunit := State.unit_moved ((s.unit_withdraw u u).trans he) .isolated
    have hidle : ((s.withdraw u).move u .isolated id).Idle u :=
      ⟨s.withdraw_lacks u, fun d hd hw => absurd hw (Option.some.inj (hunit.symm.trans hd) ▸ by simp [UnitEntry.goto])⟩
    obtain ⟨hact, hsus⟩ := hdone.lacks hidle
    have hwork : s.isolateWork [b] = okay ((s.withdraw u).move u .isolated id).settled .nothing := by
      rw [State.isolateWork, State.onUnit_eq hu he, if_neg hst]
    refine ⟨_, State.request_granted ht (by simp) (fixedNeed_eq rfl) hwork, hdone.frame,
      State.granted_spares hlaw hacts.passes, hdone.ended.permits, hdone.owed, hdone.ctxs.trans s.ctxs_withdraw, hact, hsus,
      hdone.place_absent hidle (State.withdraw_absent he), (hdone.unit_eq hidle).trans (hunit.trans ?_)⟩
    simp [UnitEntry.goto]

/-! ### ADMIT and FORCE_RESTORE (R67, R68) -/

/-- A unit taken back into the restore: in PROBE where its segment serves, in DARK elsewhere, with retry count 0. -/
def UnitEntry.Reprobed (e e' : UnitEntry) (serves : Bool) : Prop :=
  e'.decl = e.decl ∧ e'.retry = 0 ∧ e'.running = none ∧ e'.pending = none ∧ e'.restrained = false ∧
    e'.heldCount = e.heldCount ∧ e'.heldVersion = e.heldVersion ∧ e'.flags = e.flags ∧
    (serves = true → e'.state = .probe ∧ e'.probe = some ⟨.probing, 0⟩) ∧ (serves = false → e'.state = .dark)

theorem UnitEntry.reprobed (e : UnitEntry) (b : Bool) :
    e.Reprobed ((({ e with retry := 0, running := none } : UnitEntry)).probed b) b := by
  cases b <;> simp [UnitEntry.Reprobed, UnitEntry.probed, UnitEntry.goto]

theorem UnitEntry.reprobed_of_dark (e : UnitEntry) (b : Bool) :
    e.Reprobed (({ e.goto .dark with retry := 0 } : UnitEntry).probed b) b := by
  cases b <;> simp [UnitEntry.Reprobed, UnitEntry.probed, UnitEntry.goto]

theorem State.freezeIfLive_acts (s : State) : State.Acts u s (s.freezeIfLive u) := by
  unfold State.freezeIfLive
  split
  · exact s.freezeAndAge_acts
  · exact .refl s

theorem State.unit_freezeIfLive (s : State) (v : UnitIx) : (s.freezeIfLive u).unit v = s.unit v := by
  unfold State.freezeIfLive
  split <;> rfl

theorem State.force_acts (s : State) : State.Acts u s (s.force u) :=
  s.withdraw_acts.trans ((State.freezeIfLive_acts _).trans ((State.modUnit_acts _ _).trans (State.enterProbe_acts _)))

/-- The state in which a forced unit enters PROBE. -/
theorem State.force_prepared (he : s.unit u = some e) :
    (((s.withdraw u).freezeIfLive u).modUnit u fun e => { e with retry := 0, running := none }).unit u =
      some { e with retry := 0, running := none } := by
  rw [State.unit_modUnit, if_pos rfl, State.unit_freezeIfLive, State.unit_withdraw, he, Option.map_some]

theorem State.force_spec (he : s.unit u = some e) :
    (s.force u).Idle u ∧
      (∃ e', (s.force u).unit u = some e' ∧ e.Reprobed e' (s.serves e.decl.seg)) ∧
      (s.serves e.decl.seg = true → s.Hands (s.force u) e.decl.seg (.probe u 0)) := by
  have hacts : State.Acts u s (((s.withdraw u).freezeIfLive u).modUnit u fun e => { e with retry := 0, running := none }) :=
    s.withdraw_acts.trans ((State.freezeIfLive_acts _).trans (State.modUnit_acts _ _))
  have hunit := State.unit_enterProbe (State.force_prepared he)
  have hlacks : (s.force u).rsch.Lacks u :=
    ((State.freezeIfLive_acts (s.withdraw u)).trans ((State.modUnit_acts _ _).trans (State.enterProbe_acts _))).lacks
      (s.withdraw_lacks u)
  refine ⟨⟨hlacks, fun d hd hw => ?_⟩, ⟨_, hunit, ?_⟩, fun hs => ?_⟩
  · exact absurd hw (Option.some.inj (hunit.symm.trans hd) ▸ UnitEntry.probed_state_ne_wait _ _)
  · exact hacts.serves e.decl.seg ▸ e.reprobed _
  · exact hacts.hands (State.hands_enterProbe (e := { e with retry := 0, running := none }) (State.force_prepared he) ((hacts.serves _).trans hs))

theorem State.ctxs_force_of_not_live (he : s.unit u = some e) (hst : e.state ≠ .live) : (s.force u).ctxs = s.ctxs := by
  have hno : (s.withdraw u).unitIn u .live = false := by
    simpa [State.unitIn, State.unit_withdraw, he] using hst
  refine (State.ctxs_enterProbe _ u).trans ?_
  change ((s.withdraw u).freezeIfLive u).ctxs = s.ctxs
  rw [State.freezeIfLive, hno, if_neg Bool.false_ne_true, State.ctxs_withdraw]

theorem State.ctx_force_of_live (he : s.unit u = some e) (hst : e.state = .live) :
    ((s.force u).ctx u).validity ≠ .current ∧ ((s.force u).ctx u).validity ≠ .written := by
  have hlive : (s.withdraw u).unitIn u .live = true := by
    simpa [State.unitIn, State.unit_withdraw, he] using hst
  have hc : (s.force u).ctx u = ((s.withdraw u).freezeAndAge u).ctx u := by
    refine State.ctx_congr ((State.ctxs_enterProbe _ u).trans ?_) u
    change ((s.withdraw u).freezeIfLive u).ctxs = _
    rw [State.freezeIfLive, hlive, if_pos rfl]
  rw [hc]
  exact ⟨(State.ctx_freezeAndAge ((s.unit_withdraw u u).trans he)).1, (State.ctx_freezeAndAge ((s.unit_withdraw u u).trans he)).2.1⟩

theorem State.force_rests (s : State) {v : UnitIx} (h : u ≠ v) : s.Rests (s.force u) v :=
  (s.withdraw_rests h).trans (.trans (t := (s.withdraw u).freezeIfLive u)
    (.of_same (State.unit_freezeIfLive _ v) (fun hl => by unfold State.freezeIfLive; split <;> exact hl)
      (by unfold State.freezeIfLive; split <;> rfl) fun _ _ _ => by unfold State.freezeIfLive; split <;> rfl)
    ((State.modUnit_rests _ _ h).trans (State.enterProbe_rests _ h)))

theorem State.readmit_acts (s : State) : State.Acts u s (s.readmit u) :=
  (s.move_acts _ _).trans ((State.freezeAndAge_acts _).trans (State.enterProbe_acts _))

theorem State.readmit_spec (he : s.unit u = some e) :
    (∃ e', (s.readmit u).unit u = some e' ∧ e'.state ≠ .wait ∧ e.Reprobed e' (s.serves e.decl.seg)) ∧
      (s.serves e.decl.seg = true → s.Hands (s.readmit u) e.decl.seg (.probe u 0)) ∧
      ((s.readmit u).ctx u).validity ≠ .current ∧ ((s.readmit u).ctx u).validity ≠ .written := by
  have hmoved : (s.move u .dark fun e => { e with retry := 0 }).unit u = some { e.goto .dark with retry := 0 } := by
    rw [State.unit_move, if_pos rfl, he, Option.map_some]
  have hacts : State.Acts u s ((s.move u .dark fun e => { e with retry := 0 }).freezeAndAge u) :=
    (s.move_acts _ _).trans (State.freezeAndAge_acts _)
  have hprep : ((s.move u .dark fun e => { e with retry := 0 }).freezeAndAge u).unit u =
      some { e.goto .dark with retry := 0 } := hmoved
  refine ⟨⟨_, State.unit_enterProbe hprep, UnitEntry.probed_state_ne_wait _ _, ?_⟩, fun hs => ?_, ?_⟩
  · exact hacts.serves e.decl.seg ▸ e.reprobed_of_dark _
  · exact hacts.hands (State.hands_enterProbe (e := { e.goto .dark with retry := 0 }) hprep ((hacts.serves _).trans hs))
  · have hc : (s.readmit u).ctx u = ((s.move u .dark fun e => { e with retry := 0 }).freezeAndAge u).ctx u :=
      State.ctx_congr (State.ctxs_enterProbe _ u) u
    rw [hc]
    exact ⟨(State.ctx_freezeAndAge hmoved).1, (State.ctx_freezeAndAge hmoved).2.1⟩

/-! ### FORCE_RESTORE of several units (R68) -/

/-- The units of a list are forced one after the other: none of them changes what the segments serve and which links run. -/
theorem State.foldl_force_frame (l : List UnitIx) (s : State) :
    (∀ x, (l.foldl State.force s).serves x = s.serves x) ∧
      (∀ x, (perGet (l.foldl State.force s).links x).halted = (perGet s.links x).halted) ∧ s.Works (l.foldl State.force s) := by
  induction l generalizing s with
  | nil => exact ⟨fun _ => rfl, fun _ => rfl, .refl s⟩
  | cons v l ih =>
    obtain ⟨hs, hh, hw⟩ := ih (s.force v)
    have hacts : State.Acts v s (s.force v) := s.force_acts
    exact ⟨fun x => (hs x).trans (hacts.serves x), fun x => (hh x).trans (hacts.halted x), (s.force_works v).trans hw⟩

theorem State.foldl_force_rests (l : List UnitIx) (s : State) (hu : u ∉ l) : s.Rests (l.foldl State.force s) u :=
  .foldl State.force l (fun v hv t => t.force_rests fun (h : v = u) => hu (h ▸ hv)) s

/-- A unit of the list that is idle at the start is forced by its own turn. -/
theorem State.foldl_force_spec {l : List UnitIx} (hl : l.Nodup) (hu : u ∈ l) (he : s.unit u = some e) (hi : s.Idle u) :
    (l.foldl State.force s).Idle u ∧
      (∃ e', (l.foldl State.force s).unit u = some e' ∧ e.Reprobed e' (s.serves e.decl.seg)) ∧
      (s.serves e.decl.seg = true → s.Hands (l.foldl State.force s) e.decl.seg (.probe u 0)) := by
  obtain ⟨pre, post, rfl⟩ := List.append_of_mem hu
  rw [List.nodup_append, List.nodup_cons] at hl
  obtain ⟨-, ⟨hpost, -⟩, hpre⟩ := hl
  have hpre' : u ∉ pre := fun h => hpre u h u (List.mem_cons_self ..) rfl
  rw [List.foldl_append, List.foldl_cons]
  obtain ⟨hserves, hhalted, -⟩ := State.foldl_force_frame pre s
  obtain ⟨-, hunit, -⟩ := State.foldl_force_rests pre s hpre' hi
  obtain ⟨hi', ⟨e', he', hprobed⟩, hhands⟩ := State.force_spec (hunit.trans he)
  obtain ⟨hi'', hunit', hkeeps⟩ := State.foldl_force_rests post ((pre.foldl State.force s).force u) hpost hi'
  rw [hserves] at hprobed hhands
  exact ⟨hi'', ⟨e', hunit'.trans he', hprobed⟩, fun hs hx => (hkeeps _ _ rfl).2 (hhands hs ((hhalted _).trans hx))⟩

end

theorem UnitState.forcible_iff (st : UnitState) : st.forcible = true ↔ st = .live ∨ st = .failed ∨ st = .held := by
  cases st <;> simp [UnitState.forcible]

/-- Settles O53: ADMIT, FORCE_RESTORE of one unit, and of ALL. -/
theorem admitAndForceRestoreProbeAgain : Obligations.AdmitAndForceRestoreProbeAgain := by
  intro s tag ht hlaw probed handed forcible
  refine ⟨fun b u e hb he => ?_, ?_⟩
  · have hu : u8 [b] 0 = u.val := hb
    refine ⟨fun hst => ?_, fun hst => ?_⟩
    · have hdone := State.granted (kind := 0x22) (tag := tag) (b := .nothing) (s.readmit_works u)
      obtain ⟨⟨e', he', hwait, hprobed⟩, hhands, hcur, hwritten⟩ := State.readmit_spec he
      have hidle : (s.readmit u).Idle u :=
        (State.readmit_acts (u := u) s).idle (hlaw.lacks he (by rw [hst]; decide)) he' hwait
      have hwork : s.admitWork [b] = okay (s.readmit u).settled .nothing := by
        rw [State.admitWork, State.onUnit_eq hu he, if_pos hst]
      have hctx := State.ctx_congr hdone.ctxs u
      exact ⟨_, State.request_granted ht (by simp) (fixedNeed_eq rfl) hwork, hdone.frame,
        State.granted_spares hlaw (State.readmit_acts s).passes, hdone.ended.permits, hdone.owed, hctx ▸ hcur, hctx ▸ hwritten,
        fun hs => hdone.hands hidle he' rfl (fun h => by cases h) (hhands hs), e', (hdone.unit_eq hidle).trans he', hprobed⟩
    · have hdone := State.granted (kind := 0x20) (tag := tag) (b := .nothing) (s.force_works u)
      obtain ⟨hidle, ⟨e', he', hprobed⟩, hhands⟩ := State.force_spec he
      have hno : ¬u8 [b] 0 = wordByte := by rw [hu]; exact fun h => absurd u.isLt (by unfold wordByte at h; omega)
      have hwork : s.forceWork [b] = okay (s.force u).settled .nothing := by
        rw [State.forceWork, if_neg hno, State.onUnit_eq hu he, if_pos ((UnitState.forcible_iff _).2 hst)]
      have hctx := State.ctx_congr hdone.ctxs u
      exact ⟨_, State.request_granted ht (by simp) (fixedNeed_eq rfl) hwork, hdone.frame,
        State.granted_spares hlaw (State.force_acts s).passes, hdone.ended.permits, hdone.owed,
        fun hl => hdone.ctxs.trans (State.ctxs_force_of_not_live he hl), fun hl => hctx ▸ State.ctx_force_of_live he hl,
        fun hs => hdone.hands hidle he' rfl (fun h => by cases h) (hhands hs), e', (hdone.unit_eq hidle).trans he', hprobed⟩
  · have hdone := State.granted (kind := 0x20) (tag := tag) (b := .acted s.forcibleUnits.length)
      (State.foldl_force_frame s.forcibleUnits s).2.2
    have hin (v : UnitIx) : v ∈ s.forcibleUnits ↔ ∃ d, s.unit v = some d ∧ forcible d := by
      have hall : v ∈ allUnits := List.mem_finRange v
      simp only [State.forcibleUnits, List.mem_filter, hall, true_and]
      cases s.unit v with
      | none => simp
      | some d => simpa using UnitState.forcible_iff d.state
    refine ⟨_, s.forcibleUnits.length, State.request_granted ht (by simp) (fixedNeed_eq rfl) (if_pos rfl), hdone.frame,
      hdone.ended.permits, hdone.owed, rfl, fun u e he => ⟨fun hf => ?_, fun hst => ?_⟩⟩
    · have hidle : s.Idle u := ⟨hlaw.lacks he (by rcases hf with h | h | h <;> simp [h]), fun d hd hw => by
        obtain rfl := Option.some.inj (he.symm.trans hd)
        rcases hf with h | h | h <;> simp [h] at hw⟩
      obtain ⟨hidle', ⟨e', he', hprobed⟩, hhands⟩ :=
        State.foldl_force_spec ((List.nodup_finRange 24).filter _) ((hin u).2 ⟨e, he, hf⟩) he hidle
      exact ⟨fun hs => hdone.hands hidle' he' rfl (fun h => by cases h) (hhands hs), e', (hdone.unit_eq hidle').trans he', hprobed⟩
    · have hidle : s.Idle u := ⟨hlaw.lacks he (by rcases hst with h | h | h | h | h <;> simp [h]), fun d hd hw => by
        obtain rfl := Option.some.inj (he.symm.trans hd)
        rcases hst with h | h | h | h | h <;> simp [h] at hw⟩
      have hnot : u ∉ s.forcibleUnits := by
        intro h
        obtain ⟨d, hd, hf⟩ := (hin u).1 h
        obtain rfl := Option.some.inj (he.symm.trans hd)
        rcases hst with h | h | h | h | h <;> simp [forcible, h] at hf
      obtain ⟨hidle', hunit, -⟩ := State.foldl_force_rests s.forcibleUnits s hnot hidle
      exact (hdone.unit_eq hidle').trans (hunit.trans he)

end Sys2Proof.Machine

/-! RESOLVE of a HELD unit (R178, R179). -/

namespace Sys2Proof.Machine

/-- A RESOLVE has been answered with the state `st` in which it leaves the unit, and the exchange, if any, is handed. -/
def State.Resolved (s : State) (u : UnitIx) (e : UnitEntry) (tag b action : Byte) (st : UnitState) (handed : Option Exchange)
    (good : UnitEntry → Prop) : Prop :=
  ∃ t, exec (.resolve tag [b, action]) s = .next t ∧ s.RestoreFrame t ∧ s.SparesOthers t u ∧ t.PermitLaw ∧
    t.ctxs = s.ctxs ∧ t.clnk.owed = s.clnk.owed ++ [⟨0x23, tag, .ok (.unitState st)⟩] ∧
    (∀ ex, handed = some ex → s.Hands t e.decl.seg ex) ∧
    ∃ e', t.unit u = some e' ∧ e'.decl = e.decl ∧ e'.state = st ∧ e'.pending = none ∧ good e'

/-- The action leads to `q`, in which the unit's entry is `e'`, out of WAIT. -/
theorem State.resolved {s q : State} {tag b action : Byte} {u : UnitIx} {e e' : UnitEntry} {a : ResolveAction} {st : UnitState}
    {handed : Option Exchange} {good : UnitEntry → Prop} (ht : s.TakesWork) (hlaw : s.MembershipLaw) (hb : b.toNat = u.val)
    (he : s.unit u = some e) (hheld : e.state = .held) (ha : action? (u8 [b, action] 1) = some a)
    (hq : s.resolveAs u e a = q) (hacts : State.Acts u s q) (hc : q.ctxs = s.ctxs) (he' : q.unit u = some e')
    (hdecl : e'.decl = e.decl) (hst : e'.state = st) (hwait : st ≠ .wait) (hpend : e'.pending = none)
    (hhands : ∀ ex, handed = some ex → ex.unit? = some u ∧ ex.namesImage = false ∧ s.Hands q e.decl.seg ex)
    (hgood : good e') : s.Resolved u e tag b action st handed good := by
  subst hst
  have hu : u8 [b, action] 0 = u.val := hb
  have hidle : q.Idle u := hacts.idle (hlaw.lacks he (by rw [hheld]; decide)) he' hwait
  have hstate : q.settled.stateOf u = e'.state := by
    rw [State.stateOf, (q.settled_rests hidle).2.1, he']
    rfl
  have hwork : s.resolveWork [b, action] = okay q.settled (.unitState e'.state) := by
    rw [State.resolveWork, State.onUnit_eq hu he]
    simp only [hheld, ne_eq, not_true_eq_false, if_false, ha, hq, hstate]
  have hdone := State.granted (kind := 0x23) (tag := tag) (b := .unitState e'.state) (hq ▸ s.resolveAs_works u e a)
  refine ⟨_, State.request_granted ht (by simp) (fixedNeed_eq rfl) hwork, hdone.frame, State.granted_spares hlaw hacts.passes,
    hdone.ended.permits, hdone.ctxs.trans hc, hdone.owed, fun ex hex => ?_, e', (hdone.unit_eq hidle).trans he', hdecl, rfl, hpend,
    hgood⟩
  obtain ⟨hunit, hn, hh⟩ := hhands ex hex
  exact hdone.hands hidle he' hunit (fun h => by rw [hn] at h; cases h) hh

section
variable {s : State} {tag b : Byte} {u : UnitIx} {e : UnitEntry}

/-- FAIL, and PROCEED where that is the condition's default action (R178, R179). -/
theorem State.resolved_failed {action : Byte} {a : ResolveAction} (ht : s.TakesWork) (hlaw : s.MembershipLaw)
    (hb : b.toNat = u.val) (he : s.unit u = some e) (hheld : e.state = .held) (ha : action? (u8 [b, action] 1) = some a)
    (hq : s.resolveAs u e a = s.toFailed u) :
    s.Resolved u e tag b action .failed none fun e' =>
      e'.retry = e.retry ∧ e'.flags = e.flags ||| BitVec.twoPow 13 UnitFlag.failed.bit := by
  have hunit := s.unit_toFailed (u := u)
  rw [he, Option.map_some] at hunit
  exact State.resolved ht hlaw hb he hheld ha hq s.toFailed_acts s.ctxs_toFailed hunit rfl rfl (by decide) rfl
    (fun _ h => by cases h) ⟨rfl, rfl⟩

/-- RETRY: the unit is probed again with retry count 0 (R178). -/
theorem State.resolved_retried (ht : s.TakesWork) (hlaw : s.MembershipLaw) (hb : b.toNat = u.val) (he : s.unit u = some e)
    (hheld : e.state = .held) :
    s.Resolved u e tag b 1 (if s.serves e.decl.seg then .probe else .dark)
      (if s.serves e.decl.seg then some (.probe u 0) else none) fun e' => e'.retry = 0 ∧ e'.flags = e.flags := by
  have hm : (s.modUnit u fun e => { e with retry := 0 }).unit u = some { e with retry := 0 } := by
    rw [State.unit_modUnit, if_pos rfl, he, Option.map_some]
  have hmod : State.Acts u s (s.modUnit u fun e => { e with retry := 0 }) := s.modUnit_acts _
  have hacts := hmod.trans (State.enterProbe_acts _)
  have hctxs : ((s.modUnit u fun e => { e with retry := 0 }).enterProbe u).ctxs = s.ctxs := State.ctxs_enterProbe _ u
  have hunit := State.unit_enterProbe hm
  rw [show (s.modUnit u fun e => { e with retry := 0 }).serves ({ e with retry := 0 } : UnitEntry).decl.seg = _ from
    hmod.serves e.decl.seg] at hunit
  cases hs : s.serves e.decl.seg with
  | false =>
    rw [hs] at hunit
    exact State.resolved ht hlaw hb he hheld rfl rfl hacts hctxs hunit rfl rfl (by decide) rfl (fun _ h => by cases h) ⟨rfl, rfl⟩
  | true =>
    rw [hs] at hunit
    have hhands := hmod.hands (State.hands_enterProbe (e := { e with retry := 0 }) hm ((hmod.serves e.decl.seg).trans hs))
    exact State.resolved ht hlaw hb he hheld rfl rfl hacts hctxs hunit rfl rfl (by decide) rfl
      (fun ex hex => Option.some.inj hex ▸ ⟨rfl, rfl, hhands⟩) ⟨rfl, rfl⟩

theorem State.enterProbeWith_spec (he : s.unit u = some e) (hs : s.serves e.decl.seg = true) (r : ProbeRecord) (ex : Exchange) :
    (s.enterProbeWith u r ex).unit u = some { e.goto .probe with probe := some r } ∧
      s.Hands (s.enterProbeWith u r ex) e.decl.seg ex ∧ (s.enterProbeWith u r ex).ctxs = s.ctxs := by
  have hm : (s.move u .probe fun e => { e with probe := some r }).unit u = some { e.goto .probe with probe := some r } := by
    rw [State.unit_move, if_pos rfl, he, Option.map_some]
  unfold State.enterProbeWith
  simp only [he, hs, if_true]
  exact ⟨(State.unit_hand _ u u ex).trans hm, (State.move_acts s .probe _).hands (State.hands_hand hm ex), State.ctxs_hand _ _⟩

end

/-- Settles O54: RETRY, FAIL, and PROCEED of three pending conditions. -/
theorem resolveActsOnAHeldUnit : Obligations.ResolveActsOnAHeldUnit := by
  intro s tag b u e ht hlaw hb he hst acts
  refine ⟨State.resolved_retried ht hlaw hb he hst, State.resolved_failed ht hlaw hb he hst rfl rfl, fun hpend => ?_,
    fun hpend hs => ?_, fun hpend hx => ?_⟩
  · have hq : s.resolveAs u e .proceed = s.toFailed u := by
      simp only [State.resolveAs, State.proceed, hpend]
    exact State.resolved_failed ht hlaw hb he hst rfl hq
  · have hq : s.resolveAs u e .proceed = s.enterProbeWith u ⟨.restarting .ahead, 0⟩ (.restart u) := by
      simp only [State.resolveAs, State.proceed, hpend]
    obtain ⟨hunit, hhands, hctxs⟩ := State.enterProbeWith_spec he hs ⟨.restarting .ahead, 0⟩ (.restart u)
    exact State.resolved ht hlaw hb he hst rfl hq (State.enterProbeWith_acts s _ _) hctxs hunit rfl rfl (by decide) rfl
      (fun ex hex => Option.some.inj hex ▸ ⟨rfl, rfl, hhands⟩) ⟨rfl, rfl⟩
  · have hq : s.resolveAs u e .proceed = (s.move u .context id).queueForm u .unknown := by
      simp only [State.resolveAs, State.proceed, hpend, State.unlessDown, hx, if_true]
    have hm := State.unit_moved he .context
    exact State.resolved ht hlaw hb he hst rfl hq ((s.move_acts .context id).trans (State.queueForm_acts _ _))
      (State.ctxs_queueForm (s.move u .context id) u .unknown) (State.unit_queueForm hm .unknown) rfl rfl (by decide) rfl
      (fun ex hex => Option.some.inj hex ▸ ⟨rfl, rfl, (s.move_acts .context id).hands (State.hands_queueForm hm .unknown)⟩)
      ⟨rfl, rfl⟩

end Sys2Proof.Machine

/-! Work that goes through a list of units one after the other, each turn leaving the other units; and the settle expiry, which
probes the DARK units so (R26, R61, R82). -/

namespace Sys2Proof.Machine

/-! ### Turns of units -/

/-- From `s` to `t` unit `v` is left its entry and its exchanges, and what the segments serve and which links run stands. -/
structure State.Leaves (v : UnitIx) (s t : State) : Prop where
  unit : t.unit v = s.unit v
  exchanges : s.KeepsExchanges t v
  serves : ∀ x, t.serves x = s.serves x
  halted : ∀ x, (perGet t.links x).halted = (perGet s.links x).halted

section
variable {s t : State} {u v : UnitIx}

theorem State.Leaves.refl (v : UnitIx) (s : State) : State.Leaves v s s :=
  ⟨rfl, fun _ _ _ => Iff.rfl, fun _ => rfl, fun _ => rfl⟩

theorem State.Leaves.trans {r : State} (h : State.Leaves v s t) (h' : State.Leaves v t r) : State.Leaves v s r :=
  ⟨h'.unit.trans h.unit, fun x ex hex => (h'.exchanges x ex hex).trans (h.exchanges x ex hex),
    fun x => (h'.serves x).trans (h.serves x), fun x => (h'.halted x).trans (h.halted x)⟩

/-- What a unit's own work leaves another unit. -/
theorem State.Acts.leaves (h : State.Acts u s t) (hu : t.unit v = s.unit v) (hx : s.KeepsExchanges t v) : State.Leaves v s t :=
  ⟨hu, hx, h.serves, h.halted⟩

theorem State.move_leaves (s : State) (h : u ≠ v) (st : UnitState) (f : UnitEntry → UnitEntry) :
    State.Leaves v s (s.move u st f) :=
  (s.move_acts st f).leaves (by rw [State.unit_move, if_neg h]) fun _ _ _ => Iff.rfl

theorem State.modUnit_leaves (s : State) (h : u ≠ v) (f : UnitEntry → UnitEntry) : State.Leaves v s (s.modUnit u f) :=
  (s.modUnit_acts f).leaves (by rw [State.unit_modUnit, if_neg h]) fun _ _ _ => Iff.rfl

theorem State.hand_leaves (s : State) (h : u ≠ v) {ex : Exchange} (hex : ex.unit? = some u) : State.Leaves v s (s.hand u ex) :=
  (s.hand_acts ex).leaves (s.unit_hand u v ex) (s.hand_keepsExchanges ex hex h)

theorem State.enterProbe_leaves (s : State) (h : u ≠ v) : State.Leaves v s (s.enterProbe u) := by
  unfold State.enterProbe State.enterProbeWith
  split
  · exact .refl v s
  · split
    · exact (s.move_leaves h _ _).trans (State.hand_leaves _ h rfl)
    · exact s.move_leaves h _ _

theorem State.pollDueNow_leaves (s : State) (h : u ≠ v) : State.Leaves v s (s.pollDueNow u) :=
  (s.modUnit_leaves h _).trans (State.hand_leaves _ h rfl)

variable {f : State → UnitIx → State} (hf : ∀ (s : State) (u v : UnitIx), u ≠ v → State.Leaves v s (f s u))
include hf

theorem State.foldl_leaves (l : List UnitIx) (s : State) (hv : v ∉ l) : State.Leaves v s (l.foldl f s) := by
  induction l generalizing s with
  | nil => exact .refl v s
  | cons u l ih =>
    exact (hf s u v fun h => hv (by simp [h])).trans (ih _ fun h => hv (by simp [h]))

/-- The unit's own turn, and what comes before and after it leaves the unit. -/
theorem State.foldl_turn {l : List UnitIx} (hl : l.Nodup) (hv : v ∈ l) (s : State) :
    ∃ p, State.Leaves v s p ∧ State.Leaves v (f p v) (l.foldl f s) := by
  obtain ⟨pre, post, rfl⟩ := List.append_of_mem hv
  rw [List.nodup_append, List.nodup_cons] at hl
  obtain ⟨-, ⟨hpost, -⟩, hpre⟩ := hl
  rw [List.foldl_append, List.foldl_cons]
  exact ⟨_, State.foldl_leaves hf pre s fun h => hpre v h v (List.mem_cons_self ..) rfl, State.foldl_leaves hf post _ hpost⟩

end

/-! ### The DARK units probed (R61, R82) -/

section
variable {s : State} {u : UnitIx} {e : UnitEntry} {p : UnitIx → Bool}

theorem State.mem_probed (he : s.unit u = some e) :
    u ∈ allUnits.filter (fun u => p u && s.unitIn u .dark) ↔ p u = true ∧ e.state = .dark := by
  have hall : u ∈ allUnits := List.mem_finRange u
  simp [hall, State.unitIn, he]

theorem State.probeDark_spec (he : s.unit u = some e) :
    (p u = true → e.state = .dark → (s.probeDark p).unit u = some (e.probed (s.serves e.decl.seg)) ∧
      (s.serves e.decl.seg = true → s.Hands (s.probeDark p) e.decl.seg (.probe u 0))) ∧
      (¬(p u = true ∧ e.state = .dark) → (s.probeDark p).unit u = some e) := by
  have hleaves : ∀ (s : State) (u v : UnitIx), u ≠ v → State.Leaves v s (s.enterProbe u) := fun s _ _ h => s.enterProbe_leaves h
  constructor
  · intro hp hst
    obtain ⟨q, hbefore, hafter⟩ :=
      State.foldl_turn hleaves ((List.nodup_finRange 24).filter _) ((State.mem_probed he).2 ⟨hp, hst⟩) s
    have hq : q.unit u = some e := hbefore.unit.trans he
    have hunit := State.unit_enterProbe hq
    rw [hbefore.serves] at hunit
    refine ⟨hafter.unit.trans hunit, fun hs hx => ?_⟩
    exact (hafter.exchanges _ _ rfl).2 (State.hands_enterProbe hq ((hbefore.serves _).trans hs) ((hbefore.halted _).trans hx))
  · exact fun hno => (State.foldl_leaves hleaves _ s fun h => hno ((State.mem_probed he).1 h)).unit.trans he

theorem State.probeDark_same (s : State) (p : UnitIx → Bool) :
    (s.probeDark p).ctxs = s.ctxs ∧ s.KeepsFlags (s.probeDark p) ∧ (s.probeDark p).gapc = s.gapc := by
  refine ⟨?_, ?_, s.gapc_probeDark p⟩
  · unfold State.probeDark
    generalize allUnits.filter _ = l
    induction l generalizing s with
    | nil => rfl
    | cons u l ih => exact (ih _).trans (State.ctxs_enterProbe s u)
  · unfold State.probeDark
    generalize allUnits.filter _ = l
    induction l generalizing s with
    | nil => exact .of_eq rfl
    | cons u l ih => exact (State.enterProbe_acts (u := u) s).flags.trans (ih _)

end

end Sys2Proof.Machine

/-! The settle expiry (R21, R25 to R27, R61, R78, R96, R162). -/

namespace Sys2Proof.Machine

section
variable {s : State} {u : UnitIx} {e : UnitEntry}

/-! ### Entry to RESTORE -/

theorem State.usable_enterRestore (s : State) (x : Seg) : s.enterRestore.usable x = s.usable x := rfl

theorem State.serves_enterRestore (s : State) (x : Seg) : s.enterRestore.serves x = s.usable x :=
  Bool.true_and _

theorem State.links_enterRestore (s : State) (x : Seg) :
    perGet s.enterRestore.links x = if s.usable x then (perGet s.links x).start else perGet s.links x := by
  cases x <;> rfl

theorem State.ctx_enterRestore (s : State) (u : UnitIx) :
    s.enterRestore.ctx u = match s.unit u with
      | none => s.ctx u
      | some e => (s.ctx u).age s.timing e.decl.cls s.tick := by
  refine (getElem_ofFn_ix _ u).trans ?_
  unfold State.agedCtx
  rw [State.unit, getElem_ofFn_ix]
  cases s.unit u <;> rfl

theorem ContextRecord.tooOld_iff (r : ContextRecord) (limit : Nat) (now : Tick) :
    r.tooOld limit now = true ↔
      r.ageUnknown = true ∨ ∃ captured, r.capturedAt = some captured ∧ limit < (now - captured).toNat := by
  unfold ContextRecord.tooOld
  cases r.capturedAt <;> simp

theorem ContextRecord.age_of_limit {r : ContextRecord} {t : TimingSettings} {cls : UnitClass} {limit : Nat} {now : Tick}
    (h : cls = .door ∧ limit = t.ageDoor ∨ cls = .ramp ∧ limit = t.ageRamp) :
    r.age t cls now = if r.validity = .frozen ∧ r.knowsPosition ∧ r.tooOld limit now then
      { r with content := r.content.map Content.indefinite } else r := by
  rcases h with ⟨rfl, rfl⟩ | ⟨rfl, rfl⟩ <;> rfl

theorem ContextRecord.age_of_other {r : ContextRecord} {t : TimingSettings} {cls : UnitClass} {now : Tick} (hd : cls ≠ .door)
    (hr : cls ≠ .ramp) : r.age t cls now = r := by
  cases cls with
  | door => exact absurd rfl hd
  | ramp => exact absurd rfl hr
  | _ => rfl

/-! ### The end of the settle -/

/-- A unit's entry after the settle expiry. -/
def UnitEntry.atRestore (e : UnitEntry) (usable : Bool) : UnitEntry :=
  if e.state = .dark ∧ usable = true then ({ e with retry := 0 } : UnitEntry).probed true else { e with retry := 0 }

theorem UnitEntry.atRestore_spec (e : UnitEntry) (usable : Bool) :
    (e.atRestore usable).decl = e.decl ∧ (e.atRestore usable).retry = 0 ∧
      (e.atRestore usable).state = (if e.state = .dark ∧ usable = true then .probe else e.state) ∧
      (e.state = .dark → usable = true → (e.atRestore usable).probe = some ⟨.probing, 0⟩) := by
  unfold UnitEntry.atRestore
  split
  · exact ⟨rfl, rfl, rfl, fun _ _ => rfl⟩
  · next h => exact ⟨rfl, rfl, rfl, fun hd hu => absurd ⟨hd, hu⟩ h⟩

theorem UnitEntry.atRestore_demands (e : UnitEntry) (usable : Bool) :
    (e.atRestore usable).state.demands = e.state.demands := by
  rw [(e.atRestore_spec usable).2.2.1]
  split
  · next h =>
    rw [h.1]
    rfl
  · rfl

/-- The state that the demand test is made in. -/
def State.restoring (s : State) : State :=
  s.enterRestore.probeDark s.enterRestore.unitUsable

theorem State.unit_restoring (s : State) (u : UnitIx) :
    s.restoring.unit u = (s.unit u).map fun e => e.atRestore (s.usable e.decl.seg) := by
  cases he : s.unit u with
  | none =>
    have hnone : s.enterRestore.unit u = none := by rw [State.unit_enterRestore, he]; rfl
    refine (State.foldl_leaves (fun s _ _ h => s.enterProbe_leaves h) _ s.enterRestore fun h => ?_).unit.trans hnone
    simp [State.unitIn, hnone] at h
  | some e =>
    have hr : s.enterRestore.unit u = some { e with retry := 0 } := by rw [State.unit_enterRestore, he]; rfl
    obtain ⟨hprobed, hrest⟩ := State.probeDark_spec (p := s.enterRestore.unitUsable) hr
    have hp : s.enterRestore.unitUsable u = s.usable e.decl.seg := by simp [State.unitUsable, hr, State.usable_enterRestore]
    rw [hp] at hprobed hrest
    rw [Option.map_some, UnitEntry.atRestore]
    split
    · next h =>
      obtain ⟨hd, hu⟩ := h
      refine (hprobed hu hd).1.trans ?_
      rw [State.serves_enterRestore, hu]
    · next h => exact hrest fun hc => h ⟨hc.2, hc.1⟩

theorem State.holds_restoring (he : s.unit u = some e) (hd : e.state = .dark) (hu : s.usable e.decl.seg = true) :
    (perGet s.restoring.links e.decl.seg).Holds (.probe u 0) := by
  have hr : s.enterRestore.unit u = some { e with retry := 0 } := by rw [State.unit_enterRestore, he]; rfl
  have hp : s.enterRestore.unitUsable u = true := by simp [State.unitUsable, hr, State.usable_enterRestore, hu]
  refine ((State.probeDark_spec hr).1 hp hd).2 ((s.serves_enterRestore _).trans hu) ?_
  rw [State.links_enterRestore, if_pos hu]
  rfl

theorem State.demandNow_restoring (s : State) :
    s.restoring.demandNow = true ↔ ∃ u e, s.unit u = some e ∧ s.usable e.decl.seg = true ∧ e.state.demands = true := by
  have husable (x : Seg) : s.restoring.usable x = s.usable x :=
    (State.probeDark_works s.enterRestore _).frame.usable x
  have hall (u : UnitIx) : u ∈ allUnits := List.mem_finRange u
  simp only [State.demandNow, List.any_eq_true, hall, true_and, State.holdsDemand, State.unit_restoring, husable]
  refine exists_congr fun u => ?_
  cases s.unit u with
  | none => simp
  | some e => simp [(e.atRestore_spec _).1, e.atRestore_demands, and_comm]

theorem UnitState.demands_iff (st : UnitState) :
    st.demands = true ↔ st = .dark ∨ st = .probe ∨ st = .wait ∨ st = .stream ∨ st = .suspended ∨ st = .verify ∨ st = .context := by
  cases st <;> simp [UnitState.demands]

theorem State.gapc_restoring (s : State) : s.restoring.gapc = s.enterRestore.gapc :=
  State.gapc_probeDark _ _

theorem State.restoring_same (s : State) : s.restoring.ctxs = s.enterRestore.ctxs ∧ s.enterRestore.KeepsFlags s.restoring :=
  ⟨(State.probeDark_same _ _).1, (State.probeDark_same _ _).2.1⟩

theorem State.enterRestore_gapEnd (s : State) : s.enterRestore.cflu.device.getLsbD DeviceFlag.gapEnd.bit = true :=
  (FlagUnit.getLsbD_setDevice _ _ _).trans (by simp [DeviceFlag.bit])

theorem State.restoring_works (s : State) : s.enterRestore.Works s.restoring :=
  State.probeDark_works _ _

theorem State.settleEnd_eq (s : State) : s.settleEnd = s.restoring.testDemand := rfl

theorem State.testDemand_same (s : State) :
    s.testDemand.units = s.units ∧ s.testDemand.ctxs = s.ctxs ∧ s.testDemand.links = s.links ∧ s.KeepsFlags s.testDemand ∧
      s.testDemand.tick = s.tick ∧ s.testDemand.gapc = { s.gapc with
        state := s.testDemand.gapc.state, demand := s.testDemand.gapc.demand } ∧
      (s.demandNow = true → s.testDemand.gapc.state = s.gapc.state ∧ s.testDemand.gapc.demand = true) ∧
      (s.demandNow = false → s.testDemand.gapc.state = .supplied ∧ s.testDemand.gapc.demand = false ∧
        s.testDemand.cflu.device.getLsbD DeviceFlag.restoreDone.bit = true) := by
  unfold State.testDemand
  cases hd : s.demandNow with
  | true => exact ⟨rfl, rfl, rfl, .of_eq rfl, rfl, rfl, fun _ => ⟨rfl, rfl⟩, fun h => (by cases h)⟩
  | false =>
    refine ⟨rfl, rfl, rfl, s.setDevice_keepsFlags .restoreDone, rfl, rfl, fun h => (by cases h), fun _ => ⟨rfl, rfl, ?_⟩⟩
    exact (FlagUnit.getLsbD_setDevice _ _ _).trans (by simp [DeviceFlag.bit])

end

theorem exec_settleExpiry {s : State} (hrun : s.running = true) (hd : s.settleDue = true) :
    exec .settleExpiry s = .next s.settleEnd.finish :=
  congrArg Host.Outcome.next (if_pos (by rw [hrun, hd]; rfl))

/-- Settles O29: the settle expiry. -/
theorem settleExpiryEntersRestore : Obligations.SettleExpiryEntersRestore := by
  intro s b n hp hr hstate hstart htime hdue demand
  have hd : s.settleDue = true := by
    unfold State.settleDue
    rw [hstate, hstart, htime]
    exact decide_eq_true hdue
  have hexec := exec_settleExpiry (State.running_eq_true hp hr) hd
  obtain ⟨hunits, hctxs, hlinks, hflags, htick, hgapc, hdemand, hnone⟩ := s.restoring.testDemand_same
  obtain ⟨hctxs', hflags'⟩ := s.restoring_same
  replace hctxs : s.restoring.testDemand.ctxs = s.enterRestore.ctxs := hctxs.trans hctxs'
  rw [s.settleEnd_eq] at hexec
  generalize s.restoring.testDemand = q at hexec hunits hctxs hlinks hflags htick hgapc hdemand hnone
  have hends := State.ends_finish q
  refine ⟨_, hexec, ?_⟩
  generalize q.finish = t at hends
  have hunit (u : UnitIx) : t.unit u = (s.unit u).map fun e => e.atRestore (s.usable e.decl.seg) := by
    rw [hends.unit_eq, State.unit, hunits]
    exact s.unit_restoring u
  have hctx (u : UnitIx) : t.ctx u = s.enterRestore.ctx u := by
    refine State.ctx_congr ?_ u
    rw [hends.same]
    exact hctxs
  have hg : t.gapc = q.gapc := by
    rw [hends.same]
  have hdem : s.restoring.demandNow = true ↔ demand := by
    rw [State.demandNow_restoring]
    simp only [UnitState.demands_iff]
    rfl
  refine ⟨?_, fun hd => ?_, fun hd => ?_, ?_, ?_, hends.permits, fun x hx => ?_, fun u hu => ⟨?_, ?_⟩, ?_,
    fun u e he hdoor hramp => ?_,
    fun u e he => ⟨e.atRestore (s.usable e.decl.seg), ?_, (e.atRestore_spec _).1, (e.atRestore_spec _).2.1,
      (e.atRestore_spec _).2.2.1, fun hd hx => ⟨(e.atRestore_spec _).2.2.2 hd hx, ?_⟩⟩⟩
  · have hduration : s.gapc.duration = if s.gapc.durUnknown then none else some (b - s.gapc.start) := by
      simp [GapCtl.duration, hstart]
    rw [hg]
    refine hgapc.trans ?_
    rw [s.gapc_restoring, ← hduration]
    rfl
  · rw [hg, (hdemand (hdem.2 hd)).1, (hdemand (hdem.2 hd)).2, s.gapc_restoring]
    exact ⟨rfl, rfl⟩
  · obtain ⟨hsupplied, hdem', hflag⟩ := hnone (Bool.eq_false_iff.2 fun h => hd (hdem.1 h))
    rw [hg, hsupplied, hdem']
    exact ⟨rfl, rfl, hends.keepsFlags _ hflag⟩
  · exact hends.keepsFlags _ (hflags _ (hflags' _ s.enterRestore_gapEnd))
  · rw [hends.same]
    exact htick.trans s.restoring_works.frame.tick
  · rw [hends.links x, (Link.arbitrate_spec _ _).1, hlinks, (s.restoring_works.links x).1,
      State.links_enterRestore, if_pos hx]
    rfl
  · rw [hunit, hu]
    rfl
  · rw [hctx, State.ctx_enterRestore, hu]
  · intro u e limit he r old hlimit
    refine ⟨fun c p hfrozen hcontent hpos hold => ?_, fun hstand => ?_⟩
    · have hknows : r.knowsPosition = true := by simp [ContextRecord.knowsPosition, hcontent, hpos]
      rw [hctx, State.ctx_enterRestore, he]
      refine (ContextRecord.age_of_limit hlimit).trans ?_
      rw [if_pos ⟨hfrozen, hknows, (r.tooOld_iff limit s.tick).2 hold⟩, hcontent]
      rfl
    · rw [hctx, State.ctx_enterRestore, he]
      refine (ContextRecord.age_of_limit hlimit).trans (if_neg ?_)
      rintro ⟨hfrozen, hknows, hold⟩
      rcases hstand with h | h | h
      · exact h hfrozen
      · exact h ((r.tooOld_iff limit s.tick).1 hold)
      · obtain ⟨c, p, hcontent, hpos⟩ := r.knowsPosition_iff.1 hknows
        exact h c p hcontent hpos
  · rw [hctx, State.ctx_enterRestore, he]
    exact ContextRecord.age_of_other hdoor hramp
  · rw [hunit, he]
    rfl
  · refine hends.holds ((hends.unit_eq u).symm.trans ((hunit u).trans (by rw [he]; rfl))) rfl (fun h => by cases h) ?_
    rw [hlinks]
    exact State.holds_restoring he hd hx

end Sys2Proof.Machine

/-! A segment that becomes usable in SUPPLIED or RESTORE: its link starts empty, and the polls of its LIVE units and the probes of
its DARK units join the queue in rising order of unit index (R13, R63, R82, R92). -/

namespace Sys2Proof.Machine

/-! ### The polls of a link -/

/-- The units whose context polls stand in a list of exchanges. -/
def pollUnits (l : List Exchange) : List UnitIx :=
  (l.filter Exchange.isPoll).filterMap Exchange.unit?

theorem pollUnits_append (l r : List Exchange) : pollUnits (l ++ r) = pollUnits l ++ pollUnits r := by
  simp [pollUnits]

theorem pollUnits_sublist {l r : List Exchange} (h : l.Sublist r) : (pollUnits l).Sublist (pollUnits r) :=
  (h.filter _).filterMap _

/-- The oldest poll taken to the front: the units stand as before. -/
theorem pollUnits_oldest {q : List Exchange} {ex : Exchange} (h : q.find? Exchange.isPoll = some ex) :
    pollUnits (ex :: q.erase ex) = pollUnits q := by
  have hp : ex.isPoll = true := List.find?_some h
  induction q with
  | nil => cases h
  | cons a q ih =>
    rw [List.find?_cons] at h
    cases ha : a.isPoll with
    | true =>
      rw [ha] at h
      obtain rfl := Option.some.inj h
      rw [List.erase_cons_head]
    | false =>
      rw [ha] at h
      have hne : a ≠ ex := fun h => by rw [h, hp] at ha; cases ha
      rw [List.erase_cons_tail (by simpa using hne)]
      have hpolls := ih h
      simp only [pollUnits, List.filter_cons, hp, ha] at hpolls ⊢
      exact hpolls

theorem Link.polls_eq (l : Link) : l.polls = pollUnits ((l.inFlight.map (·.exchange)).toList ++ l.queue) := rfl

theorem Link.polls_sublist {l r : Link} (hf : l.inFlight.map (·.exchange) = r.inFlight.map (·.exchange))
    (hq : (pollUnits l.queue).Sublist (pollUnits r.queue)) : l.polls.Sublist r.polls := by
  rw [Link.polls_eq, Link.polls_eq, pollUnits_append, pollUnits_append, hf]
  exact (List.Sublist.refl _).append hq

/-- What is handed that is no context poll adds none (R82). -/
theorem Link.polls_hand (l : Link) {ex : Exchange} (h : ex.isPoll = false) : (l.hand ex).polls.Sublist l.polls := by
  refine Link.polls_sublist rfl ?_
  unfold Link.hand
  simp only
  split
  · exact .refl _
  · have hex : pollUnits [ex] = [] := by simp [pollUnits, h]
    rw [pollUnits_append, hex, List.append_nil]
    exact pollUnits_sublist List.filter_sublist

theorem Link.polls_withdraw (l : Link) (u : UnitIx) : (l.withdraw u).polls.Sublist l.polls := by
  refine Link.polls_sublist ?_ ?_
  · cases hf : l.inFlight with
    | none => simp [Link.withdraw, hf]
    | some f =>
      simp only [Link.withdraw, hf, Option.map_some]
      unfold InFlight.withdraw
      split <;> rfl
  · have hmap (q : List Exchange) : pollUnits (q.map (·.withoutMember u)) = pollUnits q := by
      induction q with
      | nil => rfl
      | cons a q ih =>
        rw [List.map_cons, ← List.singleton_append, ← List.singleton_append (x := a), pollUnits_append, pollUnits_append, ih]
        cases a <;> rfl
    change (pollUnits ((l.queue.filter _).map _)).Sublist _
    rw [hmap]
    exact pollUnits_sublist List.filter_sublist

theorem Link.setYield_same (l : Link) (y : Bool) :
    (l.setYield y).yieldOn = y ∧ (l.setYield y).queue = l.queue ∧
      (l.setYield y).inFlight.map (fun f => (f.exchange, f.cut)) = l.inFlight.map fun f => (f.exchange, f.cut) := by
  have hmap (g : InFlight → InFlight) (hg : ∀ f, (g f).exchange = f.exchange ∧ (g f).cut = f.cut) (o : Option InFlight) :
      (o.map g).map (fun f => (f.exchange, f.cut)) = o.map fun f => (f.exchange, f.cut) := by
    cases o with
    | none => rfl
    | some f => simp [hg]
  unfold Link.setYield
  split
  · next h => exact ⟨h.symm, rfl, rfl⟩
  · split
    · next hy =>
      simp only
      split
      · exact ⟨hy.symm, rfl, hmap _ (fun f => by split <;> exact ⟨rfl, rfl⟩) _⟩
      · exact ⟨hy.symm, rfl, rfl⟩
    · next hy => exact ⟨(Bool.eq_false_iff.2 hy).symm, rfl, hmap (fun f => { f with marked := false }) (fun f => ⟨rfl, rfl⟩) _⟩

theorem Link.holds_setYield (l : Link) (y : Bool) (ex : Exchange) : (l.setYield y).Holds ex ↔ l.Holds ex := by
  obtain ⟨-, hq, hf⟩ := l.setYield_same y
  have hflight (o : Option InFlight) :
      (∃ f, o = some f ∧ f.exchange = ex ∧ f.cut = false) ↔ o.map (fun f => (f.exchange, f.cut)) = some (ex, false) := by
    cases o <;> simp
  unfold Link.Holds
  rw [hq, hflight, hflight, hf]

theorem Link.polls_setYield (l : Link) (y : Bool) : (l.setYield y).polls = l.polls := by
  obtain ⟨-, hq, hf⟩ := l.setYield_same y
  have hx (o : Option InFlight) : o.map (·.exchange) = (o.map fun f => (f.exchange, f.cut)).map Prod.fst := by
    cases o <;> rfl
  rw [Link.polls_eq, Link.polls_eq, hq, hx, hf, ← hx]

/-- The exchange that the arbiter chooses stands first among the polls, if it is one (R83). -/
theorem Link.polls_taken {l : Link} {ex : Exchange} (hc : l.choose = some ex) :
    (pollUnits (ex :: l.queue.erase ex)).Sublist (pollUnits l.queue) := by
  by_cases hp : ex.isPoll = true
  · have hfind : l.queue.find? Exchange.isPoll = some ex := by
      unfold Link.choose at hc
      simp only [Option.orElse_eq_orElse, Option.orElse_eq_or, Option.or_eq_some_iff] at hc
      rcases hc with h | ⟨-, h | ⟨-, h | ⟨-, h⟩⟩⟩
      · exact absurd (List.find?_some h) (by cases ex <;> simp_all [Exchange.isPoll, Exchange.isWindow])
      · exact absurd (List.find?_some h) (by cases ex <;> simp_all [Exchange.isPoll, Exchange.isSequence])
      · exact absurd (List.find?_some h) (by cases ex <;> simp_all [Exchange.isPoll, Exchange.isService])
      · exact h
    rw [pollUnits_oldest hfind]
  · have hex : pollUnits [ex] = [] := by simp [pollUnits, hp]
    rw [← List.singleton_append, pollUnits_append, hex, List.nil_append]
    exact pollUnits_sublist List.erase_sublist

/-- The arbiter's step keeps the order of the polls: it takes the oldest (R83). -/
theorem Link.polls_arbitrate (l : Link) (frames : Exchange → List OutFrame) : (l.arbitrate frames).polls.Sublist l.polls := by
  unfold Link.arbitrate
  split
  · exact .refl _
  · next hno =>
    have hidle : l.inFlight = none := by
      cases hf : l.inFlight with
      | none => rfl
      | some f => simp [hf] at hno
    split
    · exact .refl _
    · next ex hc =>
      have hmem := Link.choose_mem hc
      unfold Link.carry
      split
      · exact Link.polls_sublist rfl (pollUnits_sublist List.erase_sublist)
      · rw [Link.polls_eq, Link.polls_eq, hidle]
        exact Link.polls_taken hc

end Sys2Proof.Machine

/-! The scheduler's work adds no context poll to a link; a segment that becomes usable hands its units' polls and probes in rising
order, and SET_SEGMENT (R13, R14, R63, R82, R87, R92). -/

namespace Sys2Proof.Machine

/-! ### No context poll from the scheduler -/

/-- From `s` to `t` no link gets a context poll, and the polls on each keep their order. -/
def State.AddsNoPolls (s t : State) : Prop :=
  ∀ x, (perGet t.links x).polls.Sublist (perGet s.links x).polls

section
variable {s t : State}

theorem State.AddsNoPolls.of_eq (h : t.links = s.links) : s.AddsNoPolls t := fun x => by
  rw [h]

theorem State.AddsNoPolls.refl (s : State) : s.AddsNoPolls s := .of_eq rfl

theorem State.AddsNoPolls.trans {r : State} (h : s.AddsNoPolls t) (h' : t.AddsNoPolls r) : s.AddsNoPolls r :=
  fun x => (h' x).trans (h x)

theorem State.AddsNoPolls.foldl {α : Type} {f : State → α → State} (h : ∀ (s : State) a, s.AddsNoPolls (f s a)) (l : List α)
    (s : State) : s.AddsNoPolls (l.foldl f s) := by
  induction l generalizing s with
  | nil => exact .refl s
  | cons a l ih => exact (h s a).trans (ih _)

theorem State.onLink_addsNoPolls (s : State) (x : Seg) {f : Link → Link} (hf : ∀ l, (f l).polls.Sublist l.polls) :
    s.AddsNoPolls (s.onLink x f) := fun y => by
  rw [State.perGet_onLink]
  split
  · exact hf _
  · exact .refl _

theorem State.hand_addsNoPolls (s : State) (u : UnitIx) {ex : Exchange} (h : ex.isPoll = false) : s.AddsNoPolls (s.hand u ex) := by
  unfold State.hand
  split
  · exact .refl s
  · exact s.onLink_addsNoPolls _ fun l => l.polls_hand h

theorem State.withdraw_addsNoPolls (s : State) (u : UnitIx) : s.AddsNoPolls (s.withdraw u) := by
  unfold State.withdraw State.withdrawLink
  split
  · exact .of_eq rfl
  · exact .trans (.of_eq rfl) (State.onLink_addsNoPolls _ _ fun l => l.polls_withdraw u)

theorem State.raise_addsNoPolls (s : State) (u : UnitIx) (k : Condition) : s.AddsNoPolls (s.raise u k id) := by
  have hflag (s : State) (f : UnitFlag) : s.AddsNoPolls (s.setUnitFlag u f) := .of_eq (s.links_setUnitFlag u f).1
  unfold State.raise
  simp only
  split
  · refine (hflag s (.condition k)).trans ((State.withdraw_addsNoPolls (s.setUnitFlag u (.condition k)) u).trans
      (.trans ?_ (hflag _ .held)))
    exact .of_eq rfl
  · exact hflag s _

theorem State.AddsNoPolls.records (c : Scheduler) (h : ({ s with rsch := c } : State).AddsNoPolls t) : s.AddsNoPolls t :=
  fun x => h x

theorem State.enterVerify_addsNoPolls (s : State) (u : UnitIx) : s.AddsNoPolls (s.enterVerify u) := fun _ => .refl _

theorem State.Scheduling.addsNoPolls {full : Prop} (h : State.Scheduling full s t) : s.AddsNoPolls t := by
  cases h with
  | edited => exact .of_eq rfl
  | enlisted u =>
    unfold State.enlist
    split
    · exact .refl s
    · split
      · exact .refl s
      · simp only
        split
        · exact .refl s
        · split
          · exact .of_eq rfl
          · split
            · exact .of_eq rfl
            · exact .refl s
  | joined =>
    unfold State.handJoin
    split
    · exact .refl s
    · split
      · exact s.hand_addsNoPolls _ rfl
      · exact .refl s
  | shifted => exact .of_eq rfl
  | completed =>
    unfold State.complete
    split
    · exact .refl s
    · exact .records _ ((State.AddsNoPolls.foldl (fun t (m : Member) => t.enterVerify_addsNoPolls m.unit) _ _).trans
        (State.AddsNoPolls.foldl (fun t u => t.hand_addsNoPolls u rfl) _ _))
  | stackFull => exact s.raise_addsNoPolls _ _
  | began => exact .of_eq s.beginWindow_same.2.1
  | reported => exact .of_eq s.reportDemand_same.2.1

theorem State.settled_addsNoPolls (s : State) : s.AddsNoPolls s.settled := by
  have h := State.settled_schedules (full := True) s (.inr trivial)
  generalize s.settled = t at h
  induction h with
  | refl => exact .refl s
  | tail _ h ih => exact ih.trans h.addsNoPolls

end

/-! ### The units of a segment resumed (R63, R92) -/

/-- The exchange that a unit resumed hands: a LIVE unit its poll, a DARK unit its probe. -/
def State.resumed (s : State) (u : UnitIx) : Option Exchange :=
  if s.unitIn u .live then some (.contextPoll u) else if s.unitIn u .dark then some (.probe u 0) else none

section
variable {s : State} {u v : UnitIx} {e : UnitEntry} {x : Seg}

theorem State.resume_leaves (s : State) (h : u ≠ v) : State.Leaves v s (s.resume u) := by
  unfold State.resume
  split
  · exact s.pollDueNow_leaves h
  · split
    · exact s.enterProbe_leaves h
    · exact .refl v s

theorem State.resume_acts (s : State) : State.Acts u s (s.resume u) := by
  unfold State.resume
  split
  · exact (s.modUnit_acts _).trans (State.hand_acts _ _)
  · split
    · exact s.enterProbe_acts
    · exact .refl s

/-- One unit of the segment resumed: its exchange joins the queue of a running link, behind those of the others. -/
theorem State.queue_resume (he : s.unit u = some e) (hx : e.decl.seg = x) (hs : s.serves x = true)
    (hh : (perGet s.links x).halted = false) (hno : ∀ q ∈ (perGet s.links x).queue, q.unit? ≠ some u) :
    (perGet (s.resume u).links x).queue = (perGet s.links x).queue ++ (s.resumed u).toList := by
  have hfilter (ex : Exchange) (hex : ex.unit? = some u) :
      (perGet s.links x).queue.filter (fun q => !ex.replaces q) = (perGet s.links x).queue :=
    List.filter_eq_self.2 fun q hq => by simpa [Exchange.replaces, hex] using (hno q hq).symm
  have hhand (t : State) (ht : t.links = s.links) (d : UnitEntry) (hd : t.unit u = some d) (hdx : d.decl.seg = x) (ex : Exchange)
      (hex : ex.unit? = some u) : (perGet (t.hand u ex).links x).queue = (perGet s.links x).queue ++ [ex] := by
    simp only [State.hand, hd, State.perGet_onLink, hdx, if_true, ht]
    unfold Link.hand
    simp only [hh, Bool.false_eq_true, if_false, hfilter ex hex]
  unfold State.resume State.resumed
  by_cases hl : s.unitIn u .live = true
  · rw [if_pos hl, if_pos hl]
    exact hhand (s.modUnit u fun e => { e with pollDue := none }) rfl { e with pollDue := none }
      (by rw [State.unit_modUnit, if_pos rfl, he, Option.map_some]) hx _ rfl
  · rw [if_neg hl, if_neg hl]
    split
    · have hp : s.enterProbe u = (s.move u .probe fun e => { e with probe := some ⟨.probing, 0⟩ }).hand u (.probe u 0) := by
        unfold State.enterProbe State.enterProbeWith
        simp only [he, hx, hs, if_true]
      rw [hp]
      exact hhand (s.move u .probe fun e => { e with probe := some ⟨.probing, 0⟩ }) rfl
        { e.goto .probe with probe := some ⟨.probing, 0⟩ } (by rw [State.unit_move, if_pos rfl, he, Option.map_some]) hx _ rfl
    · simp

theorem State.unit?_resumed {ex : Exchange} (h : s.resumed u = some ex) : ex.unit? = some u := by
  unfold State.resumed at h
  split at h
  · rw [← Option.some.inj h]; rfl
  · split at h
    · rw [← Option.some.inj h]; rfl
    · cases h

/-- The units of a list on the segment resumed, one after the other (R82). -/
theorem State.queue_foldl_resume {l : List UnitIx} (hl : l.Nodup) (s : State)
    (hon : ∀ u ∈ l, ∃ e, s.unit u = some e ∧ e.decl.seg = x) (hs : s.serves x = true)
    (hh : (perGet s.links x).halted = false) (hno : ∀ q ∈ (perGet s.links x).queue, ∀ u ∈ l, q.unit? ≠ some u) :
    (perGet (l.foldl State.resume s).links x).queue = (perGet s.links x).queue ++ l.filterMap s.resumed := by
  induction l generalizing s with
  | nil => simp
  | cons u l ih =>
    obtain ⟨hu, hl⟩ := List.nodup_cons.1 hl
    have hleaves (v : UnitIx) (hv : v ∈ l) : State.Leaves v s (s.resume u) := s.resume_leaves fun h => hu (h ▸ hv)
    obtain ⟨e, he, hx⟩ := hon u (List.mem_cons_self ..)
    have hq := State.queue_resume he hx hs hh fun q hq => hno q hq u (List.mem_cons_self ..)
    have hacts : State.Acts u s (s.resume u) := s.resume_acts
    have hrest : l.filterMap (s.resume u).resumed = l.filterMap s.resumed := by
      refine List.filterMap_congr fun v hv => ?_
      have hin (st : UnitState) : (s.resume u).unitIn v st = s.unitIn v st := by
        rw [State.unitIn, State.unitIn, (hleaves v hv).unit]
      unfold State.resumed
      rw [hin, hin]
    rw [List.foldl_cons, ih hl (s.resume u) (fun v hv => (hleaves v hv).unit.symm ▸ hon v (List.mem_cons_of_mem _ hv))
      ((hacts.serves x).trans hs) ((hacts.halted x).trans hh), hq, hrest, List.append_assoc]
    · cases h : s.resumed u <;> simp [h]
    · intro q hq' v hv hqv
      rw [hq, List.mem_append] at hq'
      rcases hq' with hq' | hq'
      · exact hno q hq' v (List.mem_cons_of_mem _ hv) hqv
      · have := State.unit?_resumed (Option.mem_toList.1 hq')
        exact hu ((Option.some.inj (this.symm.trans hqv)) ▸ hv)

/-- The units whose polls are handed stand in the order of the list. -/
theorem State.polls_resumed (s : State) (l : List UnitIx) : (pollUnits (l.filterMap s.resumed)).Sublist l := by
  induction l with
  | nil => exact .refl _
  | cons u l ih =>
    have hone : (pollUnits (s.resumed u).toList).Sublist [u] := by
      unfold State.resumed
      split
      · exact .refl _
      · split <;> exact List.nil_sublist _
    have hcons : (u :: l).filterMap s.resumed = (s.resumed u).toList ++ l.filterMap s.resumed := by
      cases h : s.resumed u <;> simp [h]
    rw [hcons, pollUnits_append]
    exact hone.append ih

theorem State.inFlight_resume (s : State) (u : UnitIx) (y : Seg) :
    (perGet (s.resume u).links y).inFlight = (perGet s.links y).inFlight := by
  have hhand (t : State) (ex : Exchange) : (perGet (t.hand u ex).links y).inFlight = (perGet t.links y).inFlight := by
    unfold State.hand
    split
    · rfl
    · rw [State.perGet_onLink]
      split <;> rfl
  unfold State.resume
  split
  · exact hhand _ _
  · split
    · unfold State.enterProbe State.enterProbeWith
      split
      · rfl
      · split
        · exact hhand _ _
        · rfl
    · rfl

/-! ### The segment usable (R13, R63) -/

/-- The link of segment `x` out of HALTED. -/
def State.linkStarted (s : State) (x : Seg) : State :=
  { s with links := perMod s.links x (·.start) }

theorem State.serves_linkStarted (hc : s.gapc.state.carries = true) {y : Seg} (hy : s.usable y = true) :
    (s.linkStarted x).serves y = true := by
  change (s.gapc.state.carries && s.usable y) = true
  rw [hc, hy, Bool.true_and]

theorem State.segmentUsable_eq (hc : s.gapc.state.carries = true) (x : Seg) :
    s.segmentUsable x = (allUnits.filter (s.unitOn x)).foldl State.resume (s.linkStarted x) :=
  if_pos hc

theorem State.mem_unitOn (x : Seg) (u : UnitIx) :
    u ∈ allUnits.filter (s.unitOn x) ↔ ∃ e, s.unit u = some e ∧ e.decl.seg = x := by
  have hall : u ∈ allUnits := List.mem_finRange u
  simp only [List.mem_filter, hall, true_and, State.unitOn]
  cases s.unit u <;> simp

/-- A unit elsewhere is left, with what other links hold of it. -/
theorem State.segmentUsable_leaves (hc : s.gapc.state.carries = true)
    (hu : ∀ e, s.unit u = some e → e.decl.seg ≠ x) : State.Leaves u (s.linkStarted x) (s.segmentUsable x) := by
  rw [State.segmentUsable_eq hc]
  refine State.foldl_leaves (fun s _ _ h => s.resume_leaves h) _ _ fun h => ?_
  obtain ⟨e, he, hx⟩ := (State.mem_unitOn x u).1 h
  exact hu e he hx

/-- What a unit of the segment is left with, and the exchange handed for it. -/
theorem State.segmentUsable_unit (hc : s.gapc.state.carries = true) (hx : s.usable x = true) (he : s.unit u = some e)
    (hseg : e.decl.seg = x) :
    (e.state = .live → (s.segmentUsable x).unit u = some { e with pollDue := none } ∧
      (perGet (s.segmentUsable x).links x).Holds (.contextPoll u)) ∧
      (e.state = .dark → (s.segmentUsable x).unit u = some (e.probed true) ∧
        (perGet (s.segmentUsable x).links x).Holds (.probe u 0)) ∧
      (e.state ≠ .live → e.state ≠ .dark → (s.segmentUsable x).unit u = some e) := by
  obtain ⟨q, hbefore, hafter⟩ := State.foldl_turn (fun s _ _ h => State.resume_leaves s h)
    ((List.nodup_finRange 24).filter (s.unitOn x)) ((State.mem_unitOn x u).2 ⟨e, he, hseg⟩) (s.linkStarted x)
  rw [State.segmentUsable_eq hc]
  subst hseg
  have hq : q.unit u = some e := hbefore.unit.trans he
  have hserves : q.serves e.decl.seg = true :=
    (hbefore.serves _).trans (State.serves_linkStarted hc hx)
  have hrun : (perGet q.links e.decl.seg).halted = false := by
    rw [hbefore.halted, State.linkStarted, perGet_perMod, if_pos rfl]
    rfl
  have hin (st : UnitState) : q.unitIn u st = (e.state == st) := by rw [State.unitIn, hq]; rfl
  refine ⟨fun hst => ?_, fun hst => ?_, fun hl hd => ?_⟩
  · have hr : q.resume u = q.pollDueNow u := by rw [State.resume, hin, hst]; rfl
    have hm : (q.modUnit u fun e => { e with pollDue := none }).unit u = some { e with pollDue := none } := by
      rw [State.unit_modUnit, if_pos rfl, hq, Option.map_some]
    rw [hr] at hafter
    exact ⟨hafter.unit.trans ((State.unit_hand _ u u _).trans hm),
      (hafter.exchanges _ _ rfl).2 (State.hands_hand hm (.contextPoll u) hrun)⟩
  · have hr : q.resume u = q.enterProbe u := by rw [State.resume, hin, hin, hst]; rfl
    have hunit := State.unit_enterProbe hq
    rw [hserves] at hunit
    rw [hr] at hafter
    exact ⟨hafter.unit.trans hunit, (hafter.exchanges _ _ rfl).2 (State.hands_enterProbe hq hserves hrun)⟩
  · have hr : q.resume u = q := by
      rw [State.resume, hin, hin, beq_false_of_ne hl, beq_false_of_ne hd]
      rfl
    rw [hr] at hafter
    exact hafter.unit.trans hq

theorem State.segmentUsable_link (hc : s.gapc.state.carries = true) (hx : s.usable x = true) :
    (perGet (s.segmentUsable x).links x).halted = false ∧
      (perGet (s.segmentUsable x).links x).yieldOn = (perGet s.links x).yieldOn ∧
      (perGet (s.segmentUsable x).links x).polls.Pairwise (· < ·) := by
  have hstart : perGet (s.linkStarted x).links x = (perGet s.links x).start := by
    rw [State.linkStarted, perGet_perMod, if_pos rfl]
  have hworks : (s.linkStarted x).Works (s.segmentUsable x) := by
    rw [State.segmentUsable_eq hc]
    exact State.Works.foldl _ _ (fun u _ t => t.resume_works u) _
  refine ⟨?_, ?_, ?_⟩
  · rw [(hworks.links x).1, hstart]
    rfl
  · rw [(hworks.links x).2, hstart]
    rfl
  · have hflight (l : List UnitIx) (t : State) :
        (perGet (l.foldl State.resume t).links x).inFlight = (perGet t.links x).inFlight := by
      induction l generalizing t with
      | nil => rfl
      | cons u l ih => exact (ih _).trans (t.inFlight_resume u x)
    have hqueue := State.queue_foldl_resume (x := x) (l := allUnits.filter (s.unitOn x)) ((List.nodup_finRange 24).filter (s.unitOn x)) (s.linkStarted x)
      (fun u hu => (State.mem_unitOn x u).1 hu)
      (State.serves_linkStarted hc hx)
      (by rw [hstart]; rfl) (fun q hq => by rw [hstart] at hq; cases hq)
    rw [State.segmentUsable_eq hc, Link.polls_eq, hqueue, hflight, hstart]
    exact (unitsWhere_rising _).sublist (State.polls_resumed _ _)

end

end Sys2Proof.Machine

/-! SET_SEGMENT (R14, R63, R87, R196). -/

namespace Sys2Proof.Machine

section
variable {s : State} {x : Seg} {v y : Bool}

theorem State.setSegmentWork_eq (s : State) (x : Seg) (v y : Bool) :
    s.setSegmentWork [BitVec.ofNat 8 (segIndex x), if v then 1 else 0, if y then 1 else 0] =
      okay ((s.setSense x v).onLink x (·.setYield y)) (.segment v y) := by
  cases x <;> cases v <;> cases y <;> rfl

/-- A SET_SEGMENT taken ends with the settings set and its reply owed. -/
theorem exec_setSegment (tag : Byte) (h : s.TakesWork) (x : Seg) (v y : Bool) :
    exec (.setSegment tag [BitVec.ofNat 8 (segIndex x), if v then 1 else 0, if y then 1 else 0]) s =
      .next (((s.setSense x v).onLink x (·.setYield y)).replied 0x05 tag (.ok (.segment v y))).finish := by
  obtain ⟨ht, hl⟩ := h
  refine congrArg Host.Outcome.next ?_
  rw [show fixedNeed 3 [BitVec.ofNat 8 (segIndex x), if v then 1 else 0, if y then 1 else 0] = none from fixedNeed_eq rfl,
    State.request_works ht (by simp) (.inr hl), State.setSegmentWork_eq, oweAnswer_okay]

theorem State.lacks_resume {w : UnitIx} (h : s.rsch.Lacks w) (u : UnitIx) : (s.resume u).rsch.Lacks w := by
  unfold State.resume
  split
  · exact (State.rsch_hand _ u _).symm ▸ h
  · split
    · unfold State.enterProbe State.enterProbeWith
      split
      · exact h
      · split
        · exact (State.rsch_hand _ u _).symm ▸ h
        · exact h
    · exact h

theorem State.lacks_segmentUsable {w : UnitIx} (h : s.rsch.Lacks w) (x : Seg) : (s.segmentUsable x).rsch.Lacks w := by
  unfold State.segmentUsable
  split
  · have hfold (l : List UnitIx) (t : State) (ht : t.rsch.Lacks w) : (l.foldl State.resume t).rsch.Lacks w := by
      induction l generalizing t with
      | nil => exact ht
      | cons u l ih => exact ih _ (State.lacks_resume ht u)
    exact hfold _ _ h
  · exact h

/-- The state in which the class of the segment has become NORMAL, its sense enable off (R14). -/
def State.senseOff (s : State) (x : Seg) : State :=
  { s with smon := s.smon.senseTurnedOff x }

theorem State.setSense_off (hon : perGet s.smon.senseOn x = true) :
    s.setSense x false = if s.usable x then s.senseOff x else ((s.senseOff x).segmentUsable x).settled := by
  rw [State.setSense, if_neg (by rw [hon]; decide)]
  rfl

theorem State.usable_senseOff : (s.senseOff x).usable x = true := by
  cases x <;> rfl

theorem perMod_eq_perSet {α : Type} (p : PerSeg α) (x : Seg) (f : α → α) : perMod p x f = perSet p x (f (perGet p x)) := by
  cases x <;> rfl

end

/-- Settles O50: the sense enable left, turned on, and turned off on a usable segment and on one that is DOWN. -/
theorem setSegmentSetsSenseAndYield : Obligations.SetSegmentSetsSenseAndYield := by
  intro s tag x v y ht c answered links off
  have hexec := exec_setSegment tag ht x v y
  refine ⟨fun hv => ?_, fun hv hoff => ?_, fun hv hon hx => ?_, fun hv hon hx hlaw hg => ?_⟩
  · have hs : s.setSense x v = s := if_pos hv
    rw [hs] at hexec
    refine ⟨_, hexec, ?_⟩
    rw [State.onLink, perMod_eq_perSet]
    exact State.ends_finish _
  · have hs : s.setSense x v = { s with smon := s.smon.senseTurnedOn x } := by
      rw [State.setSense, if_neg (by rw [hv, hoff]; decide), if_pos hv]
    rw [hs] at hexec
    refine ⟨_, hexec, ?_⟩
    rw [State.onLink, perMod_eq_perSet]
    exact State.ends_finish _
  · subst hv
    rw [State.setSense_off hon, if_pos hx] at hexec
    refine ⟨_, hexec, ?_⟩
    rw [State.onLink, perMod_eq_perSet]
    exact State.ends_finish _
  · subst hv
    rw [(State.setSense_off hon).trans (if_neg (by simp [hx]))] at hexec
    have hc : (s.senseOff x).gapc.state.carries = true := by
      rcases hg with h | h <;> simp [State.senseOff, h, GapState.carries]
    have hunit (u : UnitIx) (e : UnitEntry) (he : s.unit u = some e) (hseg : e.decl.seg = x) :=
      State.segmentUsable_unit (s := s.senseOff x) hc State.usable_senseOff he hseg
    obtain ⟨hrun, hyield, hpolls⟩ := State.segmentUsable_link (s := s.senseOff x) hc State.usable_senseOff
    have hframe : (s.senseOff x).RestoreFrame ((s.senseOff x).segmentUsable x) := State.segmentUsable_frame _ _
    have hclnk : ((s.senseOff x).segmentUsable x).clnk = s.clnk := State.segmentUsable_clnk _ _
    have hlacks {u : UnitIx} (h : s.rsch.Lacks u) := State.lacks_segmentUsable (s := s.senseOff x) h x
    generalize (s.senseOff x).segmentUsable x = q at hexec hunit hrun hyield hpolls hframe hclnk hlacks
    have hlink : perGet (q.settled.onLink x (·.setYield y)).links x = (perGet q.settled.links x).setYield y := by
      rw [State.perGet_onLink, if_pos rfl]
    have hends := State.ends_finish ((q.settled.onLink x (·.setYield y)).replied 0x05 tag (.ok (.segment false y)))
    have hkept {u : UnitIx} {e' : UnitEntry} {ex : Exchange} (hi : q.Idle u) (he' : q.unit u = some e')
        (hex : ex.unit? = some u) (hn : ex.namesImage = false) (hh : (perGet q.links x).Holds ex) :
        ((q.settled.onLink x (·.setYield y)).replied 0x05 tag (.ok (.segment false y))).finish.unit u = some e' ∧
          (perGet ((q.settled.onLink x (·.setYield y)).replied 0x05 tag (.ok (.segment false y))).finish.links x).Holds ex := by
      obtain ⟨-, hunit', hkeeps⟩ := q.settled_rests hi
      refine ⟨(hends.unit_eq u).trans (hunit'.trans he'), hends.holds (hunit'.trans he') hex (fun h => by rw [hn] at h; cases h) ?_⟩
      have := (Link.holds_setYield _ y ex).2 ((hkeeps x ex hex).2 hh)
      rwa [← hlink] at this
    have hlive {u : UnitIx} {e e' : UnitEntry} (he : s.unit u = some e) (hst : e.state = .live ∨ e.state = .dark)
        (he' : q.unit u = some e') (hwait : e'.state ≠ .wait) : q.Idle u :=
      ⟨hlacks (hlaw.lacks he (by rcases hst with h | h <;> simp [h])),
        fun d hd hw => absurd hw (Option.some.inj (he'.symm.trans hd) ▸ hwait)⟩
    refine ⟨_, hexec, ?_, ?_, ?_, ?_, hends.permits, fun u e he hseg hst => ?_, ?_, fun u e he hseg hst => ?_⟩
    · exact State.RestoreFrame.trans (s := s.senseOff x) hframe (q.settled_frame.trans (.trans
        (t := (q.settled.onLink x (·.setYield y)).replied 0x05 tag (.ok (.segment false y))) rfl (.of_ends hends)))
    · rw [hends.same]
      exact congrArg (fun c : ControlLink => c.owed ++ [_]) (q.settled_works.clnk.trans hclnk)
    · rw [hends.links x, (Link.arbitrate_spec _ _).1]
      exact (congrArg Link.halted hlink).trans ((Link.setYield_halted _ y).trans ((q.settled_works.links x).1.trans hrun))
    · rw [hends.links x, (Link.arbitrate_spec _ _).2.1]
      exact (congrArg Link.yieldOn hlink).trans (Link.setYield_same _ y).1
    · obtain ⟨hunit', hholds⟩ := (hunit u e he hseg).1 hst
      have hidle := hlive he (.inl hst) hunit' (by rw [hst]; decide)
      exact hkept hidle hunit' rfl rfl hholds
    · rw [hends.links x]
      refine hpolls.sublist ((Link.polls_arbitrate _ _).trans ?_)
      exact (congrArg Link.polls hlink) ▸ (Link.polls_setYield _ y).symm ▸ q.settled_addsNoPolls x
    · obtain ⟨hunit', hholds⟩ := (hunit u e he hseg).2.1 hst
      have hidle := hlive he (.inr hst) hunit' (UnitEntry.probed_state_ne_wait _ _)
      obtain ⟨hu, hh⟩ := hkept hidle hunit' rfl rfl hholds
      exact ⟨hh, _, hu, rfl, rfl, rfl⟩

end Sys2Proof.Machine

/-! The events of one sample, taken in any order (R10, R34; log entry 4); and the windows that a sample fills (R1 to R3, R12). -/

namespace Sys2Proof.Machine

/-! ### The events in any order -/

/-- A property of the state and the events still to be taken that every event taken keeps, whichever is taken first, and under
which none performs a reset, holds when all have been taken. -/
theorem State.takeEvents_keeps {P : State → List SupplyEvent → Prop} (hfree : ∀ s es n, P s es → P { s with freeCount := n } es)
    (hstep : ∀ (s : State) (pre post : List SupplyEvent) (e : SupplyEvent), P s (pre ++ e :: post) →
      s.resetsAt e = false ∧ P (s.takeEvent e).recomputePermits (pre ++ post))
    (es : List SupplyEvent) (s : State) (h : P s es) : P (State.takeEvents es.length s es) [] := by
  generalize hk : es.length = k
  induction k generalizing s es with
  | zero =>
    obtain rfl := List.length_eq_zero_iff.1 hk
    exact h
  | succ k ih =>
    obtain ⟨i, n, hi, hpick⟩ : ∃ i n, i < es.length ∧ s.pick es.length = (i, { s with freeCount := n }) := by
      unfold State.pick
      split
      · exact ⟨0, s.freeCount, by omega, rfl⟩
      · exact ⟨_, _, Nat.mod_lt _ (by omega), rfl⟩
    have hget : es[i]? = some es[i] := List.getElem?_eq_getElem hi
    have hsplit : es = es.take i ++ es[i] :: es.drop (i + 1) := by
      rw [List.getElem_cons_drop, List.take_append_drop]
    obtain ⟨hreset, hnext⟩ := hstep { s with freeCount := n } (es.take i) (es.drop (i + 1)) es[i] (hfree _ _ n (hsplit ▸ h))
    have hreset' : ¬s.resetsAt es[i] = true := by
      intro hr
      have := hreset
      rw [show ({ s with freeCount := n } : State).resetsAt es[i] = s.resetsAt es[i] from rfl, hr] at this
      cases this
    unfold State.takeEvents
    simp only [hk] at hpick
    simp only [hk, hpick, hget, if_neg hreset']
    refine ih _ _ ?_ (by rw [List.length_eraseIdx_of_lt hi, hk]; rfl)
    rwa [List.eraseIdx_eq_take_drop_succ]

theorem exec_monitorSample {s : State} (hrun : s.running = true) (hl : s.gapc.state ≠ .lost) (line hold a b c : Code) :
    exec (.monitorSample line hold a b c) s = .next (s.monitorSample line hold a b c).finish :=
  congrArg Host.Outcome.next (if_pos (by rw [hrun]; simpa using hl))

/-! ### What the events of a sample leave of it -/

/-- The windows, the settings, the sense enables and the counter stand. -/
structure State.SampleStands (s t : State) : Prop where
  winLine : t.smon.winLine = s.smon.winLine
  winHold : t.smon.winHold = s.smon.winHold
  winSense : t.smon.winSense = s.smon.winSense
  settings : t.smon.settings = s.smon.settings
  senseOn : t.smon.senseOn = s.smon.senseOn
  tick : t.tick = s.tick

section
variable {s t : State}

theorem State.SampleStands.refl (s : State) : s.SampleStands s := ⟨rfl, rfl, rfl, rfl, rfl, rfl⟩

theorem State.SampleStands.trans {r : State} (h : s.SampleStands t) (h' : t.SampleStands r) : s.SampleStands r :=
  ⟨h'.winLine.trans h.winLine, h'.winHold.trans h.winHold, h'.winSense.trans h.winSense, h'.settings.trans h.settings,
    h'.senseOn.trans h.senseOn, h'.tick.trans h.tick⟩

theorem State.RestoreFrame.sampleStands (h : s.RestoreFrame t) : s.SampleStands t := by
  rw [h]
  exact ⟨rfl, rfl, rfl, rfl, rfl, rfl⟩

/-- The state in which the new class of segment `x` is current, with SEG_OPEN where the line has opened (R13). -/
def State.classed (s : State) (x : Seg) (k : LineClass) : State :=
  let t : State := { s with smon := { s.smon with classes := perMod s.smon.classes x fun c => { c with current := k } } }
  if k = .openLine ∧ (perGet s.smon.classes x).current ≠ .openLine then t.setDevice (.segOpen x) else t

/-- The effects of the new class of a segment: nothing more, segment-down, or segment-usable (R13, R74). -/
theorem State.takeClass_eq (s : State) (x : Seg) (k : LineClass) :
    s.takeClass x k =
      if (perGet s.smon.classes x).current.usable = k.usable then s.classed x k
      else if k.usable then ((s.classed x k).segmentUsable x).settled else ((s.classed x k).segmentDown x).settled := by
  unfold State.takeClass State.classChanged State.classed
  simp only [perGet_mod_current, if_true]
  cases (perGet s.smon.classes x).current.usable <;> cases k.usable <;> rfl

theorem State.classed_sampleStands (s : State) (x : Seg) (k : LineClass) : s.SampleStands (s.classed x k) := by
  unfold State.classed
  simp only
  split <;> exact ⟨rfl, rfl, rfl, rfl, rfl, rfl⟩

theorem State.segmentDown_frame (s : State) (x : Seg) : s.RestoreFrame (s.segmentDown x) :=
  State.RestoreFrame.trans (t := s.onLink x (·.halt)) rfl (s.segmentDown_works x).frame

theorem State.takeClass_sampleStands (s : State) (x : Seg) (k : LineClass) : s.SampleStands (s.takeClass x k) := by
  rw [State.takeClass_eq]
  split
  · exact s.classed_sampleStands x k
  · split
    · exact (s.classed_sampleStands x k).trans
        ((State.segmentUsable_frame _ x).trans (State.settled_frame _)).sampleStands
    · exact (s.classed_sampleStands x k).trans ((State.segmentDown_frame _ x).trans (State.settled_frame _)).sampleStands

/-- No event but the one that performs a reset changes what has been sampled. -/
theorem State.takeEvent_sampleStands (s : State) (e : SupplyEvent) (h : s.resetsAt e = false) :
    s.SampleStands (s.takeEvent e).recomputePermits := by
  refine .trans (t := s.takeEvent e) ?_ ⟨rfl, rfl, rfl, rfl, rfl, rfl⟩
  have hgap : s.SampleStands s.gapStart := ⟨rfl, rfl, rfl, rfl, rfl, rfl⟩
  unfold State.takeEvent
  split
  · exact hgap.trans (State.reportDemand_frame _).sampleStands
  · exact hgap.trans (State.reportDemand_frame _).sampleStands
  · exact ⟨rfl, rfl, rfl, rfl, rfl, rfl⟩
  · exact ⟨rfl, rfl, rfl, rfl, rfl, rfl⟩
  · exact ⟨rfl, rfl, rfl, rfl, rfl, rfl⟩
  · next hg =>
    rw [s.enterDeep_eq, if_neg (by simpa [State.resetsAt, hg] using h)]
    exact ⟨rfl, rfl, rfl, rfl, rfl, rfl⟩
  · unfold State.enterLost
    rw [s.cutLong_spec]
    exact ⟨rfl, rfl, rfl, rfl, rfl, rfl⟩
  · exact ⟨rfl, rfl, rfl, rfl, rfl, rfl⟩
  · exact s.takeClass_sampleStands _ _
  · exact .refl s

/-! ### The windows (R1, R2, R3, R12) -/

theorem State.senseStep_windows (s : State) (x : Seg) (sense : Code) (acc : Monitor × List SupplyEvent) :
    (s.senseStep x sense acc).1.winLine = acc.1.winLine ∧ (s.senseStep x sense acc).1.winHold = acc.1.winHold ∧
      (s.senseStep x sense acc).1.settings = acc.1.settings ∧ (s.senseStep x sense acc).1.senseOn = acc.1.senseOn ∧
      ∀ y, perGet (s.senseStep x sense acc).1.winSense y =
        if x = y ∧ s.senses x = true then acc.1.pushSense x sense else perGet acc.1.winSense y := by
  unfold State.senseStep
  cases hs : s.senses x with
  | false => exact ⟨rfl, rfl, rfl, rfl, fun y => by simp⟩
  | true =>
    refine ⟨rfl, rfl, rfl, rfl, fun y => ?_⟩
    simp only [if_true, Monitor.senseSample, perGet_perSet, and_true]

/-- The raw SENSE sample of a segment. -/
def senseOf (a b c : Code) : Seg → Code
  | .a => a
  | .b => b
  | .c => c

theorem State.sampleAll_windows (s : State) (line hold a b c : Code) :
    (s.sampleAll line hold a b c).1.winLine = s.smon.pushLine line ∧
      (s.sampleAll line hold a b c).1.winHold = s.smon.pushHold hold ∧
      (s.sampleAll line hold a b c).1.settings = s.smon.settings ∧
      (s.sampleAll line hold a b c).1.senseOn = s.smon.senseOn ∧
      ∀ x, perGet (s.sampleAll line hold a b c).1.winSense x =
        if s.senses x = true then s.smon.pushSense x (senseOf a b c x) else perGet s.smon.winSense x := by
  unfold State.sampleAll
  obtain ⟨hl1, hh1, hs1, ho1, hw1⟩ := s.senseStep_windows .a a (s.smon.supplySample s.gapc.state line hold)
  generalize s.senseStep .a a _ = r1 at hl1 hh1 hs1 ho1 hw1
  obtain ⟨hl2, hh2, hs2, ho2, hw2⟩ := s.senseStep_windows .b b r1
  generalize s.senseStep .b b r1 = r2 at hl2 hh2 hs2 ho2 hw2
  obtain ⟨hl3, hh3, hs3, ho3, hw3⟩ := s.senseStep_windows .c c r2
  refine ⟨hl3.trans (hl2.trans hl1), hh3.trans (hh2.trans hh1), hs3.trans (hs2.trans hs1), ho3.trans (ho2.trans ho1), fun x => ?_⟩
  have hset1 : r1.1.settings = s.smon.settings := hs1
  have hset2 : r2.1.settings = s.smon.settings := hs2.trans hs1
  rw [hw3, Monitor.pushSense, hset2]
  cases x <;> simp [hw2, hw1, Monitor.pushSense, hset1, senseOf, Monitor.supplySample]

end

/-- Settles O23: the windows after a sample, the settings and the counter. -/
theorem monitorSampleFillsTheWindows : Obligations.MonitorSampleFillsTheWindows := by
  intro s line hold a b c hp hr hlost hreset sense m
  have hexec := exec_monitorSample (State.running_eq_true hp hr) hlost line hold a b c
  obtain ⟨hl, hh, hset, hon, hw⟩ := s.sampleAll_windows line hold a b c
  have hstands : State.SampleStands { s with smon := (s.sampleAll line hold a b c).1 } (s.monitorSample line hold a b c) := by
    refine (State.takeEvents_keeps (P := fun t _ =>
      State.SampleStands { s with smon := (s.sampleAll line hold a b c).1 } t ∧ t.clnk.resetAccepted = false)
      (fun t es n h => ⟨h.1.trans ⟨rfl, rfl, rfl, rfl, rfl, rfl⟩, h.2⟩) (fun t pre post e h => ?_) _ _ ⟨.refl _, hreset⟩).1
    have hno : t.resetsAt e = false := by simp [State.resetsAt, h.2]
    exact ⟨hno, h.1.trans (t.takeEvent_sampleStands e hno), (t.takeEvent_resetAccepted e hno).trans h.2⟩
  have hfinal : State.SampleStands { s with smon := (s.sampleAll line hold a b c).1 } (s.monitorSample line hold a b c).finish :=
    hstands.trans (State.RestoreFrame.of_ends (State.ends_finish _)).sampleStands
  refine ⟨_, hexec, hfinal.winLine.trans hl, hfinal.winHold.trans hh, fun x hsense hdeep hidle => ?_, fun x hno => ?_,
    hfinal.settings.trans hset, hfinal.senseOn.trans hon, hfinal.tick⟩
  · have hs : s.senses x = true := by
      have hcounts : s.gapc.state.counts = true := by cases hg : s.gapc.state <;> simp_all [GapState.counts]
      have hs : perGet s.smon.senseOn x = true := hsense
      simp [State.senses, State.lineIdle, hs, hidle, hcounts]
    rw [hfinal.winSense]
    exact (hw x).trans (if_pos hs)
  · have hs : ¬s.senses x = true := by
      simp only [State.senses, State.lineIdle, Bool.and_eq_true, not_and, Option.isNone_iff_eq_none]
      rintro ⟨hon, hcounts⟩
      rcases hno with h | h | h
      · rw [show perGet s.smon.senseOn x = false from h] at hon
        cases hon
      · rw [h] at hcounts
        cases hcounts
      · exact h
    rw [hfinal.winSense]
    exact (hw x).trans (if_neg hs)

end Sys2Proof.Machine

/-! What a change of class leaves while the gap controller is in neither SUPPLIED nor RESTORE (R6, R13, R74). -/

namespace Sys2Proof.Machine

/-! ### The counters of the monitor through the scheduler's work -/

/-- A debounce counter of LINE or HOLD that is 0 stays 0. -/
structure Monitor.KeepsZeros (m m' : Monitor) : Prop where
  lineLost : m.lineLost = 0 → m'.lineLost = 0
  lineBack : m.lineBack = 0 → m'.lineBack = 0
  holdDeep : m.holdDeep = 0 → m'.holdDeep = 0

theorem Monitor.KeepsZeros.of_eq {m m' : Monitor} (h : m' = m) : m.KeepsZeros m' := by
  subst h
  exact ⟨id, id, id⟩

theorem Monitor.KeepsZeros.trans {m n r : Monitor} (h : m.KeepsZeros n) (h' : n.KeepsZeros r) : m.KeepsZeros r :=
  ⟨fun hm => h'.lineLost (h.lineLost hm), fun hm => h'.lineBack (h.lineBack hm), fun hm => h'.holdDeep (h.holdDeep hm)⟩

theorem Monitor.watch_keepsZeros (m : Monitor) (g : GapState) : m.KeepsZeros (m.watch g) := by
  unfold Monitor.watch
  refine ⟨fun h => ?_, fun h => ?_, fun h => ?_⟩ <;> simp [h]

/-- What the flags, the contexts and the counters keep. -/
structure State.Undisturbed (s t : State) : Prop where
  ctxs : t.ctxs = s.ctxs
  flags : s.KeepsFlags t
  zeros : s.smon.KeepsZeros t.smon

section
variable {s t : State}

theorem State.Undisturbed.of_eq (hc : t.ctxs = s.ctxs) (hf : t.cflu.device = s.cflu.device) (hm : t.smon = s.smon) :
    s.Undisturbed t :=
  ⟨hc, .of_eq hf, .of_eq hm⟩

theorem State.Undisturbed.refl (s : State) : s.Undisturbed s := .of_eq rfl rfl rfl

theorem State.Undisturbed.trans {r : State} (h : s.Undisturbed t) (h' : t.Undisturbed r) : s.Undisturbed r :=
  ⟨h'.ctxs.trans h.ctxs, h.flags.trans h'.flags, h.zeros.trans h'.zeros⟩

theorem State.Undisturbed.foldl {α : Type} {f : State → α → State} (h : ∀ (s : State) a, s.Undisturbed (f s a)) (l : List α)
    (s : State) : s.Undisturbed (l.foldl f s) := by
  induction l generalizing s with
  | nil => exact .refl s
  | cons a l ih => exact (h s a).trans (ih _)

theorem State.Undisturbed.records (c : Scheduler) (h : ({ s with rsch := c } : State).Undisturbed t) : s.Undisturbed t :=
  ⟨h.ctxs, h.flags, h.zeros⟩

theorem State.hand_undisturbed (s : State) (u : UnitIx) (ex : Exchange) : s.Undisturbed (s.hand u ex) := by
  unfold State.hand
  split <;> exact .of_eq rfl rfl rfl

theorem State.move_undisturbed (s : State) (u : UnitIx) (st : UnitState) (f : UnitEntry → UnitEntry) :
    s.Undisturbed (s.move u st f) := ⟨rfl, fun _ h => h, ⟨id, id, id⟩⟩

theorem State.modUnit_undisturbed (s : State) (u : UnitIx) (f : UnitEntry → UnitEntry) : s.Undisturbed (s.modUnit u f) :=
  ⟨rfl, fun _ h => h, ⟨id, id, id⟩⟩

theorem State.withdraw_undisturbed (s : State) (u : UnitIx) : s.Undisturbed (s.withdraw u) := by
  unfold State.withdraw State.withdrawLink
  split <;> exact .of_eq rfl rfl rfl

theorem State.setUnitFlag_undisturbed (s : State) (u : UnitIx) (f : UnitFlag) : s.Undisturbed (s.setUnitFlag u f) := by
  refine ⟨(s.links_setUnitFlag u f).2.2, s.setUnitFlag_keepsFlags u f, .of_eq ?_⟩
  unfold State.setUnitFlag
  split <;> rfl

theorem State.toHeld_undisturbed (s : State) (u : UnitIx) (k : Condition) : s.Undisturbed (s.toHeld u k) :=
  (s.withdraw_undisturbed u).trans ((State.move_undisturbed _ _ _ _).trans (State.setUnitFlag_undisturbed _ _ _))

theorem State.toFailed_undisturbed (s : State) (u : UnitIx) : s.Undisturbed (s.toFailed u) :=
  (s.withdraw_undisturbed u).trans ((State.move_undisturbed _ _ _ _).trans (State.setUnitFlag_undisturbed _ _ _))

theorem State.raise_undisturbed (s : State) (u : UnitIx) (k : Condition) {f : State → State}
    (hf : ∀ s : State, s.Undisturbed (f s)) : s.Undisturbed (s.raise u k f) := by
  unfold State.raise
  simp only
  refine .trans (t := s.setUnitFlag u (.condition k)) (s.setUnitFlag_undisturbed u _) ?_
  split
  · exact State.toHeld_undisturbed _ _ _
  · exact hf _

theorem State.Scheduling.undisturbed {full : Prop} (h : State.Scheduling full s t) : s.Undisturbed t := by
  cases h with
  | edited => exact .of_eq rfl rfl rfl
  | enlisted u =>
    unfold State.enlist
    split
    · exact .refl s
    · split
      · exact .refl s
      · simp only
        split
        · exact .refl s
        · split
          · exact .records _ (State.move_undisturbed _ _ _ _)
          · split
            · exact .records _ (State.move_undisturbed _ _ _ _)
            · exact .refl s
  | joined =>
    unfold State.handJoin
    split
    · exact .refl s
    · split
      · exact s.hand_undisturbed _ _
      · exact .refl s
  | shifted => exact s.move_undisturbed _ _ _
  | completed =>
    unfold State.complete
    split
    · exact .refl s
    · exact .records _ ((State.Undisturbed.foldl (fun t (m : Member) => State.move_undisturbed t m.unit _ _) _ _).trans
        (State.Undisturbed.foldl (fun t u => t.hand_undisturbed u _) _ _))
  | stackFull => exact s.raise_undisturbed _ _ .refl
  | began =>
    unfold State.beginWindow
    split
    · exact .refl s
    · simp only
      split
      · exact .of_eq rfl rfl rfl
      · exact .refl s
  | reported =>
    refine ⟨s.reportDemand_same.2.2.1, (State.Scheduling.reported (full := full) s).flags, ?_⟩
    unfold State.reportDemand
    simp only
    split
    · exact .of_eq rfl
    · exact s.smon.watch_keepsZeros _

theorem State.Schedules.undisturbed {full : Prop} (h : State.Schedules full s t) : s.Undisturbed t := by
  induction h with
  | refl => exact .refl s
  | tail _ h ih => exact ih.trans h.undisturbed

theorem State.settled_undisturbed (s : State) : s.Undisturbed s.settled :=
  (State.settled_schedules (full := True) s (.inr trivial)).undisturbed

theorem State.reportDemand_undisturbed (s : State) : s.Undisturbed s.reportDemand :=
  (State.Scheduling.reported (full := True) s).undisturbed

theorem State.takeReading_undisturbed (s : State) (u : UnitIx) (r : Reading) : s.Undisturbed (s.takeReading u r) := by
  have hfault (s : State) : s.Undisturbed (s.fault u id) := by
    unfold State.fault
    simp only
    refine (s.modUnit_undisturbed u fun e => { e with retry := e.retry + 1 }).trans ?_
    split
    · exact State.raise_undisturbed _ _ _ fun s => s.toFailed_undisturbed u
    · exact .refl _
  unfold State.takeReading
  simp only
  split
  · refine .trans ?_ (hfault _)
    exact s.modUnit_undisturbed u _
  · exact s.modUnit_undisturbed u _

theorem State.endWindow_undisturbed (s : State) : s.Undisturbed s.endWindow := by
  unfold State.endWindow
  split
  · exact .refl s
  · simp only
    split
    · refine .trans (t := { s with seng := none }) (.of_eq rfl rfl rfl)
        (.trans (State.Undisturbed.foldl (fun t (p : UnitIx × Reading) => t.takeReading_undisturbed p.1 p.2) (s.readings _) _)
          (State.boundary_schedules _ _ _ _).undisturbed)
    · exact .refl s

/-! ### A change of class outside SUPPLIED and RESTORE -/

/-- The gap controller stands, but for the demand it has recorded, and so do the control link, the counter and the settings of
time. -/
structure State.Aside (s t : State) : Prop extends State.Undisturbed s t where
  gapc : t.gapc = { s.gapc with demand := t.gapc.demand }
  clnk : t.clnk = s.clnk
  tick : t.tick = s.tick
  timing : t.timing = s.timing

theorem State.Aside.refl (s : State) : s.Aside s := ⟨.refl s, rfl, rfl, rfl, rfl⟩

theorem State.Aside.trans {r : State} (h : s.Aside t) (h' : t.Aside r) : s.Aside r :=
  ⟨h.toUndisturbed.trans h'.toUndisturbed, h'.gapc.trans (by rw [h.gapc]), h'.clnk.trans h.clnk, h'.tick.trans h.tick,
    h'.timing.trans h.timing⟩

theorem State.Works.aside (h : s.Works t) (hu : s.Undisturbed t) (hc : s.gapc.state.carries = false) : s.Aside t where
  toUndisturbed := hu
  gapc := by
    have hg : t.gapc.state = s.gapc.state := h.gap.resolve_right (by simp [hc])
    have hframe : t.gapc = { s.gapc with state := t.gapc.state, demand := t.gapc.demand } :=
      congrArg State.gapc (show t = _ from h.frame)
    rw [hg] at hframe
    exact hframe
  clnk := h.clnk
  tick := h.frame.tick
  timing := h.frame.timing

theorem State.Aside.of_device (f : DeviceFlag) (hc : t.ctxs = s.ctxs) (hf : t.cflu = s.cflu.setDevice f) (hm : t.smon = s.smon)
    (hg : t.gapc = s.gapc) (hk : t.clnk = s.clnk) (ht : t.tick = s.tick) (htm : t.timing = s.timing) : s.Aside t where
  ctxs := hc
  flags i hi := by
    rw [hf]
    exact s.setDevice_keepsFlags f i hi
  zeros := .of_eq hm
  gapc := by rw [hg]
  clnk := hk
  tick := ht
  timing := htm

theorem State.classed_aside (s : State) (x : Seg) (k : LineClass) : s.Aside (s.classed x k) := by
  unfold State.classed
  simp only
  split
  · exact ⟨⟨rfl, State.setDevice_keepsFlags _ _, ⟨id, id, id⟩⟩, rfl, rfl, rfl, rfl⟩
  · exact ⟨⟨rfl, fun _ h => h, ⟨id, id, id⟩⟩, rfl, rfl, rfl, rfl⟩

theorem State.takenDown_aside (s : State) (x : Seg) : s.Aside (s.takenDown x) := by
  unfold State.takenDown
  exact .of_device (.segDown x) rfl rfl rfl rfl rfl rfl rfl

theorem State.takeClass_aside (s : State) (x : Seg) (k : LineClass) (hc : s.gapc.state.carries = false) :
    s.Aside (s.takeClass x k) := by
  have hcarries {q : State} (h : s.Aside q) : q.gapc.state.carries = false := by rw [h.gapc]; exact hc
  have hsettled {q : State} (h : s.Aside q) : s.Aside q.settled :=
    h.trans (q.settled_works.aside q.settled_undisturbed (hcarries h))
  rw [State.takeClass_eq]
  split
  · exact s.classed_aside x k
  · split
    · have hno : (s.classed x k).segmentUsable x = s.classed x k :=
        if_neg (by rw [hcarries (s.classed_aside x k)]; decide)
      rw [hno]
      exact hsettled (s.classed_aside x k)
    · have hdown := (s.classed_aside x k).trans ((s.classed x k).takenDown_aside x)
      rw [State.segmentDown_eq]
      exact hsettled (hdown.trans ((State.endWindow_works _).aside (State.endWindow_undisturbed _) (hcarries hdown)))

end

end Sys2Proof.Machine

/-! The events that one sample raises (R5 to R13). -/

namespace Sys2Proof.Machine

section
variable {s : State} {line hold a b c : Code}

/-- What R11 makes of a segment's class and its sample. -/
def State.classStepped (s : State) (x : Seg) (sense : Code) : ClassState × Option LineClass :=
  classStep s.smon.settings.d (perGet s.smon.classes x) (classOf (filteredCode (s.smon.pushSense x sense)))

/-- The change of class that a segment's sample raises. -/
def State.classEvents (s : State) (x : Seg) (sense : Code) : List SupplyEvent :=
  if s.senses x then (s.classStepped x sense).2.toList.map (.newClass x) else []

/-- One segment's sample after others that leave its class and its window. -/
theorem State.senseStep_eq (x : Seg) (sense : Code) (acc : Monitor × List SupplyEvent)
    (hset : acc.1.settings = s.smon.settings) (hcls : perGet acc.1.classes x = perGet s.smon.classes x)
    (hwin : perGet acc.1.winSense x = perGet s.smon.winSense x) :
    (s.senseStep x sense acc).2 = acc.2 ++ s.classEvents x sense ∧
      ∀ y, perGet (s.senseStep x sense acc).1.classes y =
        if x = y ∧ s.senses x = true then (s.classStepped x sense).1 else perGet acc.1.classes y := by
  unfold State.senseStep State.classEvents
  cases hs : s.senses x with
  | false => exact ⟨by simp, fun y => by simp⟩
  | true =>
    have hstep : classStep acc.1.settings.d (perGet acc.1.classes x) (classOf (filteredCode (acc.1.pushSense x sense))) =
        s.classStepped x sense := by
      rw [State.classStepped, Monitor.pushSense, Monitor.pushSense, hset, hcls, hwin]
    simp only [if_true, Monitor.senseSample, hstep, perGet_perSet, and_true, implies_true]
    cases (s.classStepped x sense).2 <;> rfl

theorem State.sampleAll_events (s : State) (line hold a b c : Code) :
    (s.sampleAll line hold a b c).2 =
        (s.smon.supplySample s.gapc.state line hold).2 ++ s.classEvents .a a ++ s.classEvents .b b ++ s.classEvents .c c ∧
      ∀ x, perGet (s.sampleAll line hold a b c).1.classes x =
        if s.senses x = true then (s.classStepped x (senseOf a b c x)).1 else perGet s.smon.classes x := by
  unfold State.sampleAll
  generalize hr0 : s.smon.supplySample s.gapc.state line hold = r0
  have hcls0 : r0.1.classes = s.smon.classes := by rw [← hr0]; rfl
  have hwin0 : r0.1.winSense = s.smon.winSense := by rw [← hr0]; rfl
  have hset0 : r0.1.settings = s.smon.settings := by rw [← hr0]; rfl
  obtain ⟨he1, hc1⟩ := State.senseStep_eq (s := s) .a a r0 hset0 (by rw [hcls0]) (by rw [hwin0])
  obtain ⟨-, -, hset1, -, hw1⟩ := s.senseStep_windows .a a r0
  generalize s.senseStep .a a r0 = r1 at he1 hc1 hset1 hw1
  obtain ⟨he2, hc2⟩ := State.senseStep_eq (s := s) .b b r1 (hset1.trans hset0) (by simp [hc1, hcls0]) (by simp [hw1, hwin0])
  obtain ⟨-, -, hset2, -, hw2⟩ := s.senseStep_windows .b b r1
  generalize s.senseStep .b b r1 = r2 at he2 hc2 hset2 hw2
  obtain ⟨he3, hc3⟩ := State.senseStep_eq (s := s) .c c r2 (hset2.trans (hset1.trans hset0)) (by simp [hc2, hc1, hcls0])
    (by simp [hw2, hw1, hwin0])
  refine ⟨by rw [he3, he2, he1], fun x => ?_⟩
  cases x <;> simp [hc3, hc2, hc1, hcls0, senseOf]

/-- A change of class raised is of a segment sampled, as R11 finds it. -/
theorem State.newClass_mem (s : State) (line hold a b c : Code) (x : Seg) (k : LineClass) :
    .newClass x k ∈ (s.sampleAll line hold a b c).2 ↔ s.senses x = true ∧ (s.classStepped x (senseOf a b c x)).2 = some k := by
  have hone (y : Seg) (sense : Code) :
      .newClass x k ∈ s.classEvents y sense ↔ y = x ∧ s.senses y = true ∧ (s.classStepped y sense).2 = some k := by
    unfold State.classEvents
    cases hs : s.senses y with
    | false => simp
    | true =>
      cases h : (s.classStepped y sense).2 with
      | none => simp
      | some k' => simp [eq_comm]
  have hno : .newClass x k ∉ (s.smon.supplySample s.gapc.state line hold).2 := by
    unfold Monitor.supplySample
    simp only [List.mem_append]
    rintro (((h | h) | h) | h)
    · split at h <;> simp at h
    · split at h <;> simp at h
    · split at h
      · split at h <;> simp at h
      · simp at h
    · split at h <;> simp at h
  rw [(s.sampleAll_events line hold a b c).1]
  simp only [List.mem_append, hone, hno, false_or]
  cases x <;> simp [senseOf]

/-- The events of LINE and HOLD. -/
theorem State.supply_mem (s : State) (line hold a b c : Code) (e : SupplyEvent) (he : ∀ x k, e ≠ .newClass x k) :
    e ∈ (s.sampleAll line hold a b c).2 ↔ e ∈ (s.smon.supplySample s.gapc.state line hold).2 := by
  have hone (y : Seg) (sense : Code) : e ∉ s.classEvents y sense := by
    unfold State.classEvents
    split
    · intro h
      obtain ⟨k, -, rfl⟩ := List.mem_map.1 h
      exact he y k rfl
    · simp
  rw [(s.sampleAll_events line hold a b c).1]
  simp [List.mem_append, hone]

theorem State.sampleAll_nodup (s : State) (line hold a b c : Code) : (s.sampleAll line hold a b c).2.Nodup := by
  have hclass (x : Seg) (sense : Code) : ∃ k, (s.classEvents x sense).Sublist [.newClass x k] := by
    unfold State.classEvents
    split
    · cases (s.classStepped x sense).2 with
      | none => exact ⟨.normal, List.nil_sublist _⟩
      | some k => exact ⟨k, .refl _⟩
    · exact ⟨.normal, List.nil_sublist _⟩
  have hif (p : Bool) (e : SupplyEvent) : (if p = true then [e] else []).Sublist [e] := by
    split
    · exact .refl _
    · exact List.nil_sublist _
  obtain ⟨ka, ha⟩ := hclass .a a
  obtain ⟨kb, hb⟩ := hclass .b b
  obtain ⟨kc, hc⟩ := hclass .c c
  have hsupply : (s.smon.supplySample s.gapc.state line hold).2.Sublist
      ([.lineLost] ++ [.lineBack] ++ [if s.gapc.state = .gap then .holdDeep else .holdLow] ++ [.holdExhausted]) :=
    (((hif _ _).append (hif _ _)).append (hif _ _)).append (hif _ _)
  rw [(s.sampleAll_events line hold a b c).1]
  refine List.Nodup.sublist (((hsupply.append ha).append hb).append hc) ?_
  split <;> simp

/-! ### Which events a sample raises -/

theorem watchedDebounce_iff {w : Bool} {d n : Nat} {p : Bool} :
    (watchedDebounce w d n p).2 = true ↔ w = true ∧ p = true ∧ d ≤ n + 1 := by
  unfold watchedDebounce debounce
  cases w with
  | false => simp
  | true =>
    cases p with
    | false => simp
    | true => by_cases hd : d ≤ n + 1 <;> simp [hd]

theorem watchedDebounce_zero {w : Bool} {d n : Nat} {p : Bool} (h : w = false ∨ p = false ∨ d ≤ n + 1) :
    (watchedDebounce w d n p).1 = 0 := by
  unfold watchedDebounce debounce
  cases w with
  | false => rfl
  | true =>
    cases p with
    | false => rfl
    | true =>
      have hd : d ≤ n + 1 := by simpa using h
      simp [hd]

/-- LINE and HOLD raise what R5 and R9 say, and no other event. -/
theorem Monitor.supplySample_mem (m : Monitor) (g : GapState) (line hold : Code) :
    (.lineLost ∈ (m.supplySample g line hold).2 ↔
      g.watchesLineLost = true ∧ 10 * filteredCode (m.pushLine line) < m.settings.gapEnter ∧ m.settings.d ≤ m.lineLost + 1) ∧
      (.lineBack ∈ (m.supplySample g line hold).2 ↔
        g.watchesLineBack = true ∧ m.settings.gapExit ≤ 10 * filteredCode (m.pushLine line) ∧
          m.settings.d ≤ m.lineBack + 1) ∧
      ((if g = .gap then .holdDeep else .holdLow) ∈ (m.supplySample g line hold).2 ↔
        g.watchesHoldDeep = true ∧ 5 * filteredCode (m.pushHold hold) < m.settings.holdDeep ∧
          m.settings.d ≤ m.holdDeep + 1) ∧
      (.holdExhausted ∈ (m.supplySample g line hold).2 ↔
        g.watchesHoldExhausted = true ∧ 5 * filteredCode (m.pushHold hold) < m.settings.holdRetain ∧
          m.settings.d ≤ m.holdExhausted + 1) ∧
      ∀ e ∈ (m.supplySample g line hold).2, e = .lineLost ∨ e = .lineBack ∨
        (e = if g = .gap then .holdDeep else .holdLow) ∨ e = .holdExhausted := by
  have hif (p : Bool) (e f : SupplyEvent) : f ∈ (if p = true then [e] else []) ↔ f = e ∧ p = true := by
    cases p <;> simp
  unfold Monitor.supplySample
  simp only [List.mem_append, hif]
  simp only [watchedDebounce_iff, decide_eq_true_eq, lineMv, holdMv, Nat.mul_comm _ 10, Nat.mul_comm _ 5]
  refine ⟨?_, ?_, ?_, ?_, fun e he => ?_⟩
  · by_cases hg : g = .gap <;> simp [hg]
  · by_cases hg : g = .gap <;> simp [hg]
  · by_cases hg : g = .gap <;> simp [hg]
  · by_cases hg : g = .gap <;> simp [hg]
  · rcases he with ((h | h) | h) | h <;> simp [h.1]

/-- The events of a sample. -/
theorem State.sampleAll_mem (s : State) (line hold a b c : Code) {e : SupplyEvent} (he : e ∈ (s.sampleAll line hold a b c).2) :
    e ∈ (s.smon.supplySample s.gapc.state line hold).2 ∨ ∃ x k, e = .newClass x k := by
  by_cases h : ∃ x k, e = .newClass x k
  · exact .inr h
  · exact .inl ((s.supply_mem line hold a b c e fun x k hx => h ⟨x, k, hx⟩).1 he)

theorem State.senseStep_counters (s : State) (x : Seg) (sense : Code) (acc : Monitor × List SupplyEvent) :
    (s.senseStep x sense acc).1.lineLost = acc.1.lineLost ∧ (s.senseStep x sense acc).1.lineBack = acc.1.lineBack ∧
      (s.senseStep x sense acc).1.holdDeep = acc.1.holdDeep := by
  unfold State.senseStep
  split <;> exact ⟨rfl, rfl, rfl⟩

/-- A counter of the sample is 0 where it is not watched, where its condition fails, and where it has reached D (R5, R6). -/
theorem State.sampleAll_counters (s : State) (line hold a b c : Code) :
    (s.gapc.state.watchesLineLost = false → (s.sampleAll line hold a b c).1.lineLost = 0) ∧
      (s.smon.settings.d ≤ s.smon.lineBack + 1 → (s.sampleAll line hold a b c).1.lineBack = 0) ∧
      (s.smon.settings.holdDeep ≤ 5 * filteredCode (s.smon.pushHold hold) → (s.sampleAll line hold a b c).1.holdDeep = 0) := by
  unfold State.sampleAll
  simp only [(s.senseStep_counters _ _ _).1, (s.senseStep_counters _ _ _).2.1, (s.senseStep_counters _ _ _).2.2]
  refine ⟨fun h => watchedDebounce_zero (.inl h), fun h => watchedDebounce_zero (.inr (.inr h)),
    fun h => watchedDebounce_zero (.inr (.inl ?_))⟩
  simpa [holdMv, Nat.mul_comm] using h

end

end Sys2Proof.Machine

/-! One event of the gap controller among the others of its sample: line back, HOLD low in GAP, and HOLD low in DEEP (R8, R24, R28 to
R31). -/

namespace Sys2Proof.Machine

/-! ### One event among the others -/

/-- What the events other than `g` keep holds before `g` is taken, and what `g` makes of it, and the others keep, holds when all
have been taken. -/
theorem State.takeEvents_around {g : SupplyEvent} {other : SupplyEvent → Prop} {before after : State → Prop}
    (hfree : ∀ (t : State) n, (before t → before { t with freeCount := n }) ∧ (after t → after { t with freeCount := n }))
    (hbefore : ∀ (t : State) e, other e → before t → t.resetsAt e = false ∧ before (t.takeEvent e).recomputePermits)
    (hafter : ∀ (t : State) e, other e → after t → t.resetsAt e = false ∧ after (t.takeEvent e).recomputePermits)
    (hg : ∀ t : State, before t → t.resetsAt g = false ∧ after (t.takeEvent g).recomputePermits)
    {es : List SupplyEvent} (hnd : es.Nodup) (hmem : g ∈ es) (hes : ∀ e ∈ es, e ≠ g → other e) {s : State} (h : before s) :
    after (State.takeEvents es.length s es) := by
  have key := State.takeEvents_keeps
    (P := fun t l => l.Nodup ∧ (∀ e ∈ l, e ≠ g → other e) ∧ (g ∈ l ∧ before t ∨ g ∉ l ∧ after t))
    (fun t l n ⟨h1, h2, h3⟩ => ⟨h1, h2, h3.imp (fun h => ⟨h.1, (hfree t n).1 h.2⟩) fun h => ⟨h.1, (hfree t n).2 h.2⟩⟩)
    (fun t pre post e ⟨h1, h2, h3⟩ => ?_) es s ⟨hnd, hes, .inl ⟨hmem, h⟩⟩
  · obtain ⟨-, -, ⟨hin, -⟩ | ⟨-, hdone⟩⟩ := key
    · cases hin
    · exact hdone
  · rw [List.nodup_middle, List.nodup_cons] at h1
    have hin (d : SupplyEvent) : d ∈ pre ++ e :: post ↔ d = e ∨ d ∈ pre ++ post := by
      simp only [List.mem_append, List.mem_cons]
      tauto
    have hrest : ∀ d ∈ pre ++ post, d ≠ g → other d := fun d hd => h2 d ((hin d).2 (.inr hd))
    by_cases he : e = g
    · subst he
      obtain ⟨hr, ha⟩ := hg t (h3.resolve_right fun h => h.1 ((hin e).2 (.inl rfl))).2
      exact ⟨hr, h1.2, hrest, .inr ⟨h1.1, ha⟩⟩
    · have ho := h2 e ((hin e).2 (.inl rfl)) he
      rcases h3 with ⟨hg', hb⟩ | ⟨hg', ha⟩
      · obtain ⟨hr, hb'⟩ := hbefore t e ho hb
        exact ⟨hr, h1.2, hrest, .inl ⟨((hin g).1 hg').resolve_left (Ne.symm he), hb'⟩⟩
      · obtain ⟨hr, ha'⟩ := hafter t e ho ha
        exact ⟨hr, h1.2, hrest, .inr ⟨fun h => hg' ((hin g).2 (.inr h)), ha'⟩⟩

/-- An event that changes a segment's class. -/
def SupplyEvent.IsClass (e : SupplyEvent) : Prop :=
  ∃ x k, e = .newClass x k

section
variable {s t : State}

theorem State.resetsAt_class {e : SupplyEvent} (h : e.IsClass) (t : State) : t.resetsAt e = false := by
  obtain ⟨x, k, rfl⟩ := h
  rfl

theorem State.takeEvent_newClass (t : State) (x : Seg) (k : LineClass) : t.takeEvent (.newClass x k) = t.takeClass x k := by
  unfold State.takeEvent
  cases t.gapc.state <;> rfl

theorem State.recomputePermits_aside (s : State) : s.Aside s.recomputePermits := by
  refine ⟨⟨rfl, fun i hi => ?_, ⟨id, id, id⟩⟩, rfl, rfl, rfl, rfl⟩
  unfold State.recomputePermits
  simp only
  split
  · exact hi
  · exact s.setDevice_keepsFlags .permitChange i hi

/-- Classes that change outside SUPPLIED and RESTORE leave the gap controller and what hangs on it. -/
theorem State.Aside.takeClassEvent (h : s.Aside t) (hc : s.gapc.state.carries = false) {e : SupplyEvent} (he : e.IsClass) :
    s.Aside (t.takeEvent e).recomputePermits := by
  obtain ⟨x, k, rfl⟩ := he
  rw [State.takeEvent_newClass]
  exact h.trans ((t.takeClass_aside x k (by rw [h.gapc]; exact hc)).trans (State.recomputePermits_aside _))

theorem State.Aside.free (h : s.Aside t) (n : Nat) : s.Aside { t with freeCount := n } :=
  h.trans ⟨⟨rfl, fun _ h => h, ⟨id, id, id⟩⟩, rfl, rfl, rfl, rfl⟩

theorem State.Aside.state (h : s.Aside t) : t.gapc.state = s.gapc.state := by
  rw [h.gapc]

theorem State.Aside.startSettle (h : s.Aside t) : s.startSettle.Aside t.startSettle where
  ctxs := h.ctxs
  flags := h.flags
  zeros := ⟨h.zeros.lineLost, fun _ => rfl, fun _ => rfl⟩
  gapc := by
    unfold State.startSettle
    rw [h.gapc, h.tick, h.timing]
  clnk := h.clnk
  tick := h.tick
  timing := h.timing

/-- Line back amid changes of class (R24, R30). -/
theorem State.lineBack_settles {s1 : State} {es : List SupplyEvent} (hg : s1.gapc.state = .gap ∨ s1.gapc.state = .deep)
    (hnd : es.Nodup) (hmem : .lineBack ∈ es) (hes : ∀ e ∈ es, e ≠ .lineBack → e.IsClass) :
    s1.startSettle.Aside (State.takeEvents es.length s1 es) := by
  have hc : s1.gapc.state.carries = false := by rcases hg with h | h <;> rw [h] <;> rfl
  refine State.takeEvents_around (before := s1.Aside) (after := s1.startSettle.Aside) (other := SupplyEvent.IsClass)
    (fun t n => ⟨fun h => h.free n, fun h => h.free n⟩)
    (fun t e he h => ⟨t.resetsAt_class he, h.takeClassEvent hc he⟩)
    (fun t e he h => ⟨t.resetsAt_class he, h.takeClassEvent rfl he⟩) (fun t h => ⟨rfl, ?_⟩) hnd hmem hes (.refl s1)
  have htake : t.takeEvent .lineBack = t.startSettle := by
    unfold State.takeEvent
    rcases hg with hg | hg <;> simp only [h.state, hg]
  rw [htake]
  exact h.startSettle.trans (State.recomputePermits_aside _)

end

/-- Settles O26: line back in GAP and in DEEP. -/
theorem lineBackStartsTheSettle : Obligations.LineBackStartsTheSettle := by
  intro s line hold a b c hp hr hg m hline hhold hretain hd
  have hexec := exec_monitorSample (State.running_eq_true hp hr) (by rcases hg with h | h <;> rw [h] <;> decide) line hold a b c
  obtain ⟨-, hback, hdeep, hexh, hall⟩ := s.smon.supplySample_mem s.gapc.state line hold
  obtain ⟨-, -, hset, -, -⟩ := s.sampleAll_windows line hold a b c
  have hmem : .lineBack ∈ (s.sampleAll line hold a b c).2 :=
    (s.supply_mem line hold a b c _ (by simp)).2 (hback.2 ⟨by rcases hg with h | h <;> rw [h] <;> rfl, hline, hd⟩)
  have hes : ∀ e ∈ (s.sampleAll line hold a b c).2, e ≠ .lineBack → e.IsClass := by
    intro e he hne
    refine (s.sampleAll_mem line hold a b c he).resolve_left fun hin => ?_
    have hm : m.settings.holdDeep ≤ 5 * filteredCode (m.pushHold hold) := hhold
    rcases hall e hin with rfl | rfl | rfl | rfl
    · have := ((s.smon.supplySample_mem s.gapc.state line hold).1.1 hin).1
      rcases hg with h | h <;> rw [h] at this <;> cases this
    · exact hne rfl
    · exact absurd (hdeep.1 hin).2.1 (Nat.not_lt.2 hm)
    · exact absurd (hexh.1 hin).2.1 (Nat.not_lt.2 (hretain.trans hm))
  have hdone := State.lineBack_settles (s1 := { s with smon := (s.sampleAll line hold a b c).1 }) hg
    (s.sampleAll_nodup line hold a b c) hmem hes
  obtain ⟨hlost0, hback0, hdeep0⟩ := s.sampleAll_counters line hold a b c
  have hends := State.ends_finish (s.monitorSample line hold a b c)
  refine ⟨_, hexec, ?_⟩
  generalize (s.monitorSample line hold a b c).finish = t at hends
  replace hdone : State.Aside _ (s.monitorSample line hold a b c) := hdone
  have ht : t.gapc = (s.monitorSample line hold a b c).gapc ∧ t.smon = (s.monitorSample line hold a b c).smon ∧
      t.tick = (s.monitorSample line hold a b c).tick := by
    rw [hends.same]
    exact ⟨rfl, rfl, rfl⟩
  generalize s.monitorSample line hold a b c = q at hdone ht
  obtain ⟨hgapc, hsmon, htick⟩ := ht
  rw [hgapc, hsmon, htick]
  exact ⟨hdone.gapc, hdone.zeros.lineLost (hlost0 (by rcases hg with h | h <;> rw [h] <;> rfl)), hdone.zeros.lineBack rfl,
    hdone.zeros.holdDeep rfl, hdone.tick⟩

end Sys2Proof.Machine

/-! HOLD low in GAP and in DEEP (R8, R9, R28, R29, R31). -/

namespace Sys2Proof.Machine

section
variable {s t : State}

theorem State.cutTransmission_device (s : State) : s.cutTransmission.device = s.cflu.device := by
  unfold State.cutTransmission
  split <;> rfl

theorem State.deepEntered_flags (s : State) (i : Nat) :
    s.deepEntered.cflu.device.getLsbD i =
      (s.cflu.device.getLsbD i || (BitVec.twoPow 17 DeviceFlag.deepEntered.bit).getLsbD i) := by
  have h := FlagUnit.getLsbD_setDevice s.cutTransmission .deepEntered i
  rw [s.cutTransmission_device] at h
  exact h

theorem State.ctx_deepEntered (s : State) (u : UnitIx) : s.deepEntered.ctx u = (s.ctx u).loseAge := by
  have h : s.deepEntered.ctxs = Vector.ofFn fun u : UnitIx => (s.ctx u).loseAge := by
    unfold State.deepEntered
    rfl
  rw [State.ctx, h]
  exact getElem_ofFn_ix (fun u => (s.ctx u).loseAge) u

theorem State.deepEntered_fields (s : State) :
    s.deepEntered.gapc = { s.gapc with state := .deep, durUnknown := true } ∧ s.deepEntered.smon = s.smon.watch .deep ∧
      s.deepEntered.clnk = { s.clnk with rx := [], owed := [], tx := none, long := keepWorking s.clnk.long } ∧
      s.deepEntered.tick = s.tick ∧ s.deepEntered.timing = s.timing := by
  unfold State.deepEntered
  exact ⟨rfl, rfl, rfl, rfl, rfl⟩

theorem State.Aside.deepEntered (h : s.Aside t) : s.deepEntered.Aside t.deepEntered := by
  obtain ⟨hgs, hms, hks, hts, hgms⟩ := s.deepEntered_fields
  obtain ⟨hgt, hmt, hkt, htt, hgmt⟩ := t.deepEntered_fields
  refine ⟨⟨?_, fun i => ?_, ?_⟩, ?_, ?_, htt.trans (h.tick.trans hts.symm), hgmt.trans (h.timing.trans hgms.symm)⟩
  · unfold State.deepEntered
    simp only [State.ctx, h.ctxs]
  · rw [s.deepEntered_flags, t.deepEntered_flags, Bool.or_eq_true, Bool.or_eq_true]
    exact Or.imp (h.flags i) id
  · rw [hms, hmt]
    exact ⟨fun _ => rfl, fun hs => h.zeros.lineBack hs, fun _ => rfl⟩
  · rw [hgs, hgt, h.gapc]
  · rw [hks, hkt, h.clnk]

/-- HOLD low amid changes of class (R28, R29). -/
theorem State.holdDeep_deepens {s1 : State} {es : List SupplyEvent} (hg : s1.gapc.state = .gap)
    (hreset : s1.clnk.resetAccepted = false) (hnd : es.Nodup) (hmem : .holdDeep ∈ es)
    (hes : ∀ e ∈ es, e ≠ .holdDeep → e.IsClass) : s1.deepEntered.Aside (State.takeEvents es.length s1 es) := by
  refine State.takeEvents_around (before := s1.Aside) (after := s1.deepEntered.Aside) (other := SupplyEvent.IsClass)
    (fun t n => ⟨fun h => h.free n, fun h => h.free n⟩)
    (fun t e he h => ⟨t.resetsAt_class he, h.takeClassEvent (by rw [hg]; rfl) he⟩)
    (fun t e he h => ⟨t.resetsAt_class he, h.takeClassEvent rfl he⟩) (fun t h => ?_) hnd hmem hes (.refl s1)
  have hno : t.clnk.resetAccepted = false := by rw [h.clnk, hreset]
  have htake : t.takeEvent .holdDeep = t.deepEntered := by
    unfold State.takeEvent
    simp only [h.state, hg, t.enterDeep_eq, hno, Bool.false_eq_true, if_false]
  refine ⟨by simp [State.resetsAt, hno], ?_⟩
  rw [htake]
  exact h.deepEntered.trans (State.recomputePermits_aside _)

/-- What the entry to LOST leaves of the state `s` (R31; log entry 25). -/
structure State.LostFrom (s t : State) : Prop where
  gapc : t.gapc = { s.gapc with state := .lost }
  units : ∀ u, t.unit u = none
  ctxs : ∀ u, t.ctx u = ContextRecord.blank
  cmpRef : t.smon.cmpRef = some (lineCodeAtOrAbove s.smon.settings.gapExit)
  lineBack : t.smon.lineBack = 0
  long : t.clnk.long = none

theorem State.enterLost_lostFrom (s : State) : s.LostFrom s.enterLost := by
  unfold State.enterLost
  rw [s.cutLong_spec]
  exact ⟨rfl, fun u => Vector.getElem_replicate _, fun u => Vector.getElem_replicate _, rfl, rfl, rfl⟩

/-- HOLD exhausted where the sample raises nothing else (R31). -/
theorem State.holdExhausted_loses {s1 : State} {es : List SupplyEvent} (hg : s1.gapc.state = .deep) (hnd : es.Nodup)
    (hmem : .holdExhausted ∈ es) (hes : ∀ e ∈ es, e = .holdExhausted) : s1.LostFrom (State.takeEvents es.length s1 es) := by
  refine State.takeEvents_around (before := fun t => ∃ n, t = { s1 with freeCount := n }) (after := s1.LostFrom)
    (other := fun _ => False) (fun t n => ⟨fun ⟨_, h⟩ => ⟨n, by rw [h]⟩, fun ⟨h1, h2, h3, h4, h5, h6⟩ => ⟨h1, h2, h3, h4, h5, h6⟩⟩)
    (fun _ _ h => h.elim) (fun _ _ h => h.elim) ?_ hnd hmem (fun e he hne => hne (hes e he)) ⟨s1.freeCount, rfl⟩
  rintro t ⟨n, rfl⟩
  refine ⟨rfl, ?_⟩
  have htake : ({ s1 with freeCount := n } : State).takeEvent .holdExhausted = ({ s1 with freeCount := n } : State).enterLost := by
    unfold State.takeEvent
    simp only [hg]
  rw [htake]
  obtain ⟨h1, h2, h3, h4, h5, h6⟩ := ({ s1 with freeCount := n } : State).enterLost_lostFrom
  exact ⟨h1, h2, h3, h4, h5, h6⟩

theorem State.ends_unit {q t : State} (h : State.Ends q t) :
    t.units = q.units ∧ t.ctxs = q.ctxs ∧ t.gapc = q.gapc ∧ t.smon = q.smon ∧ t.tick = q.tick ∧
      t.clnk = { q.clnk with tx := t.clnk.tx } := by
  rw [h.same]
  exact ⟨rfl, rfl, rfl, rfl, rfl, rfl⟩

/-- No permit is given outside SUPPLIED and RESTORE (R170). -/
theorem State.PermitLaw.output_eq_false (h : t.PermitLaw) (hg : t.gapc.state.carries = false) :
    t.perm.output = ⟨false, false, false⟩ := by
  have hx (x : Seg) : perGet t.perm.output x = false := by
    rw [← Bool.not_eq_true, h x]
    rintro ⟨-, -, hgap, -⟩
    rcases hgap with hgap | hgap <;> rw [hgap] at hg <;> cases hg
  rw [show t.perm.output = ⟨t.perm.output.a, t.perm.output.b, t.perm.output.c⟩ from rfl, show t.perm.output.a = false from hx .a,
    show t.perm.output.b = false from hx .b, show t.perm.output.c = false from hx .c]

end

/-- Settles O27: HOLD low in GAP, and in DEEP. -/
theorem holdRunsLeadToDeepAndLost : Obligations.HoldRunsLeadToDeepAndLost := by
  intro s line hold a b c hp hr hreset m hline h
  obtain ⟨hlost, hback, hdeep, hexh, hall⟩ := s.smon.supplySample_mem s.gapc.state line hold
  have hnoback : .lineBack ∉ (s.smon.supplySample s.gapc.state line hold).2 := fun hin =>
    absurd (hback.1 hin).2.1 (Nat.not_le.2 hline)
  have hends := State.ends_finish (s.monitorSample line hold a b c)
  have hexec (hl : s.gapc.state ≠ .lost) := exec_monitorSample (State.running_eq_true hp hr) hl line hold a b c
  generalize (s.monitorSample line hold a b c).finish = t at hends hexec
  obtain ⟨hunits, hctxs, hgapc, hsmon, htick, hclnk⟩ := State.ends_unit hends
  refine ⟨fun hg hlow hd => ⟨t, hexec (by rw [hg]; decide), ?_⟩, fun hg hlow hd => ⟨t, hexec (by rw [hg]; decide), ?_⟩⟩
  · have hmem : .holdDeep ∈ (s.sampleAll line hold a b c).2 := by
      refine (s.supply_mem line hold a b c _ (by simp)).2 ?_
      rw [if_pos hg] at hdeep
      exact hdeep.2 ⟨by rw [hg]; rfl, hlow, hd⟩
    have hes : ∀ e ∈ (s.sampleAll line hold a b c).2, e ≠ .holdDeep → e.IsClass := by
      intro e he hne
      refine (s.sampleAll_mem line hold a b c he).resolve_left fun hin => ?_
      rcases hall e hin with rfl | rfl | rfl | rfl
      · exact absurd (hlost.1 hin).1 (by rw [hg]; decide)
      · exact hnoback hin
      · exact hne (if_pos hg)
      · exact absurd (hexh.1 hin).1 (by rw [hg]; decide)
    have hdone := State.holdDeep_deepens (s1 := { s with smon := (s.sampleAll line hold a b c).1 }) hg hreset
      (s.sampleAll_nodup line hold a b c) hmem hes
    replace hdone : State.Aside _ (s.monitorSample line hold a b c) := hdone
    generalize s.monitorSample line hold a b c = q at hends hdone hunits hctxs hgapc hsmon htick hclnk
    have hs1 : (({ s with smon := (s.sampleAll line hold a b c).1 } : State).deepEntered).ctx = fun u => (s.ctx u).loseAge :=
      funext fun u => State.ctx_deepEntered _ u
    obtain ⟨hg1, -, hk1, ht1, -⟩ := State.deepEntered_fields { s with smon := (s.sampleAll line hold a b c).1 }
    have hf1 := State.deepEntered_flags { s with smon := (s.sampleAll line hold a b c).1 } DeviceFlag.deepEntered.bit
    generalize ({ s with smon := (s.sampleAll line hold a b c).1 } : State).deepEntered = d at hdone hs1 hg1 hk1 ht1 hf1
    have hkq := hdone.clnk.trans hk1
    have hoff : q.linkOn = false := by
      unfold State.linkOn
      rw [hdone.state, hg1]
      exact Bool.and_false _
    have htx : t.clnk.tx = none := (hends.transmitter (.inr hoff)).trans (by rw [hkq])
    have hkt := hclnk
    rw [hkq] at hkt
    have hlong : t.clnk.long = keepWorking s.clnk.long := by rw [hkt]
    refine ⟨?_, hends.keepsFlags _ (hdone.flags _ (hf1.trans ?_)), by rw [hkt], by rw [hkt], htx,
      htick.trans (hdone.tick.trans ht1), fun l hl hwork => ?_, fun l st hl hwork => ?_, fun hl => ?_, fun u => ?_⟩
    · rw [hgapc, hdone.gapc, hg1]
    · rw [Bool.or_eq_true]
      exact .inr (by decide)
    · rw [hlong, hl]
      have hw : l.work.working = true := by
        cases hk : l.work with
        | finished st => exact absurd hk (hwork st)
        | _ => rfl
      simp [keepWorking, Option.filter, hw]
    · rw [hlong, hl]
      simp [keepWorking, Option.filter, hwork, LongWork.working]
    · rw [hlong, hl]
      rfl
    · rw [State.ctx_congr (hctxs.trans hdone.ctxs) u, hs1]
      rfl
  · have hmem : .holdExhausted ∈ (s.sampleAll line hold a b c).2 :=
      (s.supply_mem line hold a b c _ (by simp)).2 (hexh.2 ⟨by rw [hg]; rfl, hlow, hd⟩)
    have hes : ∀ e ∈ (s.sampleAll line hold a b c).2, e = .holdExhausted := by
      intro e he
      rcases s.sampleAll_mem line hold a b c he with hin | ⟨x, k, rfl⟩
      · rcases hall e hin with rfl | rfl | rfl | rfl
        · exact absurd (hlost.1 hin).1 (by rw [hg]; decide)
        · exact absurd hin hnoback
        · exact absurd (hdeep.1 hin).1 (by rw [hg]; decide)
        · rfl
      · have hs := ((s.newClass_mem line hold a b c x k).1 he).1
        simp [State.senses, hg, GapState.counts] at hs
    have hdone := State.holdExhausted_loses (s1 := { s with smon := (s.sampleAll line hold a b c).1 }) hg
      (s.sampleAll_nodup line hold a b c) hmem hes
    obtain ⟨-, -, hset, -, -⟩ := s.sampleAll_windows line hold a b c
    replace hdone : State.LostFrom _ (s.monitorSample line hold a b c) := hdone
    generalize s.monitorSample line hold a b c = q at hends hdone hunits hctxs hgapc hsmon htick hclnk
    have hgt : t.gapc = { s.gapc with state := .lost } := hgapc.trans hdone.gapc
    have hgst : t.gapc.state = .lost := by rw [hgt]
    refine ⟨hgt, fun u => ⟨?_, ?_⟩, ?_, ?_, ?_, hends.permits.output_eq_false (by rw [hgst]; rfl), ?_⟩
    · rw [State.unit, hunits]
      exact hdone.units u
    · rw [State.ctx_congr hctxs u]
      exact hdone.ctxs u
    · rw [hsmon, hdone.cmpRef]
      simp only [hset]
      rfl
    · rw [hsmon, hdone.lineBack]
    · rw [hclnk]
      exact hdone.long
    · rw [← Bool.not_eq_true]
      exact fun h => (hends.alert.1 h).2.2.1 hgst

end Sys2Proof.Machine

/-! Changes of class seen from the units: what they keep of every entry, and units out of their reach (R13, R62, R146). -/

namespace Sys2Proof.Machine

/-! ### The states that units move to -/

/-- From `s` to `t` no unit is defined, and every unit keeps its definition, and its state but for moves to states of `M`. -/
def State.Moves (M : UnitState → Prop) (s t : State) : Prop :=
  ∀ v, (s.unit v = none → t.unit v = none) ∧
    ∀ e, s.unit v = some e → ∃ e', t.unit v = some e' ∧ e'.decl = e.decl ∧ (e'.state = e.state ∨ M e'.state)

section
variable {M : UnitState → Prop} {s t : State}

theorem State.Moves.of_units (h : t.units = s.units) : State.Moves M s t := by
  intro v
  have hu : t.unit v = s.unit v := congrArg (fun us : Vector (Option UnitEntry) 24 => us[v.val]) h
  exact ⟨fun hv => hu.trans hv, fun e he => ⟨e, hu.trans he, rfl, .inl rfl⟩⟩

theorem State.Moves.refl (s : State) : State.Moves M s s :=
  .of_units rfl

theorem State.Moves.trans {r : State} (h : State.Moves M s t) (h' : State.Moves M t r) : State.Moves M s r := by
  refine fun v => ⟨fun hv => (h' v).1 ((h v).1 hv), fun e he => ?_⟩
  obtain ⟨d, hd, hdecl, hst⟩ := (h v).2 e he
  obtain ⟨c, hc, hdecl', hst'⟩ := (h' v).2 d hd
  exact ⟨c, hc, hdecl'.trans hdecl, hst'.elim (fun heq => heq ▸ hst) .inr⟩

theorem State.Moves.mono {N : UnitState → Prop} (h : State.Moves M s t) (hMN : ∀ st, M st → N st) : State.Moves N s t := by
  refine fun v => ⟨(h v).1, fun e he => ?_⟩
  obtain ⟨d, hd, hdecl, hst⟩ := (h v).2 e he
  exact ⟨d, hd, hdecl, hst.imp_right (hMN _)⟩

theorem State.Moves.foldl {α : Type} {f : State → α → State} (h : ∀ (s : State) a, State.Moves M s (f s a)) (l : List α)
    (s : State) : State.Moves M s (l.foldl f s) := by
  induction l generalizing s with
  | nil => exact .refl s
  | cons a l ih => exact (h s a).trans (ih _)

theorem State.Moves.records (c : Scheduler) (h : State.Moves M { s with rsch := c } t) : State.Moves M s t := h

/-- One entry changed. -/
theorem State.Moves.of_unit {u : UnitIx} {f : UnitEntry → UnitEntry}
    (hu : ∀ v, t.unit v = if u = v then (s.unit v).map f else s.unit v)
    (hf : ∀ e : UnitEntry, (f e).decl = e.decl ∧ ((f e).state = e.state ∨ M (f e).state)) : State.Moves M s t := by
  refine fun v => ⟨fun hv => ?_, fun e he => ?_⟩
  · rw [hu, hv]
    split <;> rfl
  · rw [hu, he]
    split
    · exact ⟨f e, rfl, hf e⟩
    · exact ⟨e, rfl, rfl, .inl rfl⟩

theorem State.modUnit_moves (s : State) (u : UnitIx) {f : UnitEntry → UnitEntry}
    (hf : ∀ e : UnitEntry, (f e).decl = e.decl ∧ (f e).state = e.state := by intro _; exact ⟨rfl, rfl⟩) :
    State.Moves M s (s.modUnit u f) :=
  .of_unit (fun v => s.unit_modUnit u v f) fun e => ⟨(hf e).1, .inl (hf e).2⟩

theorem State.move_moves (s : State) (u : UnitIx) {st : UnitState} {f : UnitEntry → UnitEntry} (hM : M st)
    (hf : ∀ e : UnitEntry, (f e).decl = e.decl ∧ (f e).state = e.state := by intro _; exact ⟨rfl, rfl⟩) :
    State.Moves M s (s.move u st f) :=
  .of_unit (fun v => s.unit_move u v st f) fun e => ⟨(hf _).1, .inr ((hf (e.goto st)).2 ▸ hM)⟩

theorem State.hand_moves (s : State) (u : UnitIx) (ex : Exchange) : State.Moves M s (s.hand u ex) :=
  .of_units (s.hand_units u ex).2.2

theorem State.setUnitFlag_moves (s : State) (u : UnitIx) (f : UnitFlag) : State.Moves M s (s.setUnitFlag u f) :=
  .of_unit (fun v => s.unit_setUnitFlag u v f) fun _ => ⟨rfl, .inl rfl⟩

theorem State.withdraw_moves (s : State) (u : UnitIx) : State.Moves M s (s.withdraw u) := by
  refine .of_units ?_
  unfold State.withdraw State.withdrawLink
  split <;> rfl

theorem State.toHeld_moves (hM : M .held) (s : State) (u : UnitIx) (k : Condition) : State.Moves M s (s.toHeld u k) :=
  (s.withdraw_moves u).trans ((State.move_moves _ u hM).trans (State.setUnitFlag_moves _ _ _))

theorem State.toFailed_moves (hM : M .failed) (s : State) (u : UnitIx) : State.Moves M s (s.toFailed u) :=
  (s.withdraw_moves u).trans ((State.move_moves _ u hM).trans (State.setUnitFlag_moves _ _ _))

theorem State.raise_moves (hM : M .held) (s : State) (u : UnitIx) (k : Condition) {f : State → State}
    (hf : ∀ s : State, State.Moves M s (f s)) : State.Moves M s (s.raise u k f) := by
  unfold State.raise
  simp only
  refine State.Moves.trans (s.setUnitFlag_moves u (.condition k)) ?_
  split
  · exact State.toHeld_moves hM _ _ _
  · exact hf _

theorem State.enterProbe_moves (hM : M .probe ∧ M .dark) (s : State) (u : UnitIx) : State.Moves M s (s.enterProbe u) := by
  unfold State.enterProbe State.enterProbeWith
  split
  · exact .refl s
  · split
    · exact (s.move_moves u hM.1).trans (State.hand_moves _ _ _)
    · exact s.move_moves u hM.2

/-- What the scheduler's own work moves units to: STREAM, SUSPENDED and VERIFY, and HELD where STACK_FULL is open (R112 to R129). -/
theorem State.Scheduling.moves {full : Prop} (h : State.Scheduling full s t)
    (hM : M .stream ∧ M .suspended ∧ M .verify) (hfull : full → M .held) : State.Moves M s t := by
  obtain ⟨hstream, hsus, hver⟩ := hM
  cases h with
  | edited => exact .of_units rfl
  | enlisted u =>
    unfold State.enlist
    split
    · exact .refl s
    · split
      · exact .refl s
      · simp only
        split
        · exact .refl s
        · split
          · exact .records _ (State.move_moves _ u hstream)
          · split
            · exact .records _ (State.move_moves _ u hsus)
            · exact .refl s
  | joined =>
    unfold State.handJoin
    split
    · exact .refl s
    · split
      · exact s.hand_moves _ _
      · exact .refl s
  | shifted _ hst =>
    refine s.move_moves _ ?_
    rcases hst with rfl | rfl
    · exact hstream
    · exact hsus
  | completed =>
    unfold State.complete
    split
    · exact .refl s
    · exact .records _ ((State.Moves.foldl (fun t (m : Member) => State.move_moves t m.unit hver) _ _).trans
        (State.Moves.foldl (fun t u => t.hand_moves u _) _ _))
  | stackFull hf => exact s.raise_moves (hfull hf) _ _ .refl
  | began => exact .of_units s.beginWindow_same.1
  | reported => exact .of_units s.reportDemand_same.1

theorem State.Schedules.moves {full : Prop} (h : State.Schedules full s t) (hM : M .stream ∧ M .suspended ∧ M .verify)
    (hfull : full → M .held) : State.Moves M s t := by
  induction h with
  | refl => exact .refl s
  | tail _ h ih => exact ih.trans (h.moves hM hfull)

theorem State.takeReading_moves (hM : M .held ∧ M .failed) (s : State) (u : UnitIx) (r : Reading) :
    State.Moves M s (s.takeReading u r) := by
  have hfault (s : State) : State.Moves M s (s.fault u id) := by
    unfold State.fault
    simp only
    refine (s.modUnit_moves u (f := fun e => { e with retry := e.retry + 1 })).trans ?_
    split
    · exact State.raise_moves hM.1 _ _ _ fun s => s.toFailed_moves hM.2 u
    · exact .refl _
  unfold State.takeReading
  simp only
  split
  · exact .trans (s.modUnit_moves u) (hfault _)
  · exact s.modUnit_moves u

theorem State.endWindow_moves (hM : M .stream ∧ M .suspended ∧ M .verify) (hM' : M .held ∧ M .failed) (s : State) :
    State.Moves M s s.endWindow := by
  unfold State.endWindow
  split
  · exact .refl s
  · simp only
    split
    · refine State.Moves.trans (t := { s with seng := none }) (.of_units rfl)
        (.trans (State.Moves.foldl (fun t (p : UnitIx × Reading) => t.takeReading_moves hM' p.1 p.2) (s.readings _) _)
          ((State.boundary_schedules _ _ _ _).moves hM fun _ => hM'.1))
    · exact .refl s

theorem State.resume_moves (hM : M .probe ∧ M .dark) (s : State) (u : UnitIx) : State.Moves M s (s.resume u) := by
  unfold State.resume
  split
  · exact (s.modUnit_moves u).trans (State.hand_moves _ _ _)
  · split
    · exact s.enterProbe_moves hM u
    · exact .refl s

theorem State.segmentUsable_moves (hM : M .probe ∧ M .dark) (s : State) (x : Seg) : State.Moves M s (s.segmentUsable x) := by
  unfold State.segmentUsable
  split
  · exact .trans (t := s.linkStarted x) (.of_units rfl) (State.Moves.foldl (State.resume_moves hM) _ _)
  · exact .refl s

theorem UnitEntry.atSegmentDown_state (e : UnitEntry) :
    e.atSegmentDown.decl = e.decl ∧ (e.atSegmentDown.state = e.state ∨ e.atSegmentDown.state = .dark) := by
  unfold UnitEntry.atSegmentDown
  split
  any_goals exact ⟨rfl, .inr rfl⟩
  · exact ⟨rfl, .inl rfl⟩
  · exact ⟨rfl, .inl rfl⟩

theorem State.takenDown_moves (hM : M .dark) (s : State) (x : Seg) : State.Moves M s (s.takenDown x) := by
  intro v
  rw [State.unit_takenDown]
  refine ⟨fun hv => by rw [hv]; rfl, fun e he => ⟨_, by rw [he]; rfl, ?_⟩⟩
  beta_reduce
  split
  · obtain ⟨hdecl, hst⟩ := e.atSegmentDown_state
    exact ⟨hdecl, hst.imp_right fun hd => (by rw [hd]; exact hM)⟩
  · exact ⟨rfl, .inl rfl⟩

theorem State.classed_units (s : State) (x : Seg) (k : LineClass) : (s.classed x k).units = s.units := by
  unfold State.classed
  simp only
  split <;> rfl

end

/-! ### Units out of reach -/

/-- Of one step of the scheduler's own work the window in flight stands, but for a unit that has become IGNORED, or for a window
that begins with members of the records. -/
theorem State.Scheduling.window {full : Prop} {s t : State} (h : State.Scheduling full s t) :
    t.seng = s.seng ∨ (full ∧ ∃ u, t.seng = s.seng.map (·.ignore fun q => q.unit == u)) ∨
      ∃ w, t.seng = some w ∧ w.phase = .reading ∧
        ∀ p ∈ w.participants, ¬s.rsch.Lacks p.unit ∧ ∃ e, s.unit p.unit = some e ∧ e.decl.seg = p.seg := by
  cases h with
  | edited => exact .inl rfl
  | enlisted u =>
    refine .inl ?_
    unfold State.enlist
    split
    · rfl
    · split
      · rfl
      · simp only
        split
        · rfl
        · split
          · rfl
          · split <;> rfl
  | joined =>
    refine .inl ?_
    unfold State.handJoin
    split
    · rfl
    · split
      · exact s.seng_hand _ _
      · rfl
  | shifted => exact .inl rfl
  | completed => exact .inl s.seng_complete
  | @stackFull u hf _ =>
    unfold State.raise
    simp only
    split
    · exact .inr (.inl ⟨hf, u, by
        rw [State.toHeld, State.seng_setUnitFlag]
        exact (State.seng_withdraw _ u).trans (by rw [State.seng_setUnitFlag])⟩)
    · exact .inl (s.seng_setUnitFlag _ _)
  | began =>
    unfold State.beginWindow
    split
    · exact .inl rfl
    · next r hr =>
      simp only
      split
      · refine .inr (.inr ⟨_, rfl, rfl, fun p hp => ?_⟩)
        obtain ⟨m, hm, hp⟩ := List.mem_filterMap.1 hp
        obtain ⟨e, hu, he⟩ := Option.bind_eq_some_iff.1 hp
        split at he
        · obtain rfl := Option.some.inj he
          exact ⟨fun hl => hl.1 r hr m hm rfl, e, hu, rfl⟩
        · cases he
      · exact .inl rfl
  | reported =>
    unfold State.reportDemand
    simp only
    split <;> exact .inl rfl

/-- Unit `v` is idle, and no participant of the window in flight but an IGNORED one. -/
structure State.Aloof (s : State) (v : UnitIx) : Prop where
  idle : s.Idle v
  window : ∀ w, s.seng = some w → ∀ p ∈ w.participants, p.unit = v → p.answer = .ignored

/-- The work from `s` to `t` leaves an aloof unit its entry, and aloof. -/
def State.Bypasses (s t : State) (v : UnitIx) : Prop :=
  s.Aloof v → t.Aloof v ∧ t.unit v = s.unit v

section
variable {v : UnitIx} {s t : State}

theorem State.Bypasses.refl (s : State) (v : UnitIx) : s.Bypasses s v :=
  fun h => ⟨h, rfl⟩

theorem State.Bypasses.trans {r : State} (h : s.Bypasses t v) (h' : t.Bypasses r v) : s.Bypasses r v := by
  intro hs
  obtain ⟨ht, hu⟩ := h hs
  obtain ⟨hr, hu'⟩ := h' ht
  exact ⟨hr, hu'.trans hu⟩

theorem Window.ignore_ignored {w : Window} {f : Participant → Bool}
    (h : ∀ p ∈ w.participants, p.unit = v → p.answer = .ignored) :
    ∀ p ∈ (w.ignore f).participants, p.unit = v → p.answer = .ignored := by
  intro p hp hv
  obtain ⟨q, hq, rfl⟩ := List.mem_map.1 hp
  split at hv
  · rw [if_pos (by assumption)]
  · rw [if_neg (by assumption)]
    exact h q hq hv

theorem State.Scheduling.bypasses {full : Prop} (h : State.Scheduling full s t) : s.Bypasses t v := by
  intro hs
  obtain ⟨hidle, hunit, -⟩ := h.rests hs.idle
  refine ⟨⟨hidle, fun w hw => ?_⟩, hunit⟩
  rcases h.window with heq | ⟨-, u, heq⟩ | ⟨w', hw', -, hp⟩
  · exact hs.window w (heq ▸ hw)
  · rw [heq] at hw
    obtain ⟨w', hw', rfl⟩ := Option.map_eq_some_iff.1 hw
    exact Window.ignore_ignored (hs.window w' hw')
  · rw [hw'] at hw
    obtain rfl := Option.some.inj hw
    exact fun p hp' hv => absurd (hv ▸ hs.idle.1) (hp p hp').1

theorem State.Schedules.bypasses {full : Prop} (h : State.Schedules full s t) : s.Bypasses t v := by
  induction h with
  | refl => exact .refl s v
  | tail _ h ih => exact ih.trans h.bypasses

theorem State.settled_bypasses (s : State) : s.Bypasses s.settled v :=
  (State.settled_schedules (full := True) s (.inr trivial)).bypasses

/-- Work that leaves the unit's entry and the window in flight, and keeps it idle. -/
theorem State.Rests.bypasses (h : s.Rests t v) (hw : t.seng = s.seng) : s.Bypasses t v := by
  intro hs
  obtain ⟨hidle, hunit, -⟩ := h hs.idle
  exact ⟨⟨hidle, by rw [hw]; exact hs.window⟩, hunit⟩

theorem State.toFailed_rests (s : State) {u : UnitIx} (h : u ≠ v) : s.Rests (s.toFailed u) v :=
  (s.withdraw_rests h).trans ((State.move_rests _ _ _ h).trans (State.setUnitFlag_rests _ _ h))

theorem State.takeReading_rests (s : State) {u : UnitIx} (r : Reading) (h : u ≠ v) : s.Rests (s.takeReading u r) v := by
  have hfault (s : State) : s.Rests (s.fault u id) v := by
    unfold State.fault
    simp only
    refine (s.modUnit_rests (fun e => { e with retry := e.retry + 1 }) h).trans ?_
    split
    · unfold State.raise
      simp only
      refine (State.setUnitFlag_rests _ (.condition .retryExhausted) h).trans ?_
      split
      · exact State.toHeld_rests _ _ h
      · exact State.toFailed_rests _ h
    · exact .refl _ v
  unfold State.takeReading
  simp only
  split
  · exact (s.modUnit_rests _ h).trans (hfault _)
  · exact s.modUnit_rests _ h

/-- The window's end reads no aloof unit (R142, R145). -/
theorem State.endWindow_bypasses (s : State) : s.Bypasses s.endWindow v := by
  unfold State.endWindow
  split
  · exact .refl s v
  · next w hw =>
    simp only
    split
    · intro hs
      have hread : ∀ p ∈ s.readings w, p.1 ≠ v := by
        rintro ⟨u, r⟩ hp rfl
        obtain ⟨q, hq, hp⟩ := List.mem_filterMap.1 hp
        split at hp
        · cases hp
        · next hno =>
          obtain ⟨e, -, he⟩ := Option.map_eq_some_iff.1 hp
          exact hno (hs.window w hw q hq (congrArg Prod.fst he))
      have hfold := State.Rests.foldl (fun (t : State) (p : UnitIx × Reading) => t.takeReading p.1 p.2) (s.readings w)
        (fun p hp t => t.takeReading_rests p.2 (hread p hp)) { s with seng := none }
      have hnone : ((s.readings w).foldl (fun (t : State) (p : UnitIx × Reading) => t.takeReading p.1 p.2)
          { s with seng := none }).seng = none :=
        (State.foldl_takeReading_readsOthers (s.readings w) hread { s with seng := none }).seng rfl
      exact ((hfold.bypasses hnone).trans (State.boundary_schedules _ _ _ _).bypasses) ⟨hs.idle, fun w hw => by cases hw⟩
    · exact .refl s v

theorem State.resume_rests (s : State) {u : UnitIx} (h : u ≠ v) : s.Rests (s.resume u) v := by
  unfold State.resume
  split
  · exact s.pollDueNow_rests h
  · split
    · exact s.enterProbe_rests h
    · exact .refl s v

theorem State.seng_resume (s : State) (u : UnitIx) : (s.resume u).seng = s.seng := by
  unfold State.resume
  split
  · exact State.seng_hand _ _ _
  · split
    · unfold State.enterProbe State.enterProbeWith
      split
      · rfl
      · split
        · exact State.seng_hand _ _ _
        · rfl
    · rfl

/-- A unit that is neither LIVE nor DARK, or is of another segment, is not resumed (R63). -/
theorem State.segmentUsable_bypasses (s : State) (x : Seg)
    (h : ∀ e, s.unit v = some e → e.decl.seg = x → e.state ≠ .live ∧ e.state ≠ .dark) : s.Bypasses (s.segmentUsable x) v := by
  have hone (t : State) (u : UnitIx) (hin : u = v → t.unit v = s.unit v ∧ ∃ e, s.unit v = some e ∧ e.decl.seg = x) :
      t.Bypasses (t.resume u) v := by
    by_cases huv : u = v
    · subst huv
      obtain ⟨hu, e, he, hx⟩ := hin rfl
      obtain ⟨hl, hd⟩ := h e he hx
      have hr : t.resume u = t := by
        rw [State.resume, State.unitIn, State.unitIn, hu, he]
        simp [hl, hd]
      rw [hr]
      exact .refl t u
    · exact (t.resume_rests huv).bypasses (t.seng_resume u)
  have hfold (l : List UnitIx) (hl : ∀ u ∈ l, u = v → ∃ e, s.unit v = some e ∧ e.decl.seg = x) (t : State)
      (ht : t.unit v = s.unit v) : t.Bypasses (l.foldl State.resume t) v := by
    induction l generalizing t with
    | nil => exact .refl t v
    | cons u l ih =>
      intro ha
      obtain ⟨ha', hu'⟩ := hone t u (fun huv => ⟨ht, hl u (by simp) huv⟩) ha
      obtain ⟨hb, hbu⟩ := ih (fun w hw => hl w (by simp [hw])) _ (hu'.trans ht) ha'
      exact ⟨hb, hbu.trans hu'⟩
  unfold State.segmentUsable
  split
  · refine State.Bypasses.trans (t := s.linkStarted x) (fun ha => ⟨⟨ha.idle, ha.window⟩, rfl⟩)
      (hfold _ (fun u hu huv => ?_) _ rfl)
    exact huv ▸ (State.mem_unitOn x u).1 hu
  · exact .refl s v

theorem State.takenDown_same (s : State) (x : Seg) :
    (s.takenDown x).rsch = { s.rsch.removeAll (s.unitOn x) with marks := s.rsch.marks.filter fun u => !s.unitOn x u } ∧
      (s.takenDown x).seng = s.seng.map (·.segmentDown x) ∧ (s.takenDown x).ims = s.ims ∧
      (s.takenDown x).links = (s.onLink x (·.halt)).links ∧ (s.takenDown x).gapc = s.gapc ∧ (s.takenDown x).smon = s.smon := by
  unfold State.takenDown
  exact ⟨rfl, rfl, rfl, rfl, rfl, rfl⟩

/-- A segment taken DOWN leaves the units elsewhere, and the DARK, ISOLATED, HELD and FAILED units of the segment (R62). -/
theorem State.takenDown_bypasses (s : State) (x : Seg)
    (h : ∀ e, s.unit v = some e → e.decl.seg = x → e.atSegmentDown = e) : s.Bypasses (s.takenDown x) v := by
  have hunit : (s.takenDown x).unit v = s.unit v := by
    rw [State.unit_takenDown]
    cases he : s.unit v with
    | none => rfl
    | some e =>
      rw [Option.map_some]
      split
      · next hx => rw [h e he hx]
      · rfl
  intro ha
  obtain ⟨hrsch, hseng, hims, -⟩ := s.takenDown_same x
  refine ⟨⟨⟨?_, fun e he hw => ?_⟩, fun w hw => ?_⟩, hunit⟩
  · rw [hrsch]
    exact ha.idle.1.removeAll (s.unitOn x)
  · rw [State.slot, hims]
    exact ha.idle.2 e (hunit ▸ he) hw
  · rw [hseng] at hw
    obtain ⟨w', hw', rfl⟩ := Option.map_eq_some_iff.1 hw
    exact Window.ignore_ignored (ha.window w' hw')

theorem State.classed_bypasses (s : State) (x : Seg) (k : LineClass) : s.Bypasses (s.classed x k) v := by
  unfold State.classed
  simp only
  split <;> exact fun ha => ⟨⟨ha.idle, ha.window⟩, rfl⟩

end

end Sys2Proof.Machine

/-! Line lost in SUPPLIED and RESTORE amid the other events of its sample (R7, R22, R60, R91, R132, R160). -/

namespace Sys2Proof.Machine

/-! ### What a change of class leaves of the gap controller and the units -/

section
variable {s t : State}

theorem State.classed_gapc (s : State) (x : Seg) (k : LineClass) : (s.classed x k).gapc = s.gapc := by
  unfold State.classed
  simp only
  split <;> rfl

theorem State.gapc_segmentUsable (s : State) (x : Seg) : (s.segmentUsable x).gapc = s.gapc := by
  unfold State.segmentUsable
  split
  · have hfold (l : List UnitIx) (t : State) : (l.foldl State.resume t).gapc = t.gapc := by
      induction l generalizing t with
      | nil => rfl
      | cons u l ih => exact (ih _).trans (State.resume_acts t).gapc
    exact hfold _ _
  · rfl

/-- The gap controller stands, but for the demand it has recorded and its moves between SUPPLIED and RESTORE (R21). -/
structure State.GapStands (s t : State) : Prop where
  gapc : t.gapc = { s.gapc with state := t.gapc.state, demand := t.gapc.demand }
  carries : s.gapc.state.carries = true → t.gapc.state.carries = true

theorem State.GapStands.of_eq (h : t.gapc = s.gapc) : s.GapStands t := by
  refine ⟨by rw [h], fun hc => by rwa [h]⟩

theorem State.GapStands.trans {r : State} (h : s.GapStands t) (h' : t.GapStands r) : s.GapStands r :=
  ⟨h'.gapc.trans (by rw [h.gapc]), fun hc => h'.carries (h.carries hc)⟩

theorem State.Works.gapStands (h : s.Works t) : s.GapStands t where
  gapc := congrArg State.gapc (show t = _ from h.frame)
  carries hc := h.gap.elim (fun heq => heq ▸ hc) (·.2)

theorem State.takeClass_gapStands (s : State) (x : Seg) (k : LineClass) : s.GapStands (s.takeClass x k) := by
  have hclassed : s.GapStands (s.classed x k) := .of_eq (s.classed_gapc x k)
  rw [State.takeClass_eq]
  split
  · exact hclassed
  · split
    · exact hclassed.trans (.trans (.of_eq (State.gapc_segmentUsable _ x)) (State.settled_works _).gapStands)
    · refine hclassed.trans (.trans ?_ (State.settled_works _).gapStands)
      exact State.GapStands.trans (t := (s.classed x k).onLink x (·.halt)) (.of_eq rfl)
        (State.segmentDown_works (s.classed x k) x).gapStands

theorem UnitEntry.atSegmentDown_eq {e : UnitEntry} (h : e.state = .dark ∨ e.state = .isolated) : e.atSegmentDown = e := by
  unfold UnitEntry.atSegmentDown
  rcases h with h | h <;> rw [h]

/-- No change of class makes a unit ISOLATED. -/
theorem State.takeClass_moves (s : State) (x : Seg) (k : LineClass) : State.Moves (· ≠ .isolated) s (s.takeClass x k) := by
  have hclassed : State.Moves (· ≠ .isolated) s (s.classed x k) := .of_units (s.classed_units x k)
  have hsched : UnitState.stream ≠ .isolated ∧ UnitState.suspended ≠ .isolated ∧ UnitState.verify ≠ .isolated := by decide
  have hsettled (q : State) : State.Moves (· ≠ .isolated) q q.settled :=
    (State.settled_schedules (full := True) q (.inr trivial)).moves hsched fun _ => by decide
  rw [State.takeClass_eq]
  split
  · exact hclassed
  · split
    · exact hclassed.trans ((State.segmentUsable_moves (by decide) _ x).trans (hsettled _))
    · rw [State.segmentDown_eq]
      exact hclassed.trans ((State.takenDown_moves (by decide) _ x).trans
        ((State.endWindow_moves hsched (by decide) _).trans (hsettled _)))

/-- A unit that stays where it is when its segment goes DOWN or comes back is left (R62, R63). -/
theorem State.takeClass_bypasses {v : UnitIx} {e : UnitEntry} (s : State) (x : Seg) (k : LineClass) (he : s.unit v = some e)
    (hst : e.state = .isolated) : s.Bypasses (s.takeClass x k) v := by
  have hclassed := s.classed_bypasses x k (v := v)
  have hkeep (q : State) (hq : q.unit v = some e) : ∀ d, q.unit v = some d → d = e := fun d hd =>
    Option.some.inj (hd.symm.trans hq)
  rw [State.takeClass_eq]
  intro ha
  obtain ⟨-, hu⟩ := hclassed ha
  have hc : (s.classed x k).unit v = some e := hu.trans he
  revert ha
  change s.Bypasses _ v
  split
  · exact hclassed
  · split
    · refine hclassed.trans (.trans (State.segmentUsable_bypasses _ x fun d hd _ => ?_) (State.settled_bypasses _))
      rw [hkeep _ hc d hd, hst]
      decide
    · rw [State.segmentDown_eq]
      refine hclassed.trans (.trans (State.takenDown_bypasses _ x fun d hd _ => ?_)
        ((State.endWindow_bypasses _).trans (State.settled_bypasses _)))
      rw [hkeep _ hc d hd]
      exact UnitEntry.atSegmentDown_eq (.inr hst)

/-! ### Before and after the gap begins -/

/-- What the changes of class before a gap begins leave of the state `s`: the counter, the gap controller in SUPPLIED or RESTORE, the
units' definitions, and the ISOLATED units. -/
structure State.Serving (s t : State) : Prop where
  stands : s.GapStands t
  carries : s.gapc.state.carries = true
  tick : t.tick = s.tick
  moves : State.Moves (· ≠ .isolated) s t
  isolated : ∀ v e, s.unit v = some e → e.state = .isolated → t.Aloof v ∧ t.unit v = some e

theorem State.Serving.of_same {q : State} (h : s.Serving t) (hg : q.gapc = t.gapc) (ht : q.tick = t.tick)
    (hu : q.units = t.units) (hr : q.rsch = t.rsch) (hi : q.ims = t.ims) (hw : q.seng = t.seng) : s.Serving q where
  stands := h.stands.trans (.of_eq hg)
  carries := h.carries
  tick := ht.trans h.tick
  moves := h.moves.trans (.of_units hu)
  isolated v e he hst := by
    obtain ⟨ha, hv⟩ := h.isolated v e he hst
    have hunit : q.unit v = t.unit v := congrArg (fun us : Vector (Option UnitEntry) 24 => us[v.val]) hu
    exact ⟨⟨⟨hr ▸ ha.idle.1, fun d hd hwait => by rw [State.slot, hi]; exact ha.idle.2 d (hunit ▸ hd) hwait⟩,
      hw ▸ ha.window⟩, hunit.trans hv⟩

theorem State.Serving.takeClass (h : s.Serving t) (x : Seg) (k : LineClass) : s.Serving (t.takeClass x k) where
  stands := h.stands.trans (t.takeClass_gapStands x k)
  carries := h.carries
  tick := (t.takeClass_sampleStands x k).tick.trans h.tick
  moves := h.moves.trans (t.takeClass_moves x k)
  isolated v e he hst := by
    obtain ⟨ha, hv⟩ := h.isolated v e he hst
    obtain ⟨ha', hv'⟩ := t.takeClass_bypasses x k hv hst ha
    exact ⟨ha', hv'.trans hv⟩

/-- What stands from a gap's start on until the sample's end, where it began at the state `s` (R22, R60, R91, R132, R160). -/
structure State.GapBegun (s t : State) : Prop where
  gapc : t.gapc = { s.gapc with state := .gap, start := s.tick, durUnknown := false, demand := t.gapc.demand }
  flag : t.cflu.device.getLsbD DeviceFlag.gapBegin.bit = true
  rsch : t.rsch = { active := none, stack := [], marks := [] }
  seng : t.seng = none
  links : ∀ x, (perGet t.links x).halted = true ∧ (perGet t.links x).queue = [] ∧ (perGet t.links x).inFlight = none ∧
    (perGet t.links x).lock = none
  ctxs : ∀ u, (t.ctx u).validity ≠ .current ∧ (t.ctx u).validity ≠ .written
  none : ∀ u, s.unit u = none → t.unit u = none
  some : ∀ u e, s.unit u = some e → ∃ e', t.unit u = some e' ∧ e'.decl = e.decl ∧
    e'.state = if e.state = .isolated then .isolated else .dark

/-- With no records and outside SUPPLIED and RESTORE the scheduler only reports demand (R74). -/
theorem State.settled_of_gap (hr : s.rsch = { active := none, stack := [], marks := s.rsch.marks })
    (hg : s.gapc.state.carries = false) : s.settled = s.reportDemand := by
  have hform : State.freeAndForm 12 s = s := by
    rw [State.freeAndForm, hr]
    simp only [hg, Bool.false_eq_true, if_false]
  have hrefresh : s.refreshWidths = s := by
    have h : s.refreshWidths = { s with rsch := { active := none, stack := [], marks := s.rsch.marks } } := by
      unfold State.refreshWidths
      rw [hr]
      rfl
    rw [h, ← hr]
  have hbegin : s.beginWindow = s := by
    unfold State.beginWindow
    rw [hr]
  rw [State.settled, State.settleStreams, hform, hrefresh, hbegin]

theorem State.GapBegun.of_aside {q : State} (h : s.GapBegun t) (ha : t.Aside q) (hr : q.rsch = t.rsch) (hw : q.seng = t.seng)
    (hl : ∀ x, perGet q.links x = perGet t.links x ∨ perGet q.links x = (perGet t.links x).halt)
    (hu : ∀ v, q.unit v = t.unit v) : s.GapBegun q where
  gapc := ha.gapc.trans (by rw [h.gapc])
  flag := ha.flags _ h.flag
  rsch := hr.trans h.rsch
  seng := hw.trans h.seng
  links x := by
    rcases hl x with hx | hx <;> rw [hx]
    · exact h.links x
    · exact ⟨rfl, rfl, rfl, rfl⟩
  ctxs u := by
    rw [State.ctx_congr ha.ctxs u]
    exact h.ctxs u
  none u he := (hu u).trans (h.none u he)
  some u e he := by
    rw [hu u]
    exact h.some u e he

theorem State.GapBegun.carries (h : s.GapBegun t) : t.gapc.state.carries = false := by
  rw [h.gapc]
  rfl

theorem State.GapBegun.settled (h : s.GapBegun t) : s.GapBegun t.settled := by
  obtain ⟨hu, hl, -, hr, hw⟩ := t.reportDemand_same
  refine h.of_aside (t.settled_works.aside t.settled_undisturbed h.carries) ?_ ?_ ?_ ?_ <;>
    rw [State.settled_of_gap (by rw [h.rsch]) h.carries]
  · exact hr
  · exact hw
  · exact fun x => .inl (by rw [hl])
  · exact fun v => congrArg (fun us : Vector (Option UnitEntry) 24 => us[v.val]) hu

theorem State.GapBegun.classed (h : s.GapBegun t) (x : Seg) (k : LineClass) : s.GapBegun (t.classed x k) := by
  refine h.of_aside (t.classed_aside x k) ?_ ?_ (fun y => .inl ?_) (fun v => ?_) <;> (unfold State.classed; simp only; split <;> rfl)

/-- A segment taken DOWN in the gap: its link and its units are DOWN already (R13, R62). -/
theorem State.GapBegun.segmentDown (h : s.GapBegun t) (x : Seg) : s.GapBegun (t.segmentDown x) := by
  obtain ⟨hrsch, hseng, -, hlinks, -, -⟩ := t.takenDown_same x
  have hnone : (t.takenDown x).seng = Option.none := by rw [hseng, h.seng]; rfl
  have hend : (t.takenDown x).endWindow = t.takenDown x := by
    unfold State.endWindow
    simp only [hnone]
  rw [State.segmentDown_eq, hend]
  refine h.of_aside (t.takenDown_aside x) ?_ (hnone.trans h.seng.symm) (fun y => ?_) fun v => ?_
  · rw [hrsch, h.rsch]
    rfl
  · rw [hlinks, State.perGet_onLink]
    split
    · exact .inr rfl
    · exact .inl rfl
  · rw [State.unit_takenDown]
    cases hs : s.unit v with
    | none => rw [h.none v hs]; rfl
    | some e =>
      obtain ⟨e', he', -, hst⟩ := h.some v e hs
      have hstay : e'.atSegmentDown = e' := UnitEntry.atSegmentDown_eq (by rw [hst]; split <;> simp)
      rw [he', Option.map_some, hstay, ite_self]

theorem State.GapBegun.takeClass (h : s.GapBegun t) (x : Seg) (k : LineClass) : s.GapBegun (t.takeClass x k) := by
  rw [State.takeClass_eq]
  split
  · exact h.classed x k
  · split
    · rw [State.segmentUsable, if_neg (by rw [(h.classed x k).carries]; decide)]
      exact (h.classed x k).settled
    · exact ((h.classed x k).segmentDown x).settled

theorem State.GapBegun.recomputePermits (h : s.GapBegun t) : s.GapBegun t.recomputePermits :=
  h.of_aside t.recomputePermits_aside rfl rfl (fun _ => .inl rfl) fun _ => rfl

/-- The gap begins: units, records, window and links are given up, and the contexts frozen (R22, R60, R91, R132, R160). -/
theorem State.Serving.gapStart (h : s.Serving t) : s.GapBegun t.gapStart := by
  have hgapc : t.gapStart.gapc = { t.gapc with state := .gap, start := t.tick, durUnknown := false } := rfl
  have hctx (u : UnitIx) : t.gapStart.ctx u = (t.ctx u).freeze := by
    unfold State.gapStart
    exact getElem_ofFn_ix (fun u : UnitIx => (t.ctx u).freeze) u
  have hlinks : t.gapStart.links = ⟨t.links.a.halt, t.links.b.halt, t.links.c.halt⟩ := rfl
  refine ⟨?_, ?_, rfl, rfl, fun x => ?_, fun u => ?_, fun u hu => ?_, fun u e he => ?_⟩
  · rw [hgapc, h.stands.gapc, h.tick]
  · change (t.cflu.setDevice .gapBegin).device.getLsbD DeviceFlag.gapBegin.bit = true
    rw [FlagUnit.getLsbD_setDevice, Bool.or_eq_true]
    exact .inr (by decide)
  · rw [hlinks, perGet_halt]
    exact ⟨rfl, rfl, rfl, rfl⟩
  · rw [hctx]
    exact (t.ctx u).freeze_validity
  · rw [State.unit_gapStart, (h.moves u).1 hu]
    rfl
  · rw [State.unit_gapStart]
    by_cases hst : e.state = .isolated
    · rw [(h.isolated u e he hst).2, if_pos hst]
      exact ⟨e.atGapStart, rfl, by rw [UnitEntry.atGapStart, hst], by rw [UnitEntry.atGapStart, hst]; exact hst⟩
    · obtain ⟨e', he', hdecl, hst'⟩ := (h.moves u).2 e he
      have hno : e'.state ≠ .isolated := by
        rcases hst' with heq | hne
        · exact heq ▸ hst
        · exact hne
      rw [he', if_neg hst]
      refine ⟨e'.atGapStart, rfl, ?_, ?_⟩
      · rw [← hdecl]
        unfold UnitEntry.atGapStart
        split <;> rfl
      · unfold UnitEntry.atGapStart
        split
        · assumption
        · exact absurd (by assumption) hno
        · rfl

/-- The gap begun, with the demand reported. -/
theorem State.takeEvent_lineLost (hg : s.gapc.state.carries = true) : s.takeEvent .lineLost = s.gapStart.reportDemand := by
  unfold State.takeEvent
  cases h : s.gapc.state with
  | supplied => rfl
  | restore => rfl
  | _ => rw [h] at hg; cases hg

theorem State.Serving.lineLost (h : s.Serving t) : s.GapBegun (t.takeEvent .lineLost).recomputePermits := by
  rw [State.takeEvent_lineLost (h.stands.carries h.carries), ← State.settled_of_gap (by rw [h.gapStart.rsch]) h.gapStart.carries]
  exact h.gapStart.settled.recomputePermits

/-- Line lost amid changes of class and low HOLD (R7, R22). -/
theorem State.lineLost_begins {s1 : State} {es : List SupplyEvent} (h : s1.Serving s1) (hnd : es.Nodup) (hmem : .lineLost ∈ es)
    (hes : ∀ e ∈ es, e ≠ .lineLost → e = .holdLow ∨ e.IsClass) : s1.GapBegun (State.takeEvents es.length s1 es) := by
  refine State.takeEvents_around (before := s1.Serving) (after := s1.GapBegun) (other := fun e => e = .holdLow ∨ e.IsClass)
    (fun t n => ⟨fun h => h.of_same rfl rfl rfl rfl rfl rfl, fun h =>
      h.of_aside (State.Aside.free (.refl t) n) rfl rfl (fun _ => .inl rfl) fun _ => rfl⟩) (fun t e he h => ?_) (fun t e he h => ?_)
    (fun t h => ⟨rfl, h.lineLost⟩) hnd hmem hes h
  · refine ⟨?_, State.Serving.of_same (t := t.takeEvent e) ?_ rfl rfl rfl rfl rfl rfl⟩
    · rcases he with rfl | he
      · rfl
      · exact t.resetsAt_class he
    · rcases he with rfl | ⟨x, k, rfl⟩
      · exact h.of_same rfl rfl rfl rfl rfl rfl
      · rw [State.takeEvent_newClass]
        exact h.takeClass x k
  · rcases he with rfl | ⟨x, k, rfl⟩
    · refine ⟨rfl, State.GapBegun.recomputePermits ?_⟩
      exact h.of_aside (.of_device .holdLow rfl rfl rfl rfl rfl rfl rfl) rfl rfl (fun _ => .inl rfl) fun _ => rfl
    · rw [State.takeEvent_newClass]
      exact ⟨rfl, (h.takeClass x k).recomputePermits⟩

/-- By the laws a unit outside WAIT, STREAM and SUSPENDED is out of the scheduler's and the window's reach (R112, R137). -/
theorem State.aloof_of_laws {u : UnitIx} {e : UnitEntry} (hmem : s.MembershipLaw) (hflight : s.FlightLaw) (he : s.unit u = some e)
    (hst : e.state ≠ .wait ∧ e.state ≠ .stream ∧ e.state ≠ .suspended) : s.Aloof u := by
  have hlacks : s.rsch.Lacks u := hmem.lacks he hst
  refine ⟨⟨hlacks, fun d hd hw => absurd hw (Option.some.inj (he.symm.trans hd) ▸ hst.1)⟩, fun w hw p hp hv => ?_⟩
  by_contra hno
  obtain ⟨r, hr, -, -, hin⟩ := hflight w hw
  obtain ⟨⟨m, hm, hmu⟩, -⟩ := hin p hp hno
  exact hlacks.1 r hr m hm (hmu.trans hv)

theorem State.serving_refl (hg : s.gapc.state.carries = true) (hmem : s.MembershipLaw) (hflight : s.FlightLaw) : s.Serving s where
  stands := .of_eq rfl
  carries := hg
  tick := rfl
  moves := .refl s
  isolated _ _ he hst := ⟨State.aloof_of_laws hmem hflight he (by rw [hst]; decide), he⟩

theorem Link.arbitrate_halted {l : Link} {frames : Exchange → List OutFrame} (h : l.halted = true) : l.arbitrate frames = l := by
  rw [Link.arbitrate, h, Bool.true_or, if_pos rfl]

end

/-- Settles O25: line lost in SUPPLIED and in RESTORE. -/
theorem lineLostBeginsTheGap : Obligations.LineLostBeginsTheGap := by
  intro s line hold a b c hp hr hstack hmem hflight hg m hline hd
  have hcarry : s.gapc.state.carries = true := by rcases hg with h | h <;> rw [h] <;> rfl
  have hexec := exec_monitorSample (State.running_eq_true hp hr) (by rcases hg with h | h <;> rw [h] <;> decide) line hold a b c
  obtain ⟨hlost, hback, hdeep, hexh, hall⟩ := s.smon.supplySample_mem s.gapc.state line hold
  have hin : .lineLost ∈ (s.sampleAll line hold a b c).2 :=
    (s.supply_mem line hold a b c _ (by simp)).2 (hlost.2 ⟨by rcases hg with h | h <;> rw [h] <;> rfl, hline, hd⟩)
  have hes : ∀ e ∈ (s.sampleAll line hold a b c).2, e ≠ .lineLost → e = .holdLow ∨ e.IsClass := by
    intro e he hne
    refine (s.sampleAll_mem line hold a b c he).elim (fun he' => .inl ?_) .inr
    rcases hall e he' with rfl | rfl | rfl | rfl
    · exact absurd rfl hne
    · exact absurd (hback.1 he').1 (by rcases hg with h | h <;> rw [h] <;> decide)
    · exact if_neg (by rcases hg with h | h <;> rw [h] <;> decide)
    · exact absurd (hexh.1 he').1 (by rcases hg with h | h <;> rw [h] <;> decide)
  have hbegun := State.lineLost_begins (s1 := { s with smon := (s.sampleAll line hold a b c).1 })
    (State.serving_refl hcarry hmem hflight) (s.sampleAll_nodup line hold a b c) hin hes
  replace hbegun : State.GapBegun _ (s.monitorSample line hold a b c) := hbegun
  have hends := State.ends_finish (s.monitorSample line hold a b c)
  refine ⟨_, hexec, ?_⟩
  generalize (s.monitorSample line hold a b c).finish = t at hends
  generalize s.monitorSample line hold a b c = q at hends hbegun
  obtain ⟨hunits, hctxs, hgapc, -, -, -⟩ := State.ends_unit hends
  have hrecs : t.rsch = q.rsch ∧ t.seng = q.seng := by
    rw [hends.same]
    exact ⟨rfl, rfl⟩
  have hunit (u : UnitIx) : t.unit u = q.unit u := congrArg (fun us : Vector (Option UnitEntry) 24 => us[u.val]) hunits
  refine ⟨by rw [hgapc]; exact hbegun.gapc, hends.keepsFlags _ hbegun.flag, hrecs.1.trans hbegun.rsch, hrecs.2.trans hbegun.seng,
    fun x => ?_, hends.permits.output_eq_false (by rw [hgapc]; exact hbegun.carries), fun u => ?_,
    fun u hu => (hunit u).trans (hbegun.none u hu), fun u e he => ?_⟩
  · rw [hends.links, Link.arbitrate_halted (hbegun.links x).1]
    exact hbegun.links x
  · rw [State.ctx_congr hctxs u]
    exact hbegun.ctxs u
  · rw [hunit u]
    exact hbegun.some u e he

end Sys2Proof.Machine

/-! Changes of class while a window is in flight: a CARRYING window has a part on a segment whose line is not idle, and so none of one
sample's changes ends it (R12, R145, R146). -/

namespace Sys2Proof.Machine

/-! ### The window in flight through a sample -/

/-- The stack is in bounds; a CARRYING window has a part that has not ended on one of the segments `busy`; and a participant that is
not IGNORED is a unit defined on the segment the window has it on. -/
structure State.Carried (busy : Seg → Prop) (t : State) : Prop where
  stacked : t.rsch.Stacked
  part : ∀ w, t.seng = some w → w.phase = .carrying → ∃ z, busy z ∧ perGet w.parts z ≠ .ended
  place : ∀ w, t.seng = some w → ∀ p ∈ w.participants, p.answer ≠ .ignored → ∃ e, t.unit p.unit = some e ∧ e.decl.seg = p.seg

section
variable {busy : Seg → Prop} {s t : State}

/-- Where the window is one in flight, with the same parts and phase and no more participants read, or one being read in. -/
theorem State.Carried.of_window (h : s.Carried busy) (hs : t.rsch.Stacked) (hu : State.Moves (fun _ => True) s t)
    (hw : ∀ w, t.seng = some w → (w.phase = .carrying → ∃ v, s.seng = some v ∧ v.phase = .carrying ∧
      ∀ z, busy z → perGet w.parts z = perGet v.parts z) ∧
      ∀ p ∈ w.participants, p.answer ≠ .ignored → (∃ v, s.seng = some v ∧ p ∈ v.participants) ∨
        ∃ e, s.unit p.unit = some e ∧ e.decl.seg = p.seg) : t.Carried busy where
  stacked := hs
  part w hw' hc := by
    obtain ⟨v, hv, hvc, hparts⟩ := (hw w hw').1 hc
    obtain ⟨z, hz, hne⟩ := h.part v hv hvc
    exact ⟨z, hz, hparts z hz ▸ hne⟩
  place w hw' p hp hne := by
    have hunit : ∃ e, s.unit p.unit = some e ∧ e.decl.seg = p.seg := by
      rcases (hw w hw').2 p hp hne with ⟨v, hv, hpv⟩ | he
      · exact h.place v hv p hpv hne
      · exact he
    obtain ⟨e, he, hseg⟩ := hunit
    obtain ⟨e', he', hdecl, -⟩ := (hu p.unit).2 e he
    exact ⟨e', he', by rw [hdecl, hseg]⟩

theorem State.Carried.of_same (h : s.Carried busy) (hs : t.rsch.Stacked) (hu : State.Moves (fun _ => True) s t)
    (hw : t.seng = s.seng) : t.Carried busy :=
  h.of_window hs hu fun w hw' =>
    ⟨fun hc => ⟨w, hw ▸ hw', hc, fun _ _ => rfl⟩, fun _ hp _ => .inl ⟨w, hw ▸ hw', hp⟩⟩

/-- No window in flight, and no records. -/
theorem State.Carried.of_none (hr : t.rsch.Stacked) (hw : t.seng = none) : t.Carried busy :=
  ⟨hr, fun w h => (by rw [hw] at h; cases h), fun w h => (by rw [hw] at h; cases h)⟩

theorem State.Schedules.carried (h : State.Schedules False s t) (hs : s.Carried busy) (hr : t.rsch.Stacked) : t.Carried busy := by
  have key : ∀ w, t.seng = some w → (w.phase = .carrying → s.seng = some w) ∧
      ∀ p ∈ w.participants, s.seng = some w ∨ ∃ e, s.unit p.unit = some e ∧ e.decl.seg = p.seg := by
    clear hr
    induction h with
    | refl => exact fun w hw => ⟨fun _ => hw, fun _ _ => .inl hw⟩
    | tail hq h ih =>
      intro w hw
      rcases h.window with heq | ⟨hf, -⟩ | ⟨w', hw', hread, hp⟩
      · exact ih w (heq ▸ hw)
      · exact hf.elim
      · rw [hw'] at hw
        obtain rfl := Option.some.inj hw
        refine ⟨fun hc => (by rw [hread] at hc; cases hc), fun p hp' => .inr ?_⟩
        obtain ⟨-, e, he, hseg⟩ := hp p hp'
        have hmoves := State.Schedules.moves (M := fun _ => True) hq ⟨trivial, trivial, trivial⟩ fun _ => trivial
        cases hu : s.unit p.unit with
        | none => rw [(hmoves p.unit).1 hu] at he; cases he
        | some d =>
          obtain ⟨d', hd', hdecl, -⟩ := (hmoves p.unit).2 d hu
          obtain rfl := Option.some.inj (he.symm.trans hd')
          exact ⟨d, rfl, by rw [← hdecl, hseg]⟩
  refine hs.of_window hr (h.moves ⟨trivial, trivial, trivial⟩ fun _ => trivial) fun w hw => ⟨fun hc => ?_, fun p hp _ => ?_⟩
  · exact ⟨w, (key w hw).1 hc, hc, fun _ _ => rfl⟩
  · exact ((key w hw).2 p hp).imp_left fun h => ⟨w, h, hp⟩

theorem State.Carried.settled (h : s.Carried busy) : s.settled.Carried busy :=
  (State.settled_schedules s (.inl h.stacked)).carried h (s.settled_works.records.stacked h.stacked)

theorem State.Carried.classed (h : s.Carried busy) (y : Seg) (k : LineClass) : (s.classed y k).Carried busy := by
  refine h.of_same ?_ (.of_units (s.classed_units y k)) ?_ <;> (unfold State.classed; simp only; split)
  · exact h.stacked
  · exact h.stacked
  · rfl
  · rfl

/-- An idle segment taken DOWN ends no window. -/
theorem State.Carried.takenDown {y : Seg} (h : s.Carried busy) (hy : ¬busy y) : (s.takenDown y).Carried busy := by
  obtain ⟨-, hseng, -⟩ := s.takenDown_same y
  refine h.of_window ((s.takenDown_works y).records.stacked h.stacked) (State.takenDown_moves trivial s y) fun w hw => ?_
  rw [hseng] at hw
  obtain ⟨v, hv, rfl⟩ := Option.map_eq_some_iff.1 hw
  refine ⟨fun hc => ⟨v, hv, hc, fun z hz => ?_⟩, fun p hp hne => .inl ⟨v, hv, ?_⟩⟩
  · change perGet (if v.phase = .carrying then perSet v.parts y .ended else v.parts) z = _
    split
    · rw [perGet_perSet, if_neg fun hyz => hy (by rw [hyz]; exact hz)]
    · rfl
  · obtain ⟨q, hq, rfl⟩ := List.mem_map.1 hp
    split at hne
    · exact absurd rfl hne
    · rw [if_neg (by assumption)]
      exact hq

theorem State.Carried.endWindow (h : s.Carried busy) : s.endWindow = s := by
  unfold State.endWindow
  split
  · rfl
  · next w hw =>
    split
    · next he =>
      simp only [Window.ended, Bool.and_eq_true, beq_iff_eq] at he
      obtain ⟨⟨⟨hc, ha⟩, hb⟩, hc'⟩ := he
      obtain ⟨z, -, hz⟩ := h.part w hw hc
      exact absurd (by cases z <;> assumption) hz
    · rfl

theorem State.seng_segmentUsable (s : State) (y : Seg) : (s.segmentUsable y).seng = s.seng := by
  have hfold (l : List UnitIx) (t : State) : (l.foldl State.resume t).seng = t.seng := by
    induction l generalizing t with
    | nil => rfl
    | cons u l ih => exact (ih _).trans (t.seng_resume u)
  unfold State.segmentUsable
  split
  · exact hfold _ _
  · rfl

theorem State.stacked_segmentUsable (y : Seg) (h : s.rsch.Stacked) : (s.segmentUsable y).rsch.Stacked := by
  cases hc : s.gapc.state.carries with
  | false => rwa [State.segmentUsable, if_neg (by rw [hc]; decide)]
  | true =>
    have hworks : (s.linkStarted y).Works (s.segmentUsable y) := by
      rw [State.segmentUsable_eq hc]
      exact State.Works.foldl _ _ (fun u _ t => t.resume_works u) _
    exact hworks.records.stacked h

theorem State.Carried.segmentUsable (h : s.Carried busy) (y : Seg) : (s.segmentUsable y).Carried busy :=
  h.of_same (State.stacked_segmentUsable y h.stacked) (State.segmentUsable_moves ⟨trivial, trivial⟩ s y) (s.seng_segmentUsable y)

/-- The effects of a new class on an idle segment. -/
theorem State.Carried.takeClass_eq {y : Seg} (h : s.Carried busy) (hy : ¬busy y) (k : LineClass) :
    s.takeClass y k =
      if (perGet s.smon.classes y).current.usable = k.usable then s.classed y k
      else if k.usable then ((s.classed y k).segmentUsable y).settled else ((s.classed y k).takenDown y).settled := by
  rw [State.takeClass_eq, State.segmentDown_eq, ((h.classed y k).takenDown hy).endWindow]

theorem State.Carried.takeClass {y : Seg} (h : s.Carried busy) (hy : ¬busy y) (k : LineClass) : (s.takeClass y k).Carried busy := by
  rw [h.takeClass_eq hy]
  split
  · exact h.classed y k
  · split
    · exact ((h.classed y k).segmentUsable y).settled
    · exact ((h.classed y k).takenDown hy).settled

/-- The states of a unit at work in the restore, or DARK (R59, R62). -/
def UnitState.Restoring (st : UnitState) : Prop :=
  st = .probe ∨ st = .wait ∨ st = .stream ∨ st = .suspended ∨ st = .verify ∨ st = .context ∨ st = .dark

theorem State.Carried.takeClass_moves {y : Seg} (h : s.Carried busy) (hy : ¬busy y) (k : LineClass) :
    State.Moves UnitState.Restoring s (s.takeClass y k) := by
  have hsettled {q : State} (hq : q.Carried busy) : State.Moves UnitState.Restoring q q.settled :=
    (State.settled_schedules q (.inl hq.stacked)).moves (by simp [UnitState.Restoring]) False.elim
  have hclassed : State.Moves UnitState.Restoring s (s.classed y k) := .of_units (s.classed_units y k)
  rw [h.takeClass_eq hy]
  split
  · exact hclassed
  · split
    · exact hclassed.trans ((State.segmentUsable_moves (by simp [UnitState.Restoring]) _ y).trans
        (hsettled ((h.classed y k).segmentUsable y)))
    · exact hclassed.trans ((State.takenDown_moves (by simp [UnitState.Restoring]) _ y).trans
        (hsettled ((h.classed y k).takenDown hy)))

/-- A new class elsewhere leaves an aloof unit. -/
theorem State.takeClass_bypasses_ne {v : UnitIx} (s : State) (y : Seg) (k : LineClass)
    (hv : ∀ e, s.unit v = some e → e.decl.seg ≠ y) : s.Bypasses (s.takeClass y k) v := by
  have hclassed := s.classed_bypasses y k (v := v)
  have hv' : ∀ e, (s.classed y k).unit v = some e → e.decl.seg ≠ y := fun e he => hv e (by
    rwa [show (s.classed y k).unit v = s.unit v from
      congrArg (fun us : Vector (Option UnitEntry) 24 => us[v.val]) (s.classed_units y k)] at he)
  rw [State.takeClass_eq]
  split
  · exact hclassed
  · split
    · exact hclassed.trans ((State.segmentUsable_bypasses _ y fun e he hx => absurd hx (hv' e he)).trans (State.settled_bypasses _))
    · rw [State.segmentDown_eq]
      exact hclassed.trans ((State.takenDown_bypasses _ y fun e he hx => absurd hx (hv' e he)).trans
        ((State.endWindow_bypasses _).trans (State.settled_bypasses _)))

end

end Sys2Proof.Machine

/-! What each event of a sample leaves of a segment's class, its link and the flags, and the events that leave units and links
(R10, R13, R22 to R30). -/

namespace Sys2Proof.Machine

section
variable {s t : State}

/-! ### Classes, flags and links through a change of class -/

theorem State.RestoreFrame.classes (h : s.RestoreFrame t) : t.smon.classes = s.smon.classes := by
  rw [h]

theorem State.classed_same (s : State) (y : Seg) (k : LineClass) :
    (s.classed y k).links = s.links ∧ (s.classed y k).rsch = s.rsch ∧ (s.classed y k).seng = s.seng ∧
      (s.classed y k).smon.classes = perMod s.smon.classes y fun c => { c with current := k } := by
  unfold State.classed
  simp only
  split <;> exact ⟨rfl, rfl, rfl, rfl⟩

theorem State.takeClass_classes (s : State) (y : Seg) (k : LineClass) :
    (s.takeClass y k).smon.classes = perMod s.smon.classes y fun c => { c with current := k } := by
  rw [State.takeClass_eq, ← (s.classed_same y k).2.2.2]
  split
  · rfl
  · split
    · exact ((State.segmentUsable_frame _ y).trans (State.settled_frame _)).classes
    · exact ((State.segmentDown_frame _ y).trans (State.settled_frame _)).classes

theorem State.segmentUsable_keepsFlags (s : State) (y : Seg) : s.KeepsFlags (s.segmentUsable y) := by
  unfold State.segmentUsable
  split
  · have hfold (l : List UnitIx) (t : State) : t.KeepsFlags (l.foldl State.resume t) := by
      induction l generalizing t with
      | nil => exact .of_eq rfl
      | cons u l ih => exact (State.resume_acts t).flags.trans (ih _)
    exact hfold _ (s.linkStarted y)
  · exact .of_eq rfl

theorem State.takenDown_flags (s : State) (y : Seg) (i : Nat) :
    (s.takenDown y).cflu.device.getLsbD i =
      (s.cflu.device.getLsbD i || (BitVec.twoPow 17 (DeviceFlag.segDown y).bit).getLsbD i) := by
  have h : (s.takenDown y).cflu = s.cflu.setDevice (.segDown y) := by
    unfold State.takenDown
    rfl
  rw [h, FlagUnit.getLsbD_setDevice]

theorem State.takenDown_keepsFlags (s : State) (y : Seg) : s.KeepsFlags (s.takenDown y) := fun i hi => by
  rw [State.takenDown_flags, hi, Bool.true_or]

theorem State.takeClass_keepsFlags (s : State) (y : Seg) (k : LineClass) : s.KeepsFlags (s.takeClass y k) := by
  have hclassed : s.KeepsFlags (s.classed y k) := (s.classed_aside y k).flags
  rw [State.takeClass_eq]
  split
  · exact hclassed
  · split
    · exact hclassed.trans ((State.segmentUsable_keepsFlags _ y).trans (State.settled_undisturbed _).flags)
    · rw [State.segmentDown_eq]
      exact hclassed.trans ((State.takenDown_keepsFlags _ y).trans
        ((State.endWindow_undisturbed _).flags.trans (State.settled_undisturbed _).flags))

/-- A unit of segment `y` resumed leaves the links of the other segments. -/
theorem State.links_resume_ne {x y : Seg} {u : UnitIx} (hxy : y ≠ x) (hu : ∀ e, s.unit u = some e → e.decl.seg = y) :
    perGet (s.resume u).links x = perGet s.links x := by
  have hhand (q : State) (ex : Exchange) (hq : ∀ e, q.unit u = some e → e.decl.seg = y) :
      perGet (q.hand u ex).links x = perGet q.links x := by
    unfold State.hand
    split
    · rfl
    · next e he => rw [State.perGet_onLink, if_neg (by rw [hq e he]; exact hxy)]
  have hkeep {q : State} (hq : State.Moves (fun _ => True) s q) : ∀ e, q.unit u = some e → e.decl.seg = y := by
    intro e he
    cases hs : s.unit u with
    | none => rw [(hq u).1 hs] at he; cases he
    | some d =>
      obtain ⟨d', hd', hdecl, -⟩ := (hq u).2 d hs
      rw [Option.some.inj (he.symm.trans hd'), hdecl]
      exact hu d hs
  unfold State.resume
  split
  · exact hhand (s.modUnit u _) _ (hkeep (s.modUnit_moves u))
  · split
    · unfold State.enterProbe State.enterProbeWith
      split
      · rfl
      · split
        · exact hhand (s.move u .probe _) _ (hkeep (s.move_moves u trivial))
        · rfl
    · rfl

theorem State.links_segmentUsable_ne {x y : Seg} (hxy : y ≠ x) : perGet (s.segmentUsable y).links x = perGet s.links x := by
  have hfold (l : List UnitIx) (t : State) (hl : l.Nodup) (hu : ∀ u ∈ l, ∀ e, t.unit u = some e → e.decl.seg = y) :
      perGet (l.foldl State.resume t).links x = perGet t.links x := by
    induction l generalizing t with
    | nil => rfl
    | cons u l ih =>
      obtain ⟨hno, hl'⟩ := List.nodup_cons.1 hl
      refine (ih _ hl' fun v hv e he => ?_).trans (State.links_resume_ne hxy (hu u (by simp)))
      have huv : u ≠ v := fun h => hno (h ▸ hv)
      exact hu v (by simp [hv]) e ((t.resume_leaves huv).unit ▸ he)
  unfold State.segmentUsable
  split
  · refine (hfold _ (s.linkStarted y) ((List.nodup_finRange 24).filter _) fun u hu e he => ?_).trans ?_
    · obtain ⟨e', he', hseg⟩ := (State.mem_unitOn y u).1 hu
      rwa [Option.some.inj (he.symm.trans he')]
    · rw [State.linkStarted, perGet_perMod, if_neg hxy]
  · rfl

theorem State.links_takenDown_ne {x y : Seg} (hxy : y ≠ x) : perGet (s.takenDown y).links x = perGet s.links x := by
  rw [(s.takenDown_same y).2.2.2.1, State.perGet_onLink, if_neg hxy]

theorem State.takeClass_halted_ne {x y : Seg} (hxy : y ≠ x) (k : LineClass) :
    (perGet (s.takeClass y k).links x).halted = (perGet s.links x).halted := by
  have hclassed := (s.classed_same y k).1
  rw [State.takeClass_eq, ← hclassed]
  split
  · rfl
  · split
    · exact ((State.settled_works _).links x).1.trans (by rw [State.links_segmentUsable_ne hxy])
    · refine ((State.settled_works _).links x).1.trans (((State.segmentDown_works _ y).links x).1.trans ?_)
      rw [State.perGet_onLink, if_neg hxy]

/-! ### The events of LINE and HOLD -/

/-- Units, records, window and links stand, and the classes; flags stay set, and the gap controller does not move in or out of SUPPLIED
and RESTORE. -/
structure State.Unmoved (s t : State) : Prop where
  units : t.units = s.units
  ims : t.ims = s.ims
  rsch : t.rsch = s.rsch
  seng : t.seng = s.seng
  links : t.links = s.links
  classes : t.smon.classes = s.smon.classes
  flags : s.KeepsFlags t
  carries : t.gapc.state.carries = s.gapc.state.carries

theorem State.Unmoved.trans {r : State} (h : s.Unmoved t) (h' : t.Unmoved r) : s.Unmoved r :=
  ⟨h'.units.trans h.units, h'.ims.trans h.ims, h'.rsch.trans h.rsch, h'.seng.trans h.seng, h'.links.trans h.links,
    h'.classes.trans h.classes, h.flags.trans h'.flags, h'.carries.trans h.carries⟩

theorem State.Unmoved.unit (h : s.Unmoved t) (v : UnitIx) : t.unit v = s.unit v :=
  congrArg (fun us : Vector (Option UnitEntry) 24 => us[v.val]) h.units

theorem State.Unmoved.bypasses (h : s.Unmoved t) (v : UnitIx) : s.Bypasses t v := fun ha =>
  ⟨⟨⟨h.rsch ▸ ha.idle.1, fun e he hw => by rw [State.slot, h.ims]; exact ha.idle.2 e (h.unit v ▸ he) hw⟩,
    h.seng ▸ ha.window⟩, h.unit v⟩

theorem State.Unmoved.carried {busy : Seg → Prop} (h : s.Unmoved t) (hs : s.Carried busy) : t.Carried busy :=
  hs.of_same (h.rsch ▸ hs.stacked) (.of_units h.units) h.seng

theorem State.recomputePermits_unmoved (s : State) : s.Unmoved s.recomputePermits :=
  ⟨rfl, rfl, rfl, rfl, rfl, rfl, s.recomputePermits_aside.flags, rfl⟩

theorem State.free_unmoved (s : State) (n : Nat) : s.Unmoved { s with freeCount := n } :=
  ⟨rfl, rfl, rfl, rfl, rfl, rfl, .of_eq rfl, rfl⟩

theorem State.setDevice_unmoved (s : State) (f : DeviceFlag) : s.Unmoved (s.setDevice f) :=
  ⟨rfl, rfl, rfl, rfl, rfl, rfl, s.setDevice_keepsFlags f, rfl⟩

theorem State.deepEntered_unmoved (hg : s.gapc.state = .gap) : s.Unmoved s.deepEntered := by
  have hsame : s.deepEntered.units = s.units ∧ s.deepEntered.ims = s.ims ∧ s.deepEntered.rsch = s.rsch ∧
      s.deepEntered.seng = s.seng ∧ s.deepEntered.links = s.links := by
    unfold State.deepEntered
    exact ⟨rfl, rfl, rfl, rfl, rfl⟩
  obtain ⟨hu, hi, hr, hw, hl⟩ := hsame
  obtain ⟨hgapc, hm, -, -, -⟩ := s.deepEntered_fields
  refine ⟨hu, hi, hr, hw, hl, by rw [hm]; rfl, fun i hdev => ?_, by rw [hgapc, hg]; rfl⟩
  rw [s.deepEntered_flags, hdev, Bool.true_or]

/-- The events of LINE and HOLD that a sample can raise outside DEEP, other than a line lost in SUPPLIED and RESTORE (R24, R25, R28). -/
theorem State.takeEvent_unmoved {e : SupplyEvent} (hr : s.resetsAt e = false) (hclass : ¬e.IsClass) (hexh : e ≠ .holdExhausted)
    (hlost : e = .lineLost → s.gapc.state.carries = false) : s.Unmoved (s.takeEvent e) := by
  have hgap (g : GapCtl) (m : Monitor) (hg : g.state.carries = s.gapc.state.carries) (hm : m.classes = s.smon.classes) :
      s.Unmoved { s with gapc := g, smon := m } := ⟨rfl, rfl, rfl, rfl, rfl, hm, .of_eq rfl, hg⟩
  unfold State.takeEvent
  split
  · next hg => rw [hg] at hlost; cases hlost rfl
  · next hg => rw [hg] at hlost; cases hlost rfl
  · next hg => exact hgap _ _ (by rw [hg]; rfl) rfl
  · next hg => exact hgap _ _ (by rw [hg]; rfl) rfl
  · next hg => exact hgap _ _ (by rw [hg]; rfl) rfl
  · next hg =>
    rw [s.enterDeep_eq, if_neg (by simpa [State.resetsAt, hg] using hr)]
    exact s.deepEntered_unmoved hg
  · exact absurd rfl hexh
  · exact s.setDevice_unmoved .holdLow
  · exact absurd ⟨_, _, rfl⟩ hclass
  · exact hgap _ _ rfl rfl

theorem State.reportDemand_unmoved (hg : s.gapc.state.carries = false) : s.Unmoved s.reportDemand := by
  obtain ⟨hu, hl, -, hr, hw⟩ := s.reportDemand_same
  have haside := s.reportDemand_works.aside s.reportDemand_undisturbed hg
  exact ⟨hu, s.reportDemand_works.ims, hr, hw, hl, s.reportDemand_works.frame.classes, haside.flags, by rw [haside.state]⟩

theorem State.gapStart_keepsFlags (s : State) : s.KeepsFlags s.gapStart := fun i hi => by
  change (s.cflu.setDevice .gapBegin).device.getLsbD i = true
  rw [FlagUnit.getLsbD_setDevice, hi, Bool.true_or]

/-! ### One event among the others, with no RESET accepted -/

theorem State.takeEvents_around_reset {g : SupplyEvent} {other : SupplyEvent → Prop} {before after : State → Prop}
    (hfree : ∀ (t : State) n, (before t → before { t with freeCount := n }) ∧ (after t → after { t with freeCount := n }))
    (hbefore : ∀ (t : State) e, other e → t.resetsAt e = false → before t → before (t.takeEvent e).recomputePermits)
    (hafter : ∀ (t : State) e, other e → t.resetsAt e = false → after t → after (t.takeEvent e).recomputePermits)
    (hg : ∀ t : State, t.resetsAt g = false → before t → after (t.takeEvent g).recomputePermits)
    {es : List SupplyEvent} (hnd : es.Nodup) (hmem : g ∈ es) (hes : ∀ e ∈ es, e ≠ g → other e) (h : before s)
    (hreset : s.clnk.resetAccepted = false) : after (State.takeEvents es.length s es) := by
  have hno (t : State) (e : SupplyEvent) (ht : t.clnk.resetAccepted = false) : t.resetsAt e = false := by
    simp [State.resetsAt, ht]
  have hkeep (t : State) (e : SupplyEvent) (ht : t.clnk.resetAccepted = false) :
      (t.takeEvent e).recomputePermits.clnk.resetAccepted = false :=
    (t.takeEvent_resetAccepted e (hno t e ht)).trans ht
  exact (State.takeEvents_around (before := fun t => before t ∧ t.clnk.resetAccepted = false)
    (after := fun t => after t ∧ t.clnk.resetAccepted = false) (other := other)
    (fun t n => ⟨fun h => ⟨(hfree t n).1 h.1, h.2⟩, fun h => ⟨(hfree t n).2 h.1, h.2⟩⟩)
    (fun t e he h => ⟨hno t e h.2, hbefore t e he (hno t e h.2) h.1, hkeep t e h.2⟩)
    (fun t e he h => ⟨hno t e h.2, hafter t e he (hno t e h.2) h.1, hkeep t e h.2⟩)
    (fun t h => ⟨hno t g h.2, hg t (hno t g h.2) h.1, hkeep t g h.2⟩) hnd hmem hes ⟨h, hreset⟩).1

end

end Sys2Proof.Machine

/-! A segment's class that changes amid the other events of its sample: DOWN, out of DOWN in SUPPLIED and RESTORE, and out of DOWN in
GAP and SETTLE (R13, R62, R63, R82, R88, R92). -/

namespace Sys2Proof.Machine

/-- An event other than those of segment `x`: of LINE or HOLD, or a new class of an idle segment. -/
def SupplyEvent.Beside (x : Seg) (busy : Seg → Prop) (e : SupplyEvent) : Prop :=
  ¬e.IsClass ∧ e ≠ .holdExhausted ∨ ∃ y k, e = .newClass y k ∧ y ≠ x ∧ ¬busy y

section
variable {x : Seg} {busy : Seg → Prop} {s t : State} {k : LineClass}

/-- What the events beside segment `x`'s keep: what stands while nothing moves, and through the new classes of other segments and
through a gap's start. -/
theorem State.takeEvent_beside {P : State → Prop} {e : SupplyEvent} (hun : ∀ t q : State, t.Unmoved q → P t → P q)
    (hclass : ∀ (t : State) y k, y ≠ x → ¬busy y → P t → P (t.takeClass y k))
    (hgap : ∀ t : State, e = .lineLost → t.gapc.state.carries = true → P t → P t.gapStart) (he : e.Beside x busy)
    (hr : t.resetsAt e = false) (h : P t) : P (t.takeEvent e).recomputePermits := by
  refine hun _ _ (State.recomputePermits_unmoved _) ?_
  rcases he with ⟨hno, hexh⟩ | ⟨y, k, rfl, hy, hidle⟩
  · by_cases hlost : e = .lineLost ∧ t.gapc.state.carries = true
    · obtain ⟨rfl, hc⟩ := hlost
      rw [State.takeEvent_lineLost hc]
      exact hun _ _ (State.reportDemand_unmoved (s := t.gapStart) rfl) (hgap t rfl hc h)
    · exact hun _ _ (State.takeEvent_unmoved hr hno hexh fun he => by simpa [he] using hlost) h
  · rw [State.takeEvent_newClass]
    exact hclass t y k hy hidle h

/-- The new class of segment `x` amid the events beside it, with no RESET accepted. -/
theorem State.takeEvents_beside {before after : State → Prop} {es : List SupplyEvent}
    (hbefore : ∀ t q : State, t.Unmoved q → before t → before q) (hafter : ∀ t q : State, t.Unmoved q → after t → after q)
    (hkeepBefore : ∀ (t : State) e, e ∈ es → e.Beside x busy → t.resetsAt e = false → before t →
      before (t.takeEvent e).recomputePermits)
    (hkeepAfter : ∀ (t : State) e, e ∈ es → e.Beside x busy → t.resetsAt e = false → after t →
      after (t.takeEvent e).recomputePermits)
    (htaken : ∀ t : State, before t → after (t.takeClass x k)) (hnd : es.Nodup) (hmem : .newClass x k ∈ es)
    (hes : ∀ e ∈ es, e ≠ .newClass x k → e.Beside x busy) (h : before s) (hreset : s.clnk.resetAccepted = false) :
    after (State.takeEvents es.length s es) :=
  State.takeEvents_around_reset (other := fun e => e ∈ es ∧ e.Beside x busy)
    (fun t n => ⟨hbefore t _ (t.free_unmoved n), hafter t _ (t.free_unmoved n)⟩)
    (fun t e he hr ht => hkeepBefore t e he.1 he.2 hr ht) (fun t e he hr ht => hkeepAfter t e he.1 he.2 hr ht)
    (fun t _ ht => by
      rw [State.takeEvent_newClass]
      exact hafter _ _ (State.recomputePermits_unmoved _) (htaken t ht))
    hnd hmem (fun e he hne => ⟨he, hes e he hne⟩) h hreset

theorem perGet_classes_ne {y : Seg} (hy : y ≠ x) (k : LineClass) :
    perGet (t.takeClass y k).smon.classes x = perGet t.smon.classes x := by
  rw [State.takeClass_classes, perGet_perMod, if_neg hy]

theorem perGet_classes_self (k : LineClass) :
    perGet (t.takeClass x k).smon.classes x = { perGet t.smon.classes x with current := k } := by
  rw [State.takeClass_classes, perGet_perMod, if_pos rfl]

/-! ### DOWN (R62) -/

/-- Before segment `x` goes DOWN: its class stands, no window ends, and units move only within the restore, or to DARK. -/
structure State.Falling (x : Seg) (busy : Seg → Prop) (s t : State) : Prop where
  carried : t.Carried busy
  cls : perGet t.smon.classes x = perGet s.smon.classes x
  moves : State.Moves UnitState.Restoring s t

/-- After it: the link has halted, SEG_DOWN is set, and the units at work are DARK and out of reach. -/
structure State.Fallen (x : Seg) (k : LineClass) (s t : State) : Prop where
  cls : perGet t.smon.classes x = { perGet s.smon.classes x with current := k }
  halted : (perGet t.links x).halted = true
  flag : t.cflu.device.getLsbD (DeviceFlag.segDown x).bit = true
  units : ∀ u e, s.unit u = some e → e.decl.seg = x → e.state.Restoring →
    t.Aloof u ∧ ∃ e', t.unit u = some e' ∧ e'.state = .dark ∧ e'.decl = e.decl

theorem UnitState.Restoring.atSegmentDown {e : UnitEntry} (h : e.state.Restoring) : e.atSegmentDown.state = .dark := by
  unfold UnitEntry.atSegmentDown
  rcases h with h | h | h | h | h | h | h
  any_goals rw [h]; rfl
  rw [h]
  exact h

theorem UnitEntry.atGapStart_state (e : UnitEntry) :
    e.atGapStart.decl = e.decl ∧ (e.atGapStart.state = e.state ∨ e.atGapStart.state = .dark) := by
  unfold UnitEntry.atGapStart
  split
  · exact ⟨rfl, .inl rfl⟩
  · exact ⟨rfl, .inl rfl⟩
  · exact ⟨rfl, .inr rfl⟩

theorem State.Falling.gapStart (h : State.Falling x busy s t) : State.Falling x busy s t.gapStart where
  carried := .of_none Scheduler.stacked_empty rfl
  cls := h.cls
  moves := by
    refine h.moves.trans fun v => ?_
    rw [State.unit_gapStart]
    refine ⟨fun hv => by rw [hv]; rfl, fun e he => ⟨e.atGapStart, by rw [he]; rfl, ?_⟩⟩
    obtain ⟨hdecl, hst⟩ := e.atGapStart_state
    exact ⟨hdecl, hst.imp_right fun hd => by simp [hd, UnitState.Restoring]⟩

theorem State.Falling.of_unmoved {q : State} (h : State.Falling x busy s t) (hq : t.Unmoved q) : State.Falling x busy s q :=
  ⟨hq.carried h.carried, by rw [hq.classes]; exact h.cls, h.moves.trans (.of_units hq.units)⟩

theorem State.Falling.beside (h : State.Falling x busy s t) {e : SupplyEvent} (he : e.Beside x busy) (hr : t.resetsAt e = false) :
    State.Falling x busy s (t.takeEvent e).recomputePermits :=
  State.takeEvent_beside (P := State.Falling x busy s) (fun _ _ hq ht => ht.of_unmoved hq)
    (fun _ _ k hy hb ht => ⟨ht.carried.takeClass hb k, (perGet_classes_ne hy k).trans ht.cls,
      ht.moves.trans (ht.carried.takeClass_moves hb k)⟩)
    (fun _ _ _ ht => ht.gapStart) he hr h

/-- A unit at work on a segment taken DOWN is out of reach: in no record, and IGNORED in the window (R62, R131, R146). -/
theorem State.Carried.takenDown_aloof {u : UnitIx} {e : UnitEntry} (h : t.Carried busy) (he : t.unit u = some e)
    (hseg : e.decl.seg = x) (hst : e.state.Restoring) : (t.takenDown x).Aloof u := by
  obtain ⟨hrsch, hseng, -⟩ := t.takenDown_same x
  refine ⟨⟨?_, fun d hd hw => ?_⟩, fun w hw p hp hv => ?_⟩
  · rw [hrsch]
    exact Scheduler.lacks_removeAll t.rsch u (t.unitOn x) (by rw [State.unitOn, he]; simp [hseg])
  · rw [State.unit_takenDown, he, Option.map_some, if_pos hseg] at hd
    rw [← Option.some.inj hd, hst.atSegmentDown] at hw
    cases hw
  · rw [hseng] at hw
    obtain ⟨w', hw', rfl⟩ := Option.map_eq_some_iff.1 hw
    obtain ⟨q, hq, rfl⟩ := List.mem_map.1 hp
    split at hv
    · rw [if_pos (by assumption)]
    · next hno =>
      rw [if_neg hno]
      by_contra hans
      obtain ⟨d, hd, hdseg⟩ := h.place w' hw' q hq hans
      have hqu : q.unit = u := hv
      rw [hqu] at hd
      rw [Option.some.inj (hd.symm.trans he), hseg] at hdseg
      exact hno (beq_iff_eq.2 hdseg.symm)

theorem State.Falling.taken (h : State.Falling x busy s t) (hx : ¬busy x)
    (hold : (perGet s.smon.classes x).current.usable = true) (hnew : k.usable = false) :
    State.Fallen x k s (t.takeClass x k) := by
  have heq : t.takeClass x k = ((t.classed x k).takenDown x).settled := by
    rw [h.carried.takeClass_eq hx, h.cls, hold, hnew, if_neg (by decide), if_neg (by decide)]
  refine ⟨(perGet_classes_self k).trans (by rw [h.cls]), ?_, ?_, fun u e he hseg hst => ?_⟩
  · rw [heq, ((State.settled_works _).links x).1, (State.takenDown_same _ x).2.2.2.1, State.perGet_onLink, if_pos rfl]
    rfl
  · rw [heq]
    refine (State.settled_undisturbed _).flags _ ?_
    rw [State.takenDown_flags, Bool.or_eq_true]
    exact .inr (by cases x <;> decide)
  · obtain ⟨e', he', hdecl, hst'⟩ := (h.moves u).2 e he
    have hrest : e'.state.Restoring := hst'.elim (fun heq => heq ▸ hst) id
    have hseg' : e'.decl.seg = x := by rw [hdecl, hseg]
    have hcarried := h.carried.classed x k
    have hunit : (t.classed x k).unit u = some e' :=
      (congrArg (fun us : Vector (Option UnitEntry) 24 => us[u.val]) (t.classed_units x k)).trans he'
    generalize t.classed x k = c at heq hcarried hunit
    have hdown : (c.takenDown x).unit u = some e'.atSegmentDown := by
      rw [State.unit_takenDown, hunit, Option.map_some, if_pos hseg']
    have haloof := hcarried.takenDown_aloof hunit hseg' hrest
    obtain ⟨ha, hu⟩ := State.settled_bypasses _ haloof
    rw [heq]
    exact ⟨ha, _, hu.trans hdown, hrest.atSegmentDown, (UnitEntry.atSegmentDown_state e').1.trans hdecl⟩

theorem State.Fallen.of_bypasses {q : State} (h : State.Fallen x k s t) (hc : perGet q.smon.classes x = perGet t.smon.classes x)
    (hh : (perGet q.links x).halted = true) (hf : t.KeepsFlags q)
    (hb : ∀ u e, t.unit u = some e → e.decl.seg = x → e.state = .dark → t.Bypasses q u) : State.Fallen x k s q where
  cls := hc.trans h.cls
  halted := hh
  flag := hf _ h.flag
  units u e he hseg hst := by
    obtain ⟨ha, e', he', hdark, hdecl⟩ := h.units u e he hseg hst
    obtain ⟨ha', hu'⟩ := hb u e' he' (by rw [hdecl, hseg]) hdark ha
    exact ⟨ha', e', hu'.trans he', hdark, hdecl⟩

theorem State.Fallen.of_unmoved {q : State} (h : State.Fallen x k s t) (hq : t.Unmoved q) : State.Fallen x k s q :=
  h.of_bypasses (by rw [hq.classes]) (by rw [hq.links]; exact h.halted) hq.flags fun u _ _ _ _ => hq.bypasses u

theorem State.Fallen.beside (h : State.Fallen x k s t) {e : SupplyEvent} (he : e.Beside x busy) (hr : t.resetsAt e = false) :
    State.Fallen x k s (t.takeEvent e).recomputePermits := by
  refine State.takeEvent_beside (P := State.Fallen x k s) (fun _ _ hq ht => ht.of_unmoved hq) (fun t y k hy _ ht => ?_)
    (fun t _ _ ht => ?_) he hr h
  · refine ht.of_bypasses (perGet_classes_ne hy k) ((State.takeClass_halted_ne hy k).trans ht.halted) (t.takeClass_keepsFlags y k)
      fun u e he hseg _ => t.takeClass_bypasses_ne y k fun d hd => ?_
    rw [Option.some.inj (hd.symm.trans he), hseg]
    exact hy.symm
  · have hlinks : t.gapStart.links = ⟨t.links.a.halt, t.links.b.halt, t.links.c.halt⟩ := rfl
    refine ht.of_bypasses rfl (by rw [hlinks, perGet_halt]; rfl) t.gapStart_keepsFlags fun u e he _ hdark ha => ?_
    have hunit : t.gapStart.unit u = t.unit u := by
      rw [State.unit_gapStart, he, Option.map_some, UnitEntry.atGapStart, hdark]
    refine ⟨⟨⟨⟨fun r hr => (by cases hr), fun r hr => (by cases hr)⟩, fun d hd hw => ?_⟩, fun w hw => (by cases hw)⟩, hunit⟩
    rw [hunit, he] at hd
    rw [← Option.some.inj hd, hdark] at hw
    cases hw

/-- Segment `x` goes DOWN amid the events beside (R13, R62). -/
theorem State.takeEvents_fallen {es : List SupplyEvent} (hs : s.Carried busy) (hx : ¬busy x)
    (hold : (perGet s.smon.classes x).current.usable = true) (hnew : k.usable = false) (hnd : es.Nodup)
    (hmem : .newClass x k ∈ es) (hes : ∀ e ∈ es, e ≠ .newClass x k → e.Beside x busy)
    (hreset : s.clnk.resetAccepted = false) : State.Fallen x k s (State.takeEvents es.length s es) :=
  State.takeEvents_beside (before := State.Falling x busy s) (fun _ _ hq h => h.of_unmoved hq) (fun _ _ hq h => h.of_unmoved hq)
    (fun _ _ _ he hr h => h.beside he hr) (fun _ _ _ he hr h => h.beside he hr) (fun _ h => h.taken hx hold hnew) hnd hmem hes
    ⟨hs, rfl, .refl s⟩ hreset

end

end Sys2Proof.Machine

/-! A segment out of DOWN amid the other events of its sample (R13, R63, R82, R88, R92). -/

namespace Sys2Proof.Machine

section
variable {x : Seg} {busy : Seg → Prop} {s t : State} {k : LineClass}

/-! ### In SUPPLIED and RESTORE -/

/-- A new class elsewhere leaves what segment `x`'s link holds for aloof units, and hands it no poll. -/
theorem State.Carried.takeClass_link_ne {y : Seg} (h : t.Carried busy) (hxy : y ≠ x) (hy : ¬busy y) (k : LineClass) :
    (perGet (t.takeClass y k).links x).polls.Sublist (perGet t.links x).polls ∧
      ∀ u e ex, t.unit u = some e → e.decl.seg ≠ y → t.Aloof u → ex.unit? = some u → (perGet t.links x).Holds ex →
        (perGet (t.takeClass y k).links x).Holds ex := by
  have hclassed : perGet (t.classed y k).links x = perGet t.links x := by rw [(t.classed_same y k).1]
  have hunit (u : UnitIx) : (t.classed y k).unit u = t.unit u :=
    congrArg (fun us : Vector (Option UnitEntry) 24 => us[u.val]) (t.classed_units y k)
  have hsettled {q : State} (hl : perGet q.links x = perGet t.links x)
      (hb : ∀ u e, t.unit u = some e → e.decl.seg ≠ y → t.Bypasses q u) :
      (perGet q.settled.links x).polls.Sublist (perGet t.links x).polls ∧
        ∀ u e ex, t.unit u = some e → e.decl.seg ≠ y → t.Aloof u → ex.unit? = some u → (perGet t.links x).Holds ex →
          (perGet q.settled.links x).Holds ex := by
    refine ⟨hl ▸ q.settled_addsNoPolls x, fun u e ex he hne ha hex hh => ?_⟩
    obtain ⟨-, -, hkeeps⟩ := q.settled_rests (hb u e he hne ha).1.idle
    exact (hkeeps x ex hex).2 (hl ▸ hh)
  have hne {u : UnitIx} {e : UnitEntry} (he : t.unit u = some e) (hseg : e.decl.seg ≠ y) :
      ∀ d, (t.classed y k).unit u = some d → d.decl.seg ≠ y := fun d hd => by
    rw [hunit u, he] at hd
    rwa [← Option.some.inj hd]
  rw [h.takeClass_eq hy]
  split
  · rw [hclassed]
    exact ⟨.refl _, fun _ _ _ _ _ _ _ hh => hh⟩
  · split
    · exact hsettled ((State.links_segmentUsable_ne hxy).trans hclassed) fun u e he hseg => (t.classed_bypasses y k).trans
        (State.segmentUsable_bypasses _ y fun d hd hx => absurd hx (hne he hseg d hd))
    · exact hsettled ((State.links_takenDown_ne hxy).trans hclassed) fun u e he hseg => (t.classed_bypasses y k).trans
        (State.takenDown_bypasses _ y fun d hd hx => absurd hx (hne he hseg d hd))

/-- Before segment `x` comes out of DOWN: its class stands, and its LIVE and DARK units are out of reach. -/
structure State.Rising (x : Seg) (busy : Seg → Prop) (s t : State) : Prop where
  carried : t.Carried busy
  carries : t.gapc.state.carries = true
  cls : perGet t.smon.classes x = perGet s.smon.classes x
  units : ∀ u e, s.unit u = some e → e.decl.seg = x → e.state = .live ∨ e.state = .dark → t.Aloof u ∧ t.unit u = some e

/-- After it: the link runs, and has the polls of the LIVE units and the probes of the DARK ones. -/
structure State.Risen (x : Seg) (busy : Seg → Prop) (k : LineClass) (s t : State) : Prop where
  carried : t.Carried busy
  cls : perGet t.smon.classes x = { perGet s.smon.classes x with current := k }
  halted : (perGet t.links x).halted = false
  flag : k = .openLine → t.cflu.device.getLsbD (DeviceFlag.segOpen x).bit = true
  live : ∀ u e, s.unit u = some e → e.decl.seg = x → e.state = .live →
    t.Aloof u ∧ t.unit u = some { e with pollDue := none } ∧ (perGet t.links x).Holds (.contextPoll u)
  dark : ∀ u e, s.unit u = some e → e.decl.seg = x → e.state = .dark →
    t.Aloof u ∧ t.unit u = some (e.probed true) ∧ (perGet t.links x).Holds (.probe u 0)
  polls : (perGet t.links x).polls.Pairwise (· < ·)

theorem State.Rising.of_unmoved {q : State} (h : State.Rising x busy s t) (hq : t.Unmoved q) : State.Rising x busy s q := by
  refine ⟨hq.carried h.carried, hq.carries.trans h.carries, by rw [hq.classes]; exact h.cls, fun u e he hseg hst => ?_⟩
  obtain ⟨ha, hu⟩ := h.units u e he hseg hst
  exact ⟨(hq.bypasses u ha).1, (hq.unit u).trans hu⟩

theorem State.Rising.beside (h : State.Rising x busy s t) {e : SupplyEvent} (he : e.Beside x busy) (hne : e ≠ .lineLost)
    (hr : t.resetsAt e = false) : State.Rising x busy s (t.takeEvent e).recomputePermits := by
  refine State.takeEvent_beside (P := State.Rising x busy s) (fun _ _ hq ht => ht.of_unmoved hq) (fun t y k hy hb ht => ?_)
    (fun t hlost _ _ => absurd hlost hne) he hr h
  refine ⟨ht.carried.takeClass hb k, (t.takeClass_gapStands y k).carries ht.carries, (perGet_classes_ne hy k).trans ht.cls,
    fun u e he hseg hst => ?_⟩
  obtain ⟨ha, hu⟩ := ht.units u e he hseg hst
  obtain ⟨ha', hu'⟩ := t.takeClass_bypasses_ne y k (fun d hd => by
    rw [Option.some.inj (hd.symm.trans hu), hseg]
    exact hy.symm) ha
  exact ⟨ha', hu'.trans hu⟩

/-- SEG_OPEN is set where the line has opened (R13). -/
theorem State.classed_flag (hold : (perGet t.smon.classes x).current ≠ .openLine) (hk : k = .openLine) :
    (t.classed x k).cflu.device.getLsbD (DeviceFlag.segOpen x).bit = true := by
  unfold State.classed
  simp only
  rw [if_pos ⟨hk, hold⟩]
  change (t.cflu.setDevice (.segOpen x)).device.getLsbD _ = true
  rw [FlagUnit.getLsbD_setDevice, Bool.or_eq_true]
  exact .inr (by cases x <;> decide)

theorem State.usable_classed (t : State) (x : Seg) (k : LineClass) : (t.classed x k).usable x = k.usable := by
  rw [State.usable, (t.classed_same x k).2.2.2, perGet_perMod, if_pos rfl]

theorem State.Aloof.segmentUsable {u : UnitIx} {e : UnitEntry} (h : t.Aloof u) (hu : (t.segmentUsable x).unit u = some e)
    (hst : e.state ≠ .wait) : (t.segmentUsable x).Aloof u where
  idle := ⟨State.lacks_segmentUsable h.idle.1 x, fun d hd hw => absurd hw (Option.some.inj (hu.symm.trans hd) ▸ hst)⟩
  window := by
    rw [State.seng_segmentUsable]
    exact h.window

theorem State.Rising.taken (h : State.Rising x busy s t) (hx : ¬busy x)
    (hold : (perGet s.smon.classes x).current.usable = false) (hnew : k.usable = true) :
    State.Risen x busy k s (t.takeClass x k) := by
  have heq : t.takeClass x k = ((t.classed x k).segmentUsable x).settled := by
    rw [h.carried.takeClass_eq hx, h.cls, hold, hnew, if_neg (by decide), if_pos rfl]
  have hopen : k = .openLine → (t.classed x k).cflu.device.getLsbD (DeviceFlag.segOpen x).bit = true :=
    State.classed_flag (by rw [h.cls]; intro ho; rw [ho] at hold; cases hold)
  have hunits (u : UnitIx) (e : UnitEntry) (he : s.unit u = some e) (hseg : e.decl.seg = x)
      (hst : e.state = .live ∨ e.state = .dark) : (t.classed x k).Aloof u ∧ (t.classed x k).unit u = some e := by
    obtain ⟨ha, hu⟩ := h.units u e he hseg hst
    obtain ⟨ha', hu'⟩ := t.classed_bypasses x k ha
    exact ⟨ha', hu'.trans hu⟩
  have hc : (t.classed x k).gapc.state.carries = true := by rw [t.classed_gapc x k]; exact h.carries
  have hus : (t.classed x k).usable x = true := (t.usable_classed x k).trans hnew
  have hcarried := h.carried.takeClass hx k
  have hcls : perGet (t.takeClass x k).smon.classes x = { perGet s.smon.classes x with current := k } :=
    (perGet_classes_self k).trans (by rw [h.cls])
  rw [heq] at hcarried hcls ⊢
  generalize t.classed x k = c at hopen hunits hc hus hcarried hcls
  obtain ⟨hrun, -, hpolls⟩ := State.segmentUsable_link hc hus
  have hkept {u : UnitIx} {e' : UnitEntry} {ex : Exchange} (ha : c.Aloof u) (hu : (c.segmentUsable x).unit u = some e')
      (hst : e'.state ≠ .wait) (hex : ex.unit? = some u) (hh : (perGet (c.segmentUsable x).links x).Holds ex) :
      (c.segmentUsable x).settled.Aloof u ∧ (c.segmentUsable x).settled.unit u = some e' ∧
        (perGet (c.segmentUsable x).settled.links x).Holds ex := by
    have ha' := ha.segmentUsable hu hst
    obtain ⟨ha'', hu'⟩ := State.settled_bypasses _ ha'
    obtain ⟨-, -, hkeeps⟩ := State.settled_rests _ ha'.idle
    exact ⟨ha'', hu'.trans hu, (hkeeps x ex hex).2 hh⟩
  refine ⟨hcarried, hcls, ((State.settled_works _).links x).1.trans hrun, fun hk => ?_, fun u e he hseg hst => ?_,
    fun u e he hseg hst => ?_, hpolls.sublist (State.settled_addsNoPolls _ x)⟩
  · exact (State.settled_undisturbed _).flags _ (c.segmentUsable_keepsFlags x _ (hopen hk))
  · obtain ⟨ha, hu⟩ := hunits u e he hseg (.inl hst)
    obtain ⟨hu', hh⟩ := (State.segmentUsable_unit hc hus hu hseg).1 hst
    exact hkept ha hu' (by rw [hst]; decide) rfl hh
  · obtain ⟨ha, hu⟩ := hunits u e he hseg (.inr hst)
    obtain ⟨hu', hh⟩ := (State.segmentUsable_unit hc hus hu hseg).2.1 hst
    exact hkept ha hu' (UnitEntry.probed_state_ne_wait _ _) rfl hh

theorem State.Risen.of_unmoved {q : State} (h : State.Risen x busy k s t) (hq : t.Unmoved q) : State.Risen x busy k s q := by
  have hkept {u : UnitIx} {e : UnitEntry} {ex : Exchange} (h : t.Aloof u ∧ t.unit u = some e ∧ (perGet t.links x).Holds ex) :
      q.Aloof u ∧ q.unit u = some e ∧ (perGet q.links x).Holds ex :=
    ⟨(hq.bypasses u h.1).1, (hq.unit u).trans h.2.1, hq.links.symm ▸ h.2.2⟩
  exact ⟨hq.carried h.carried, by rw [hq.classes]; exact h.cls, by rw [hq.links]; exact h.halted, fun hk => hq.flags _ (h.flag hk),
    fun u e he hseg hst => hkept (h.live u e he hseg hst), fun u e he hseg hst => hkept (h.dark u e he hseg hst),
    by rw [hq.links]; exact h.polls⟩

theorem State.Risen.beside (h : State.Risen x busy k s t) {e : SupplyEvent} (he : e.Beside x busy) (hne : e ≠ .lineLost)
    (hr : t.resetsAt e = false) : State.Risen x busy k s (t.takeEvent e).recomputePermits := by
  refine State.takeEvent_beside (P := State.Risen x busy k s) (fun _ _ hq ht => ht.of_unmoved hq) (fun t y j hy hb ht => ?_)
    (fun t hlost _ _ => absurd hlost hne) he hr h
  obtain ⟨hpolls, hholds⟩ := ht.carried.takeClass_link_ne hy hb j
  have hkept {u : UnitIx} {e' : UnitEntry} {ex : Exchange} (hseg : e'.decl.seg = x) (hex : ex.unit? = some u)
      (h : t.Aloof u ∧ t.unit u = some e' ∧ (perGet t.links x).Holds ex) :
      (t.takeClass y j).Aloof u ∧ (t.takeClass y j).unit u = some e' ∧ (perGet (t.takeClass y j).links x).Holds ex := by
    obtain ⟨ha, hu, hh⟩ := h
    have hsy : e'.decl.seg ≠ y := by rw [hseg]; exact hy.symm
    obtain ⟨ha', hu'⟩ := t.takeClass_bypasses_ne y j (fun d hd => Option.some.inj (hu.symm.trans hd) ▸ hsy) ha
    exact ⟨ha', hu'.trans hu, hholds u e' ex hu hsy ha hex hh⟩
  exact ⟨ht.carried.takeClass hb j, (perGet_classes_ne hy j).trans ht.cls, (State.takeClass_halted_ne hy j).trans ht.halted,
    fun hk => t.takeClass_keepsFlags y j _ (ht.flag hk), fun u e he hseg hst => hkept hseg rfl (ht.live u e he hseg hst),
    fun u e he hseg hst => hkept hseg rfl (ht.dark u e he hseg hst), ht.polls.sublist hpolls⟩

/-- Segment `x` comes out of DOWN amid the events beside, in SUPPLIED or RESTORE with the line not lost (R13, R63). -/
theorem State.takeEvents_risen {es : List SupplyEvent} (hs : State.Rising x busy s s) (hx : ¬busy x)
    (hold : (perGet s.smon.classes x).current.usable = false) (hnew : k.usable = true) (hlost : .lineLost ∉ es) (hnd : es.Nodup)
    (hmem : .newClass x k ∈ es) (hes : ∀ e ∈ es, e ≠ .newClass x k → e.Beside x busy)
    (hreset : s.clnk.resetAccepted = false) : State.Risen x busy k s (State.takeEvents es.length s es) := by
  have hne {e : SupplyEvent} (he : e ∈ es) : e ≠ .lineLost := fun h => hlost (h ▸ he)
  exact State.takeEvents_beside (before := State.Rising x busy s) (fun _ _ hq h => h.of_unmoved hq) (fun _ _ hq h => h.of_unmoved hq)
    (fun _ _ hin he hr h => h.beside he (hne hin) hr) (fun _ _ hin he hr h => h.beside he (hne hin) hr)
    (fun _ h => h.taken hx hold hnew) hnd hmem hes hs hreset

/-! ### In GAP and SETTLE -/

/-- With no records and no window in flight, outside SUPPLIED and RESTORE, what stands of segment `x`'s units and link. -/
structure State.Waiting (x : Seg) (s t : State) : Prop where
  carries : t.gapc.state.carries = false
  rsch : t.rsch = { active := none, stack := [], marks := t.rsch.marks }
  seng : t.seng = none
  halted : (perGet t.links x).halted = (perGet s.links x).halted
  units : ∀ u e, s.unit u = some e → e.decl.seg = x → t.unit u = some e

theorem State.Waiting.of_unmoved {q : State} (h : State.Waiting x s t) (hq : t.Unmoved q) : State.Waiting x s q :=
  ⟨hq.carries.trans h.carries, by rw [hq.rsch]; exact h.rsch, hq.seng.trans h.seng, by rw [hq.links]; exact h.halted,
    fun u e he hseg => (hq.unit u).trans (h.units u e he hseg)⟩

theorem State.Waiting.settled (h : State.Waiting x s t) : State.Waiting x s t.settled := by
  rw [State.settled_of_gap h.rsch h.carries]
  exact h.of_unmoved (State.reportDemand_unmoved h.carries)

theorem State.Waiting.classed (h : State.Waiting x s t) (y : Seg) (k : LineClass) : State.Waiting x s (t.classed y k) := by
  obtain ⟨hlinks, hrsch, hseng, -⟩ := t.classed_same y k
  exact ⟨by rw [State.classed_gapc]; exact h.carries, by rw [hrsch]; exact h.rsch, hseng.trans h.seng, by rw [hlinks]; exact h.halted,
    fun u e he hseg => (congrArg (fun us : Vector (Option UnitEntry) 24 => us[u.val]) (t.classed_units y k)).trans
      (h.units u e he hseg)⟩

theorem State.Waiting.segmentDown {y : Seg} (h : State.Waiting x s t) (hy : y ≠ x) : State.Waiting x s (t.segmentDown y) := by
  obtain ⟨hrsch, hseng, -, -, hgapc, -⟩ := t.takenDown_same y
  have hnone : (t.takenDown y).seng = none := by rw [hseng, h.seng]; rfl
  have hend : (t.takenDown y).endWindow = t.takenDown y := by
    unfold State.endWindow
    rw [hnone]
  rw [State.segmentDown_eq, hend]
  refine ⟨by rw [hgapc]; exact h.carries, ?_, hnone, by rw [State.links_takenDown_ne hy]; exact h.halted, fun u e he hseg => ?_⟩
  · rw [hrsch, h.rsch]
    rfl
  · rw [State.unit_takenDown, h.units u e he hseg, Option.map_some, if_neg (by rw [hseg]; exact hy.symm)]

/-- A new class leaves the units and the link of segment `x` unless it is `x`'s and takes it DOWN. -/
theorem State.Waiting.takeClass {y : Seg} (h : State.Waiting x s t) (hy : y ≠ x ∨ k.usable = true) :
    State.Waiting x s (t.takeClass y k) := by
  have hc := h.classed y k
  rw [State.takeClass_eq]
  split
  · exact hc
  · split
    · rw [State.segmentUsable, if_neg (by rw [hc.carries]; decide)]
      exact hc.settled
    · next hk => exact (hc.segmentDown (hy.resolve_right hk)).settled

theorem State.takeClass_flag (hold : (perGet t.smon.classes x).current ≠ .openLine) (hk : k = .openLine) :
    (t.takeClass x k).cflu.device.getLsbD (DeviceFlag.segOpen x).bit = true := by
  have hflag := State.classed_flag hold hk
  rw [State.takeClass_eq]
  split
  · exact hflag
  · split
    · exact (State.settled_undisturbed _).flags _ (State.segmentUsable_keepsFlags _ x _ hflag)
    · rw [State.segmentDown_eq]
      exact (State.settled_undisturbed _).flags _ ((State.endWindow_undisturbed _).flags _ (State.takenDown_keepsFlags _ x _ hflag))

/-- What stands of segment `x` beside its class and, where it opens, its flag. -/
structure State.WaitingAs (x : Seg) (c : ClassState) (opened : Prop) (s t : State) : Prop extends State.Waiting x s t where
  cls : perGet t.smon.classes x = c
  flag : opened → t.cflu.device.getLsbD (DeviceFlag.segOpen x).bit = true

theorem State.WaitingAs.of_unmoved {q : State} {c : ClassState} {p : Prop} (h : State.WaitingAs x c p s t) (hq : t.Unmoved q) :
    State.WaitingAs x c p s q :=
  ⟨h.toWaiting.of_unmoved hq, by rw [hq.classes]; exact h.cls, fun hp => hq.flags _ (h.flag hp)⟩

theorem State.WaitingAs.beside {c : ClassState} {p : Prop} (h : State.WaitingAs x c p s t) {e : SupplyEvent}
    (he : e.Beside x busy) (hr : t.resetsAt e = false) : State.WaitingAs x c p s (t.takeEvent e).recomputePermits :=
  State.takeEvent_beside (P := State.WaitingAs x c p s) (fun _ _ hq ht => ht.of_unmoved hq)
    (fun t y k hy _ ht => ⟨ht.toWaiting.takeClass (.inl hy), (perGet_classes_ne hy k).trans ht.cls,
      fun hp => t.takeClass_keepsFlags y k _ (ht.flag hp)⟩)
    (fun t _ hcarries ht => absurd hcarries (by rw [ht.carries]; decide)) he hr h

/-- Segment `x` comes out of DOWN amid the events beside, in GAP or SETTLE (R13). -/
theorem State.takeEvents_waiting {es : List SupplyEvent} (hs : State.Waiting x s s)
    (hold : (perGet s.smon.classes x).current.usable = false) (hnew : k.usable = true) (hnd : es.Nodup)
    (hmem : .newClass x k ∈ es) (hes : ∀ e ∈ es, e ≠ .newClass x k → e.Beside x busy)
    (hreset : s.clnk.resetAccepted = false) :
    State.WaitingAs x { perGet s.smon.classes x with current := k } (k = .openLine) s (State.takeEvents es.length s es) :=
  State.takeEvents_beside (before := State.WaitingAs x (perGet s.smon.classes x) False s) (fun _ _ hq h => h.of_unmoved hq)
    (fun _ _ hq h => h.of_unmoved hq) (fun _ _ _ he hr h => h.beside he hr) (fun _ _ _ he hr h => h.beside he hr)
    (fun t h => ⟨h.toWaiting.takeClass (.inr hnew), (perGet_classes_self k).trans (by rw [h.cls]),
      State.takeClass_flag (by rw [h.cls]; intro ho; rw [ho] at hold; cases hold)⟩)
    hnd hmem hes ⟨hs, rfl, False.elim⟩ hreset

end

end Sys2Proof.Machine

/-! A class that changes: the sample's events, and the segment once they are taken (R11, R13). -/

namespace Sys2Proof.Machine

section
variable {s : State} {line hold a b c : Code} {x : Seg} {k : LineClass}

/-- An exchange is in flight on a segment's line, so that the line is not sampled (R12). -/
def State.Busy (s : State) (x : Seg) : Prop :=
  (perGet s.links x).inFlight ≠ none

/-- By the laws a CARRYING window has a part on a segment whose line is not idle (R138, R139, R145). -/
theorem State.carried_of_laws (hp : s.powered = true) (hr : s.resetLow = false) (hstack : s.StackLaw) (hflight : s.FlightLaw)
    (hcarry : s.CarryLaw) : s.Carried s.Busy where
  stacked := hstack
  part w hw hc := by
    obtain ⟨-, -, hwindow⟩ := hcarry hp hr
    obtain ⟨⟨z, hz⟩, hparts⟩ := hwindow w hw hc
    obtain ⟨-, f, hf, -⟩ := hparts z hz
    exact ⟨z, fun h => (by rw [hf] at h; cases h), hz⟩
  place w hw p hp hne := by
    obtain ⟨r, -, -, -, hin⟩ := hflight w hw
    exact (hin p hp hne).2

/-- By the laws there are no records and no window outside SUPPLIED and RESTORE (R132). -/
theorem State.no_records_of_laws (hmem : s.MembershipLaw) (hflight : s.FlightLaw) (hg : s.gapc.state.carries = false) :
    s.rsch = { active := none, stack := [], marks := s.rsch.marks } ∧ s.seng = none := by
  have hnone : s.records = [] := by
    by_contra hne
    rcases hmem.2.2.2 hne with h | h <;> rw [h] at hg <;> cases hg
  obtain ⟨hactive, hstack⟩ := List.append_eq_nil_iff.1 hnone
  have hactive' : s.rsch.active = none := Option.toList_eq_nil_iff.1 hactive
  refine ⟨by rw [← hactive', ← hstack], ?_⟩
  by_contra hw
  obtain ⟨w, hw⟩ := Option.ne_none_iff_exists'.1 hw
  obtain ⟨r, hr, -⟩ := hflight w hw
  rw [hactive'] at hr
  cases hr

/-- The `D`-th sample in a row of another class makes it current (R11). -/
theorem classStep_changes {d : Nat} {old : ClassState} (hne : k ≠ old.current)
    (hd : d ≤ if old.candidate = some k then old.count + 1 else 1) :
    classStep d old k = ({ old with candidate := none, count := 0 }, some k) := by
  unfold classStep
  rw [if_neg hne]
  exact if_pos hd

/-- The events of a sample in which the class of `x` changes: that change, and events beside it. -/
theorem State.sampleAll_newClass (hg : s.gapc.state.counts = true) (hon : perGet s.smon.senseOn x = true)
    (hidle : (perGet s.links x).inFlight = none)
    (hstep : s.classStepped x (senseOf a b c x) =
      ({ perGet s.smon.classes x with candidate := none, count := 0 }, some k)) :
    .newClass x k ∈ (s.sampleAll line hold a b c).2 ∧
      (∀ e ∈ (s.sampleAll line hold a b c).2, e ≠ .newClass x k → e.Beside x s.Busy) ∧
      perGet (s.sampleAll line hold a b c).1.classes x = { perGet s.smon.classes x with candidate := none, count := 0 } := by
  have hsenses : s.senses x = true := by simp [State.senses, State.lineIdle, hon, hg, hidle]
  refine ⟨(s.newClass_mem line hold a b c x k).2 ⟨hsenses, by rw [hstep]⟩, fun e he hne => ?_, ?_⟩
  · rcases s.sampleAll_mem line hold a b c he with hin | ⟨y, j, rfl⟩
    · obtain ⟨-, -, -, hexh, hall⟩ := s.smon.supplySample_mem s.gapc.state line hold
      have hno : e ≠ .holdExhausted := by
        rintro rfl
        have := (hexh.1 hin).1
        cases hst : s.gapc.state <;> rw [hst] at hg this <;> cases hg <;> cases this
      refine .inl ⟨?_, hno⟩
      rintro ⟨y, j, rfl⟩
      rcases hall _ hin with h | h | h | h
      · cases h
      · cases h
      · split at h <;> cases h
      · cases h
    · obtain ⟨hy, hj⟩ := (s.newClass_mem line hold a b c y j).1 he
      refine .inr ⟨y, j, rfl, ?_, fun hb => hb ?_⟩
      · rintro rfl
        rw [hstep] at hj
        exact hne (Option.some.inj hj ▸ rfl)
      · simp only [State.senses, State.lineIdle, Bool.and_eq_true, Option.isNone_iff_eq_none] at hy
        exact hy.2
  · rw [(s.sampleAll_events line hold a b c).2 x, if_pos hsenses, hstep]

/-! ### When the command has ended -/

section
variable {q t : State}

theorem State.Ends.classes (h : State.Ends q t) : t.smon.classes = q.smon.classes := by
  rw [h.same]

theorem State.Ends.halted (h : State.Ends q t) (x : Seg) : (perGet t.links x).halted = (perGet q.links x).halted := by
  rw [h.links x, (Link.arbitrate_spec _ _).1]

/-- What a unit and its link are left with when the command ends. -/
theorem State.Ends.holds_unit (h : State.Ends q t) {u : UnitIx} {e : UnitEntry} {ex : Exchange}
    (hu : q.unit u = some e) (hex : ex.unit? = some u) (hn : ex.namesImage = false) (hh : (perGet q.links x).Holds ex) :
    t.unit u = some e ∧ (perGet t.links x).Holds ex :=
  ⟨(h.unit_eq u).trans hu, h.holds hu hex (fun hi => by rw [hn] at hi; cases hi) hh⟩

theorem State.Fallen.ends (h : State.Fallen x k s q) (he : State.Ends q t) :
    perGet t.smon.classes x = { perGet s.smon.classes x with current := k } ∧ (perGet t.links x).halted = true ∧
      t.cflu.device.getLsbD (DeviceFlag.segDown x).bit = true ∧
      ∀ u e, s.unit u = some e → e.decl.seg = x →
        e.state = .probe ∨ e.state = .wait ∨ e.state = .stream ∨ e.state = .suspended ∨ e.state = .verify ∨ e.state = .context →
        ∃ e', t.unit u = some e' ∧ e'.state = .dark ∧ e'.decl = e.decl := by
  refine ⟨by rw [he.classes]; exact h.cls, (he.halted x).trans h.halted, he.keepsFlags _ h.flag, fun u e hu hseg hst => ?_⟩
  have hrest : e.state.Restoring := by
    unfold UnitState.Restoring
    tauto
  obtain ⟨-, e', he', hdark, hdecl⟩ := h.units u e hu hseg hrest
  exact ⟨e', (he.unit_eq u).trans he', hdark, hdecl⟩

theorem State.Risen.ends {busy : Seg → Prop} (h : State.Risen x busy k s q) (he : State.Ends q t) :
    perGet t.smon.classes x = { perGet s.smon.classes x with current := k } ∧ (perGet t.links x).halted = false ∧
      (k = .openLine → t.cflu.device.getLsbD (DeviceFlag.segOpen x).bit = true) ∧
      (∀ u e, s.unit u = some e → e.decl.seg = x → e.state = .live →
        t.unit u = some { e with pollDue := none } ∧ (perGet t.links x).Holds (.contextPoll u)) ∧
      (perGet t.links x).polls.Pairwise (· < ·) ∧
      ∀ u e, s.unit u = some e → e.decl.seg = x → e.state = .dark →
        (perGet t.links x).Holds (.probe u 0) ∧
          ∃ e', t.unit u = some e' ∧ e'.decl = e.decl ∧ e'.state = .probe ∧ e'.probe = some ⟨.probing, 0⟩ ∧ e'.retry = e.retry := by
  refine ⟨by rw [he.classes]; exact h.cls, (he.halted x).trans h.halted, fun hk => he.keepsFlags _ (h.flag hk),
    fun u e hu hseg hst => ?_, ?_, fun u e hu hseg hst => ?_⟩
  · obtain ⟨-, hunit, hh⟩ := h.live u e hu hseg hst
    exact he.holds_unit hunit rfl rfl hh
  · rw [he.links x]
    exact h.polls.sublist (Link.polls_arbitrate _ _)
  · obtain ⟨-, hunit, hh⟩ := h.dark u e hu hseg hst
    obtain ⟨hunit', hh'⟩ := he.holds_unit hunit rfl rfl hh
    exact ⟨hh', _, hunit', rfl, rfl, rfl, rfl⟩

theorem State.WaitingAs.ends {c : ClassState} {p : Prop} (h : State.WaitingAs x c p s q) (he : State.Ends q t) :
    perGet t.smon.classes x = c ∧ (perGet t.links x).halted = (perGet s.links x).halted ∧
      (p → t.cflu.device.getLsbD (DeviceFlag.segOpen x).bit = true) ∧
      ∀ u e, s.unit u = some e → e.decl.seg = x → t.unit u = some e :=
  ⟨by rw [he.classes]; exact h.cls, (he.halted x).trans h.halted, fun hp => he.keepsFlags _ (h.flag hp),
    fun u e hu hseg => (he.unit_eq u).trans (h.units u e hu hseg)⟩

end

end

/-- Settles O24: a segment that goes DOWN, that comes out of DOWN in SUPPLIED and RESTORE, and in GAP and SETTLE. -/
theorem classChangesMoveTheSegment : Obligations.ClassChangesMoveTheSegment := by
  intro s line hold a b c x k hp hr hreset hstack hmem hflight hcarry hg raw m old hon hidle hk hd
  have hcounts : s.gapc.state.counts = true := by rcases hg with h | h | h | h <;> rw [h] <;> rfl
  have hexec := exec_monitorSample (State.running_eq_true hp hr) (fun h => by rw [h] at hcounts; cases hcounts) line hold a b c
  have hk' : k = classOf (filteredCode (s.smon.pushSense x (senseOf a b c x))) := by
    cases x <;> exact hk
  have hchange (hne : k ≠ old.current) := State.sampleAll_newClass (line := line) (hold := hold) hcounts hon hidle
    (show s.classStepped x (senseOf a b c x) = _ by
      rw [State.classStepped, ← hk']
      exact classStep_changes hne hd)
  have hcarried : State.Carried s.Busy { s with smon := (s.sampleAll line hold a b c).1 } := by
    obtain ⟨h1, h2, h3⟩ := State.carried_of_laws hp hr hstack hflight hcarry
    exact ⟨h1, h2, h3⟩
  have hnd := s.sampleAll_nodup line hold a b c
  have hxidle : ¬s.Busy x := fun h => h hidle
  have hends : State.Ends (s.monitorSample line hold a b c) (s.monitorSample line hold a b c).finish := State.ends_finish _
  refine ⟨fun hold' hnew => ⟨_, hexec, ?_⟩, fun hold' hnew => ⟨fun hg' hline => ⟨_, hexec, ?_⟩, fun hg' => ⟨_, hexec, ?_⟩⟩⟩
  · have hku : k.usable = false := by rcases hnew with rfl | rfl <;> rfl
    have hou : old.current.usable = true := by rcases hold' with h | h <;> rw [h] <;> rfl
    obtain ⟨hin, hes, hs1⟩ := hchange fun h => by rw [h, hou] at hku; cases hku
    have hdone := State.takeEvents_fallen hcarried hxidle (by rw [hs1]; exact hou) hku hnd hin hes hreset
    have h := State.Fallen.ends hdone hends
    rw [hs1] at h
    exact h
  all_goals
    have hku : k.usable = true := by rcases hnew with rfl | rfl <;> rfl
    have hou : old.current.usable = false := by rcases hold' with h | h <;> rw [h] <;> rfl
    obtain ⟨hin, hes, hs1⟩ := hchange fun h => by rw [h, hou] at hku; cases hku
  · have hno : .lineLost ∉ (s.sampleAll line hold a b c).2 := fun hl => by
      have hraised := (s.smon.supplySample_mem s.gapc.state line hold).1.1 ((s.supply_mem line hold a b c _ (by simp)).1 hl)
      rcases hline with h | h
      · exact absurd hraised.2.1 (Nat.not_lt.2 h)
      · exact absurd hraised.2.2 (Nat.not_le.2 h)
    have hrising : State.Rising x s.Busy { s with smon := (s.sampleAll line hold a b c).1 }
        { s with smon := (s.sampleAll line hold a b c).1 } := by
      refine ⟨hcarried, by rcases hg' with h | h <;> simp [h, GapState.carries], rfl, fun u e he hseg hst => ⟨?_, he⟩⟩
      obtain ⟨hi, hw⟩ := State.aloof_of_laws hmem hflight he (by rcases hst with h | h <;> rw [h] <;> decide)
      exact ⟨hi, hw⟩
    have hdone := State.takeEvents_risen hrising hxidle (by rw [hs1]; exact hou) hku hno hnd hin hes hreset
    have h := State.Risen.ends hdone hends
    rw [hs1] at h
    exact h
  · have hwaiting : State.Waiting x { s with smon := (s.sampleAll line hold a b c).1 }
        { s with smon := (s.sampleAll line hold a b c).1 } := by
      obtain ⟨hr0, hw0⟩ := State.no_records_of_laws hmem hflight (by rcases hg' with h | h <;> rw [h] <;> rfl)
      exact ⟨by rcases hg' with h | h <;> simp [h, GapState.carries], hr0, hw0, rfl, fun _ _ he _ => he⟩
    have hdone := State.takeEvents_waiting hwaiting (by rw [hs1]; exact hou) hku hnd hin hes hreset
    have h := State.WaitingAs.ends hdone hends
    rw [hs1] at h
    exact h

end Sys2Proof.Machine
